-- ==== Sys2Proof/Word.lean ====
section
/-! DEFINITION. The plain data types of the part: words, bytes, channel and buffer numbers, sequences, epochs
(00_scope.md, Conventions). -/

namespace Sys2Proof

/-- A word is 32 bits at a word-aligned address; bit 0 is the least significant (00_scope.md, Words and bytes). -/
abbrev Word := BitVec 32

/-- One byte of a word, a payload or a memory cell. -/
abbrev Byte := BitVec 8

/-- A channel number 0 to 15 (Chapter 3); also a destination, a peer inbound channel number (R133). -/
abbrev Chan := Fin 16

/-- A staging buffer number 0 to 15 (section 4.3). -/
abbrev Buf := Fin 16

/-- A 12-bit link sequence number (00_scope.md, Sequence order). -/
abbrev Seq := BitVec 12

/-- An 8-bit epoch: one link bring-up (Chapter 5). -/
abbrev Epoch := BitVec 8

end Sys2Proof
end

