-- ==== Sys2Proof/Syntax.lean ====
section
/-! DEFINITION. The commands of the part: one constructor of `Instr` per row of spec/opcode_table.json, with the
operands that reach the part from outside (log 25). -/

namespace Sys2Proof

/-- One word of a bus access: its four byte enables (bit i governs byte lane i) and its write data (R1). -/
structure BusWord where
  be : BitVec 4
  data : Word
deriving DecidableEq, Repr

/-- How an access ends at memory (R9, R14, R15). For FAULT: which words of a write memory kept (the spec: any subset),
and the words a read returned to the host. -/
inductive AccessEnd where
  | ok
  | fault (kept : List Bool) (data : List Word)
deriving DecidableEq, Repr

/-- One link word on a lane (R83), or a received word that cannot be decoded as one, a coding violation (R84). -/
inductive LinkWord where
  | data (w : Word)
  | idle
  | startMark
  | endMark
  | violation
deriving DecidableEq, Repr

/-- Which end of a send FRAME_SEND_END reports: the frame on the lane ended whole, or the oldest abandoned send is
reported (R83, R106). -/
inductive SendEnd where
  | whole
  | abandoned
deriving DecidableEq, Repr

/-- The two steps of a received frame (R90; log 11): a lane report that ends with the good frame hands it to the block
that owns its kind; `taken`: the block takes the oldest frame that has been handed to it. -/
inductive Receipt where
  | handed (lane : List LinkWord)
  | taken
deriving DecidableEq, Repr

/-- The commands: the rows of spec/opcode_table.json, in the table's order. Burst length is the number of words or
byte enables given. `lane` is the link words received since the last command of that kind (log 11). -/
inductive Instr where
  | pinReset (kept : List Bool)
  | resetNRelease (straps : BitVec 4)
  | hostReadArrival (addr : BitVec 26) (enables : List (BitVec 4))
  | hostWriteArrival (addr : BitVec 26) (words : List BusWord)
  | memoryGrant
  | hostAccessEnd (e : AccessEnd)
  | memoryResponseTimeout (kept : List Bool) (answered : List Word)
  | completedWriteRecord
  | argumentWordWrite
  | consumerIndexWrite
  | interruptControlWrite
  | echo
  | loadChannel
  | stopChannel
  | linkEnable
  | linkDisable
  | eventsStart
  | eventsStop
  | snapshot
  | badCommand
  | responseDetailWriteEnd (e : AccessEnd)
  | responseWordWriteEnd (e : AccessEnd)
  | channelRecordReadEnd (e : AccessEnd)
  | linkRecordReadEnd (e : AccessEnd)
  | stagingBegin (c : Chan)
  | stagingReadEnd (e : AccessEnd)
  | refetchClaimGranted
  | refetchReadEnd (e : AccessEnd)
  | writebackHeaderBurstEnd (e : AccessEnd)
  | writebackWord0End (e : AccessEnd)
  | sendInit
  | sendAck
  | sendNak
  | sendCredit
  | resend
  | firstSend
  | frameSendEnd (how : SendEnd)
  | ackReceived (how : Receipt)
  | nakReceived (how : Receipt)
  | ackTimerExpiry
  | initTimerExpiry
  | lockAcquired (lane : List LinkWord)
  | lockLost (lane : List LinkWord)
  | damagedFrame (lane : List LinkWord)
  | initReceived (lane : List LinkWord)
  | syncTimerExpiry
  | linkStatusWriteEnd (e : AccessEnd)
  | transmitLinkReset
  | captureLinkReset
  | landingLinkReset
  | creditLinkReset
  | dataReceived (how : Receipt)
  | landingPayloadWriteEnd (e : AccessEnd)
  | landingHeaderWriteEnd (e : AccessEnd)
  | landingWord0WriteEnd (e : AccessEnd)
  | ackDelayExpiry
  | guardTimerExpiry
  | creditReceived (how : Receipt)
  | refreshTimerExpiry
  | eventRecordWriteEnd (e : AccessEnd)
  | eventsLostWriteEnd (e : AccessEnd)
  | producerWriteEnd (e : AccessEnd)
  | startProducerWriteEnd (e : AccessEnd)
  | snapshotBurstEnd (e : AccessEnd)
deriving DecidableEq, Repr

end Sys2Proof
end

