-- ==== Sys2Proof/Decode.lean ====
section
/-! DEFINITION. The command that a word spells by the table's bits. No row of spec/opcode_table.json gives bits
(98_reader.md: n_rows_with_fixed 0, n_rows_with_fields 0), so no word spells a command (log 25). Software's mailbox
commands are words of memory, decoded by the Command Unit (R23, R26) in Machine/. -/

namespace Sys2Proof

/-- The command an opcode-table word spells: none, since no row of the table has bits. -/
def decodeTableWord (nbits w : Nat) : Option Instr :=
  match nbits, w with
  | _, _ => none

end Sys2Proof
end

