-- ==== Sys2Proof/Config.lean ====
section
/-! DEFINITION. What the part fixes once (limits and codes the spec states) and the free values the spec leaves open. -/

namespace Sys2Proof.Config

/-- Size of the memory space in bytes: 256 MiB (00_scope.md, Addresses). -/
def memorySize : Nat := 268435456

/-- Memory response limit in microseconds: fixed (R13). -/
def memoryResponseLimit : Nat := 100

/-- INIT timer interval in microseconds: fixed (R96). -/
def initInterval : Nat := 100

/-- ECHO detail: part code 0x0416, revision 0x0001 (R31). -/
def partIdentification : Word := 0x04160001#32

/-- At most this many staging buffers are bound for capture at any time (R59). -/
def captureBindLimit : Nat := 14

/-- At most this many entries in the replay list (R104, R108). -/
def replayLimit : Nat := 32

/-- Places of the landing queue (R118). -/
def landingPlaces : Nat := 4

/-- Places of the internal event queue (R166). -/
def eventPlaces : Nat := 8

/-- Most data words of a frame on the incoming lane (R86). -/
def frameLimit : Nat := 260

/-- DESIGN CHOICE (log 5), unsafe: what a byte of memory that nothing has written reads as. -/
def unlistedByte : Byte := 0#8

/-- FREE VALUE (log 7): the word whose byte lanes a host read returns where the lane takes no part in the access or
where the command's operand gives no word. R1 gives those lanes no value. Applied to `State.free`. -/
opaque undrivenWord : Nat → Word

end Sys2Proof.Config
end

