-- ==== Sys2Proof/Machine/State.lean ====
section
/-! DEFINITION. The state of the part, unit by unit (00_scope.md, Block overview), as plain data; the attached memory;
the queue of waiting commands; the state after reset. -/

namespace Sys2Proof.Machine

/-! ### Bus and memory port (Chapter 1) -/

/-- A host access as the host presents it: direction, word address (byte address bits 27 to 2), words (R1). -/
structure HostAccess where
  write : Bool
  addr : BitVec 26
  words : List BusWord
deriving DecidableEq, Repr

/-- One word of a completed-write record: its byte address, byte enables and data (R7). -/
structure RecordWord where
  addr : Nat
  be : BitVec 4
  data : Word
deriving DecidableEq, Repr

/-- A completed-write record (R7). The burst length is the number of words. -/
structure WriteRecord where
  start : Nat
  words : List RecordWord
  ok : Bool
deriving DecidableEq, Repr

/-- The five states of the Host Port with what each holds (R3). -/
inductive HostPort where
  | idle
  | held (a : HostAccess)
  | waiting (a : HostAccess)
  | transfer (a : HostAccess)
  | handoff (r : WriteRecord)
deriving DecidableEq, Repr

/-- The last answer given to the host: direction, the words a read returned, end status OK or not (R4, R14). The
model's own record of the host port's outputs (log 27). -/
structure HostAnswer where
  write : Bool
  data : List Word
  ok : Bool
deriving DecidableEq, Repr

/-- The two sides of the arbiter (R11). -/
inductive Side where
  | host
  | device
deriving DecidableEq, Repr

/-- The owners of class 3, in their order (R10). -/
inductive RecordOwner where
  | capture
  | command
  | event
  | link
deriving DecidableEq, Repr

/-- The owners of class 4, in their order (R10). -/
inductive TableOwner where
  | matcher
  | link
deriving DecidableEq, Repr

/-- The four ring writes of the Event Unit: an event's record, an EVENTS_LOST record with the count it carries, the
producer write, and the producer write of EVENTS_START (R169, R170, R173). -/
inductive RingKind where
  | event
  | lost (count : Word)
  | producer
  | start
deriving DecidableEq, Repr

/-- What a device access is for: it fixes the owner and the class (R10), and who takes its end. -/
inductive Purpose where
  | landPayload
  | landHeader
  | landWord0
  | staging (b : Buf)
  | refetch (b : Buf)
  | wbHeader
  | wbWord0
  | respDetail
  | respWord
  | ring (k : RingKind)
  | snapshot
  | linkStatus
  | channelRecord (n : Chan)
  | linkRecord
deriving DecidableEq, Repr

/-- A device request: direction, start byte address, and the byte enables and write data of each word (R10). -/
structure DevReq where
  purpose : Purpose
  write : Bool
  addr : Nat
  words : List BusWord
deriving DecidableEq, Repr

/-- The requests that wait for a grant: at most one for each owner and class (R10). -/
structure Requests where
  landing : Option DevReq
  captureRead : Option DevReq
  captureRecord : Option DevReq
  command : Option DevReq
  event : Option DevReq
  linkStatus : Option DevReq
  channelRecord : Option DevReq
  linkRecord : Option DevReq
deriving DecidableEq, Repr

/-- The access in progress at memory: the Host Port's, or a device request (R9). -/
inductive Grant where
  | host
  | device (r : DevReq)
deriving DecidableEq, Repr

/-- The memory port and its arbiter (R9, R11, R12, R13). The timer holds the microseconds left (log 12). -/
structure MemPort where
  granted : Option Grant
  lastSide : Side
  last3 : RecordOwner
  last4 : TableOwner
  timer : Option Nat
deriving DecidableEq, Repr

/-! ### Window Matcher (Chapters 2 and 3) -/

/-- The direction of a loaded channel with the fields used for it (R33). -/
inductive Direction where
  | outbound (dest : Chan) (capture : Bool)
  | inbound (guardLimit : Nat) (posted : Nat)
deriving DecidableEq, Repr

/-- The installed fields of an active channel record: direction, slot size in bytes, slot count, base (R34). -/
structure ChanCfg where
  dir : Direction
  size : Nat
  count : Nat
  base : Nat
deriving DecidableEq, Repr

/-- Channel states; the installed fields exist only when not OFF (R34). -/
inductive ChanState where
  | off
  | active (cfg : ChanCfg)
  | stopping (cfg : ChanCfg)
deriving DecidableEq, Repr

/-- One active channel record: state and generation (R34). -/
structure Channel where
  state : ChanState
  generation : BitVec 8
deriving DecidableEq, Repr

/-- The Window Matcher: anchor, five latches, channel table (R18, R20, R34). -/
structure Matcher where
  anchor : BitVec 4
  arg1 : Word
  arg2 : Word
  arg3 : Word
  consumer : Word
  intEnable : Word
  chans : Vector Channel 16
deriving DecidableEq, Repr

/-! ### Command Unit (Chapter 2) -/

/-- An accepted command: the fields of the command word and its argument copies (section 2.5). -/
structure Command where
  code : BitVec 8
  tag : BitVec 8
  chan : Chan
  arg1 : Word
  arg2 : Word
  arg3 : Word
deriving DecidableEq, Repr

/-- The result codes of R30. -/
inductive Result where
  | done
  | badCommand
  | badChannel
  | channelActive
  | channelIdle
  | badGeometry
  | overlap
  | destInUse
  | linkActive
  | badParameter
  | eventsActive
  | eventsIdle
  | memoryFault
deriving DecidableEq, Repr

/-- The phase of the executing command; from the end of RUNNING with its result and detail (section 2.5). -/
inductive Phase where
  | running
  | detail (r : Result) (d : Word)
  | response (r : Result) (d : Word)
deriving DecidableEq, Repr

/-- The executing place: a command and its phase. -/
structure Executing where
  cmd : Command
  phase : Phase
deriving DecidableEq, Repr

/-- The Command Unit's two places (R24). -/
structure CommandUnit where
  executing : Option Executing
  waiting : Option Command
deriving DecidableEq, Repr

/-! ### Capture Unit and staging pool (Chapter 4) -/

/-- The status codes of header word 0 (R43). -/
inductive Status where
  | none
  | delivered
  | refusedClosed
  | refusedNoSlot
  | refusedTooLong
  | refusedFault
  | linkLost
  | badLength
  | stopped
  | memoryFault
  | peerClosed
deriving DecidableEq, Repr

/-- The eight states of an outbound slot (section 4.1). -/
inductive OutState where
  | open
  | filling
  | held
  | committed
  | staging
  | ready
  | inFlight
  | completing
deriving DecidableEq, Repr

/-- What a sent frame's completion records: sequence, epoch of the last send, send count (R75). -/
structure SentInfo where
  seq : Seq
  epoch : Epoch
  sends : Nat
deriving DecidableEq, Repr

/-- A slot's completion: status, completion time, and the sent-frame fields if it was sent (R54, R75). -/
structure Completion where
  status : Status
  time : Word
  sent : Option SentInfo
deriving DecidableEq, Repr

/-- An outbound slot record (R54). `length` and `notify` are those of the commit; what they hold while the slot is OPEN
is the model's own (log 40). -/
structure OutSlot where
  state : OutState
  buf : Option Buf
  length : Nat
  notify : Bool
  done : Option Completion
deriving DecidableEq, Repr

/-- The slot records and cursors of one outbound channel (R54, R55); no slots when the channel is not loaded. -/
structure OutRing where
  slots : List OutSlot
  commitCursor : Nat
  transmitCursor : Nat
deriving DecidableEq, Repr

/-- The six states of a staging buffer (R58). -/
inductive BufState where
  | free
  | capturing
  | frozen
  | loading
  | ready
  | sending
deriving DecidableEq, Repr

/-- Why a buffer was taken from FREE (section 4.3). -/
inductive BufPurpose where
  | capture
  | staging
  | refetch
deriving DecidableEq, Repr

/-- A buffer record (section 4.3). `bytes` lists the valid bytes by buffer byte number, rising; a byte not listed has
a clear valid flag (log 14). -/
structure Buffer where
  state : BufState
  purpose : Option BufPurpose
  binding : Option (Chan × Nat)
  bytes : List (Nat × Byte)
deriving DecidableEq, Repr

/-- A planned burst of a slot: first word offset and number of words (R65). -/
structure Burst where
  off : Nat
  len : Nat
deriving DecidableEq, Repr

/-- What becomes of the buffer of an ended job when its granted read ends (R58, R81). -/
inductive Drop where
  | free
  | freeze
deriving DecidableEq, Repr

/-- A read job: one staging or one refetch with its remaining bursts, the first of them presented or next (R66).
`drop` is set for a job that was ended while its burst was granted. -/
structure ReadJob where
  refetch : Bool
  chan : Chan
  slot : Nat
  len : Nat
  buf : Buf
  bursts : List Burst
  drop : Option Drop
deriving DecidableEq, Repr

/-- The refetch in hand: a waiting claim when `buf` is absent, otherwise granted that buffer (R73). -/
structure Refetch where
  chan : Chan
  slot : Nat
  len : Nat
  buf : Option Buf
deriving DecidableEq, Repr

/-- How far the write-back of the head of the write-back queue is (R76). -/
inductive WbPhase where
  | idle
  | header
  | word0
deriving DecidableEq, Repr

/-- The Capture Unit and the staging pool. -/
structure CaptureUnit where
  rings : Vector OutRing 16
  bufs : Vector Buffer 16
  lastGranted : Chan
  jobs : List ReadJob
  refetch : Option Refetch
  wbQueue : List (Chan × Nat)
  wbPhase : WbPhase
deriving DecidableEq, Repr

/-! ### Link Controller (Chapter 5) -/

/-- The four link states (R91). -/
inductive LinkState where
  | off
  | down
  | sync
  | up
deriving DecidableEq, Repr

/-- The last cause: NONE or one of the six causes of R101. -/
inductive Cause where
  | none
  | linkDisable
  | lockLost
  | syncTimeout
  | retryLimit
  | peerRestart
  | replayFault
deriving DecidableEq, Repr

/-- The link parameters (R93): counts of microseconds, the sync timeout in milliseconds. -/
structure LinkParams where
  retryLimit : Nat
  ackDelay : Nat
  syncTimeout : Nat
  ackTimeout : Nat
  creditRefresh : Nat
deriving DecidableEq, Repr

/-- The lock detector and the receiver of the incoming lane (R84, R86): in lock or not, the consecutive good words
(out of lock) or violations (in lock), and the data words of the frame being received. -/
structure LaneRx where
  lock : Bool
  run : Nat
  frame : Option (List Word)
deriving DecidableEq, Repr

/-- The Link Controller (R91), with the notices it has sent and each block has not yet taken (R101), and the call for
one more status write (R102). -/
structure LinkController where
  state : LinkState
  localEpoch : Epoch
  heard : Option Epoch
  params : Option LinkParams
  lastCause : Cause
  syncTimer : Option Nat
  initTimer : Option Nat
  initRequest : Bool
  acks : Nat
  txNotices : Nat
  capNotices : Nat
  landNotices : Nat
  credNotices : Nat
  changes : BitVec 8
  statusAgain : Bool
  rx : LaneRx
deriving DecidableEq, Repr

/-! ### Transmit Engine (Chapter 6) -/

/-- Refusal reasons, codes 0 to 3 (section 5.2). -/
inductive Reason where
  | closed
  | noSlot
  | tooLong
  | landingFault
deriving DecidableEq, Repr

/-- A refusal entry (section 5.2, R123). -/
structure RefusalEntry where
  seq : Seq
  chan : Chan
  reason : Reason
deriving DecidableEq, Repr

/-- A good ACK or NAK handed to the Transmit Engine and not yet taken by it (R90). -/
inductive TxArrival where
  | ack (disposed : Option Seq) (refusals : List RefusalEntry)
  | nak (expected : Seq)
deriving DecidableEq, Repr

/-- A replay entry (R108). -/
structure ReplayEntry where
  seq : Seq
  chan : Chan
  slot : Nat
  length : Nat
  sends : Nat
  mark : Option Reason
deriving DecidableEq, Repr

/-- A replay pass: the sequence of its position entry, and whether it is halted (R103). -/
structure Pass where
  pos : Seq
  halted : Bool
deriving DecidableEq, Repr

/-- A control frame request (R105). -/
inductive CtlReq where
  | ack
  | nak
  | credit (c : Chan)
deriving DecidableEq, Repr

/-- One frame on the outgoing lane: its data words, the CRC word last, and for DATA the buffer it is sent from. -/
structure Send where
  words : List Word
  buf : Option Buf
deriving DecidableEq, Repr

/-- The Transmit Engine (R103); `abandoned` holds the abandoned sends whose end is still to be reported (R106), `inbox`
the frames handed to it and not yet taken, oldest first (R90). -/
structure TransmitEngine where
  replay : List ReplayEntry
  nextSeq : Seq
  pass : Option Pass
  refetch : Option Seq
  ackTimer : Option Nat
  queue : List CtlReq
  lastServed : Chan
  sending : Option Send
  abandoned : List Send
  inbox : List TxArrival
deriving DecidableEq, Repr

/-! ### Landing Engine (Chapters 6 and 8) -/

/-- The four states of an inbound slot (section 8.1). -/
inductive InState where
  | host
  | held
  | posted
  | landing
deriving DecidableEq, Repr

/-- An inbound slot record (R141). `notify` is that of the last release; what it holds while the slot is HOST is the
model's own (log 40). -/
structure InSlot where
  state : InState
  notify : Bool
deriving DecidableEq, Repr

/-- The slot records and cursors of one inbound channel (R141, R142). -/
structure InRing where
  slots : List InSlot
  releaseCursor : Nat
  landCursor : Nat
deriving DecidableEq, Repr

/-- The phase of a landing (R146); PAYLOAD with its remaining bursts. -/
inductive LandPhase where
  | waiting
  | payload (bursts : List Burst)
  | header
  | control
deriving DecidableEq, Repr

/-- What only a landing entry holds (R146); `begun` once its first write has been granted (R147). -/
structure Landing where
  slot : Nat
  user : Word
  payload : List Byte
  phase : LandPhase
  fault : Bool
  kept : Bool
  begun : Bool
deriving DecidableEq, Repr

/-- The verdict of a landing queue entry (R145). -/
inductive Verdict where
  | refusal (r : Reason)
  | landing (l : Landing)
deriving DecidableEq, Repr

/-- A landing queue entry (R146). -/
structure LandEntry where
  seq : Seq
  epoch : Epoch
  chan : Chan
  length : Nat
  verdict : Verdict
deriving DecidableEq, Repr

/-- The held read: its holding slots in burst order and the microseconds left of its guard timer (R153). -/
structure HeldRead where
  slots : List (Chan × Nat)
  timer : Nat
deriving DecidableEq, Repr

/-- What has been handed to the Landing Engine and not yet taken by it (R88, R90): a good DATA frame, or the report of a
damaged data arrival that came behind one (log 35). -/
inductive LandArrival where
  | data (chan : Chan) (seq : Seq) (user : Word) (payload : List Byte)
  | damage
deriving DecidableEq, Repr

/-- The Landing Engine (R118, R141, R146, R153); `inbox` holds the arrivals not yet taken, oldest first (R90). -/
structure LandingEngine where
  expected : Seq
  queue : List LandEntry
  disposed : Option Seq
  refusals : List RefusalEntry
  nakFlag : Bool
  batch : Nat
  ackDelay : Option Nat
  rings : Vector InRing 16
  heldRead : Option HeldRead
  inbox : List LandArrival
deriving DecidableEq, Repr

/-! ### Credit Unit (Chapter 7) -/

/-- The posted total P: none, unknown, or a number (R128). -/
inductive Posted where
  | none
  | unknown
  | total (n : BitVec 16)
deriving DecidableEq, Repr

/-- A receive record (R128). -/
structure RecvRecord where
  generation : BitVec 8
  posted : Posted
  queued : Bool
deriving DecidableEq, Repr

/-- The peer state of a send record (R133). -/
inductive PeerState where
  | unknown
  | open
  | closed
deriving DecidableEq, Repr

/-- A send record (R133). -/
structure SendRecord where
  sent : BitVec 16
  advertised : Option (BitVec 16)
  generation : Option (BitVec 8)
  peer : PeerState
deriving DecidableEq, Repr

/-- A good CREDIT handed to the Credit Unit and not yet taken by it (R90). -/
structure CreditArrival where
  chan : Chan
  isOpen : Bool
  generation : BitVec 8
  total : BitVec 16
deriving DecidableEq, Repr

/-- The Credit Unit: sixteen receive records by inbound channel, sixteen send records by destination, the refresh
timer (R128, R131, R133), and the CREDITs not yet taken, oldest first (R90). -/
structure CreditUnit where
  recv : Vector RecvRecord 16
  send : Vector SendRecord 16
  refresh : Option Nat
  inbox : List CreditArrival
deriving DecidableEq, Repr

/-! ### Event Unit (Chapter 9) -/

/-- The run state (R163). -/
inductive RunState where
  | stopped
  | running
  | draining
deriving DecidableEq, Repr

/-- The kinds of a posted event (R165); EVENTS_LOST is formed by the Event Unit itself (R170). -/
inductive EventKind where
  | linkUp
  | linkDown
  | commitRejected
  | duplicateCommit
  | duplicateRelease
  | ownershipViolation
  | tornRead
  | slotDone
  | slotLanded
  | frameRefused
  | commandOverrun
  | memoryFault
deriving DecidableEq, Repr

/-- An event as it waits in the internal queue (R164). -/
structure Event where
  kind : EventKind
  chan : Chan
  detail1 : Word
  detail2 : Word
  time : Word
deriving DecidableEq, Repr

/-- The ring in memory: base byte address and size in records (R163). -/
structure RingCfg where
  base : Nat
  size : Nat
deriving DecidableEq, Repr

/-- The ring access in progress: its kind, address and words (R163, R169). -/
structure RingWrite where
  kind : RingKind
  addr : Nat
  words : List Word
deriving DecidableEq, Repr

/-- The four counters of a channel (R176). -/
structure ChanCounters where
  handovers : Word
  delivered : Word
  refusals : Word
  violations : Word
deriving DecidableEq, Repr

/-- All counters (R176). -/
structure Counters where
  chans : Vector ChanCounters 16
  crcErrors : Word
  framingErrors : Word
  naksSent : Word
  naksReceived : Word
  replayPasses : Word
  ackTimeouts : Word
  linkResets : Word
  staleFrames : Word
  creditViolations : Word
  tornReads : Word
  eventsLost : Word
deriving DecidableEq, Repr

/-- The snapshot image: the copied counters, the image time, the burst to be written next, and the address of the
first burst that faulted (R178, R180). -/
structure SnapImage where
  counters : Counters
  time : Word
  next : Nat
  firstFault : Option Nat
deriving DecidableEq, Repr

/-- Which kind of access the Event Unit had last (R172). -/
inductive EventAccess where
  | ring
  | snapshot
deriving DecidableEq, Repr

/-- The Event Unit (R163, R172). -/
structure EventUnit where
  run : RunState
  ringCfg : Option RingCfg
  producer : Nat
  queue : List Event
  lostCount : Word
  lostHold : Bool
  ring : Option RingWrite
  counters : Counters
  snap : Option SnapImage
  lastAccess : EventAccess
deriving DecidableEq, Repr

/-! ### The whole part -/

/-- The state of the part, of the attached memory, and of the queue of waiting commands. `laneOut` is the outgoing
lane: what the transmitter puts on it from its last change on, in order, the last item over and over; `none` is
silence (R83; log 29). `presented` is an access that the host presents and the Host Port has not taken: its select is
left without ready until the Host Port next enters IDLE, or RESET_N is released (R3, R8). `free` counts the free
values used (log 7). -/
structure State where
  resetLow : Bool
  timebase : Word
  intOut : Bool
  laneOut : List (Option LinkWord)
  mem : List Host.Cell
  host : HostPort
  presented : Option HostAccess
  answer : Option HostAnswer
  port : MemPort
  reqs : Requests
  wm : Matcher
  cmd : CommandUnit
  cap : CaptureUnit
  link : LinkController
  tx : TransmitEngine
  land : LandingEngine
  cred : CreditUnit
  ev : EventUnit
  free : Nat
  pending : List Instr
deriving DecidableEq, Repr

/-- Why the machine stops: only a host access that the port's lines cannot carry. -/
inductive Fault where
  /-- Raised by HOST_READ_ARRIVAL and HOST_WRITE_ARRIVAL for a burst length other than 1, 2, 4 or 8. R1 knows no
  such access and gives it no effect. Safe: the model stops where no hardware behaviour exists (log 22). -/
  | burstLength
deriving DecidableEq, Repr

/-- Why a command has no meaning. -/
inductive Refusal where
  /-- Raised by no arm of `exec`: every command has its meaning. Safe. -/
  | notModelled (mnemonic : String)
deriving DecidableEq, Repr

/-! ### Reset values -/

/-- No request waits. -/
def Requests.empty : Requests := ⟨.none, .none, .none, .none, .none, .none, .none, .none⟩

/-- The memory port after pin reset (R11, R12, R13, R17): the first owner listed of each class goes first. -/
def MemPort.reset : MemPort := ⟨.none, .device, .link, .link, .none⟩

/-- The Window Matcher after pin reset (R20, R34); the anchor is 0 until the straps are sampled (log 3). -/
def Matcher.reset : Matcher := ⟨0#4, 0#32, 0#32, 0#32, 0#32, 0#32, Vector.replicate 16 ⟨.off, 0#8⟩⟩

/-- No slot records (R54); the cursors, which an unloaded channel does not have, are held as 0 (log 40). -/
def OutRing.empty : OutRing := ⟨[], 0, 0⟩

/-- No slot records (R141); the cursors, which an unloaded channel does not have, are held as 0 (log 40). -/
def InRing.empty : InRing := ⟨[], 0, 0⟩

/-- A FREE buffer has no binding, no purpose and no valid byte (R58). -/
def Buffer.free : Buffer := ⟨.free, .none, .none, []⟩

/-- The Capture Unit after pin reset (R82). -/
def CaptureUnit.reset : CaptureUnit :=
  ⟨Vector.replicate 16 OutRing.empty, Vector.replicate 16 Buffer.free, 15, [], .none, [], .idle⟩

/-- Out of lock, between frames (R84, R86). -/
def LaneRx.reset : LaneRx := ⟨false, 0, .none⟩

/-- The Link Controller after pin reset (R91). -/
def LinkController.reset : LinkController :=
  ⟨.off, 0#8, .none, .none, .none, .none, .none, false, 0, 0, 0, 0, 0, 0#8, false, LaneRx.reset⟩

/-- The Transmit Engine after pin reset (R103). -/
def TransmitEngine.reset : TransmitEngine := ⟨[], 0#12, .none, .none, .none, [], 15, .none, [], []⟩

/-- The Landing Engine after pin reset (R118, R146, R153, R162). -/
def LandingEngine.reset : LandingEngine :=
  ⟨0#12, [], .none, [], false, 0, .none, Vector.replicate 16 InRing.empty, .none, []⟩

/-- A send record after pin reset or a link reset (R133, R139). -/
def SendRecord.reset : SendRecord := ⟨0#16, .none, .none, .unknown⟩

/-- The Credit Unit after pin reset (R128, R131, R133). -/
def CreditUnit.reset : CreditUnit :=
  ⟨Vector.replicate 16 ⟨0#8, .none, false⟩, Vector.replicate 16 SendRecord.reset, .none, []⟩

/-- All counters 0 (R177). -/
def Counters.zero : Counters :=
  ⟨Vector.replicate 16 ⟨0#32, 0#32, 0#32, 0#32⟩, 0#32, 0#32, 0#32, 0#32, 0#32, 0#32, 0#32, 0#32, 0#32, 0#32, 0#32⟩

/-- The Event Unit after pin reset (R163, R172). -/
def EventUnit.reset : EventUnit :=
  ⟨.stopped, .none, 0, [], 0#32, false, .none, Counters.zero, .none, .snapshot⟩

/-- The machine right after reset: RESET_N is still low (log 3), every unit in its first state, memory with nothing
listed, no command waiting. -/
def State.reset : State where
  resetLow := true
  timebase := 0#32
  intOut := false
  laneOut := [.none]
  mem := []
  host := .idle
  presented := .none
  answer := .none
  port := MemPort.reset
  reqs := Requests.empty
  wm := Matcher.reset
  cmd := ⟨.none, .none⟩
  cap := CaptureUnit.reset
  link := LinkController.reset
  tx := TransmitEngine.reset
  land := LandingEngine.reset
  cred := CreditUnit.reset
  ev := EventUnit.reset
  free := 0
  pending := []

end Sys2Proof.Machine
end

