-- ==== Sys2Proof/Machine/Memory.lean ====
section
/-! DEFINITION. Sparse byte maps; the attached memory in canonical form; words and bursts over it (R1, R9, R85). -/

namespace Sys2Proof.Machine

/-! ### Byte maps: address and byte pairs, addresses strictly rising -/

/-- The byte listed at `k`, if any. -/
def mapLookup : List (Nat × Byte) → Nat → Option Byte
  | [], _ => none
  | (a, b) :: m, k => if a = k then some b else mapLookup m k

/-- The map with `b` listed at `k`. -/
def mapInsert : List (Nat × Byte) → Nat → Byte → List (Nat × Byte)
  | [], k, b => [(k, b)]
  | (a, x) :: m, k, b =>
    if k < a then (k, b) :: (a, x) :: m
    else if k = a then (k, b) :: m
    else (a, x) :: mapInsert m k b

/-- The map with nothing listed at `k`. -/
def mapErase : List (Nat × Byte) → Nat → List (Nat × Byte)
  | [], _ => []
  | (a, x) :: m, k => if a = k then m else (a, x) :: mapErase m k

/-- Addresses strictly rising. -/
def mapSorted : List (Nat × Byte) → Bool
  | [] => true
  | (a, _) :: m => m.all (fun c => decide (a < c.1)) && mapSorted m

/-! ### Memory -/

/-- What a byte of memory reads as (log 5 for one that is not listed). -/
def memRead (m : List Host.Cell) (a : Nat) : Byte := (mapLookup m a).getD Config.unlistedByte

/-- Memory with the byte at `a` written; a byte that an unlisted address reads as is not listed. -/
def memWrite (m : List Host.Cell) (a : Nat) (b : Byte) : List Host.Cell :=
  if b = Config.unlistedByte then mapErase m a else mapInsert m a b

/-- The canonical form: addresses strictly rising, no byte listed that an unlisted address reads as. -/
def memWf (m : List Host.Cell) : Bool := mapSorted m && m.all (fun c => decide (c.2 ≠ Config.unlistedByte))

/-- Byte lane `i` of a word: bits 8i to 8i + 7 (R85). -/
def lane (w : Word) (i : Nat) : Byte := w.extractLsb' (8 * i) 8

/-- The word whose lanes 0 to 3 are the given bytes (R85). -/
def wordOfLanes (b0 b1 b2 b3 : Byte) : Word := b3 ++ b2 ++ b1 ++ b0

/-- The word memory holds at a word address: byte lane i is the byte at the address plus i (R85). -/
def memReadWord (m : List Host.Cell) (a : Nat) : Word :=
  wordOfLanes (memRead m a) (memRead m (a + 1)) (memRead m (a + 2)) (memRead m (a + 3))

/-- Memory with byte lane `i` of the word at `a` written if its enable is set (R1). -/
def memWriteLane (m : List Host.Cell) (a : Nat) (be : BitVec 4) (d : Word) (i : Nat) : List Host.Cell :=
  if be.getLsbD i then memWrite m (a + i) (lane d i) else m

/-- Memory with the enabled bytes of the word at `a` written (R1). -/
def memWriteWord (m : List Host.Cell) (a : Nat) (be : BitVec 4) (d : Word) : List Host.Cell :=
  memWriteLane (memWriteLane (memWriteLane (memWriteLane m a be d 0) a be d 1) a be d 2) a be d 3

/-- The address of the word after the one at `a`, modulo 256 MiB (R1). -/
def nextWord (a : Nat) : Nat := (a + 4) % Config.memorySize

/-- A write burst from address `a`; the word i reaches memory when the i-th flag is set (R9, R14). -/
def memWriteBurst (m : List Host.Cell) (a : Nat) : List BusWord → List Bool → List Host.Cell
  | w :: ws, k :: ks =>
    memWriteBurst (if k then memWriteWord m a w.be w.data else m) (nextWord a) ws ks
  | _, _ => m

/-- The words a read burst of `n` words from address `a` returns (R1). -/
def memReadBurst (m : List Host.Cell) (a : Nat) : Nat → List Word
  | 0 => []
  | n + 1 => memReadWord m a :: memReadBurst m (nextWord a) n

end Sys2Proof.Machine
end

