-- ==== Sys2Proof/Machine/Operands.lean ====
section
/-! DEFINITION. Bit fields, addresses of words and slots, sequence and credit order, burst plans: the operand forms
that the rules share. -/

namespace Sys2Proof.Machine

/-! ### Fields of a word -/

/-- Bits `lo` to `lo + len - 1` of a word, as a number. -/
def bits (w : Word) (lo len : Nat) : Nat := w.toNat / 2 ^ lo % 2 ^ len

/-- All sixteen channel numbers, 0 first. -/
def allChans : List Chan := [0, 1, 2, 3, 4, 5, 6, 7, 8, 9, 10, 11, 12, 13, 14, 15]

/-- The vector whose entry at each of the sixteen numbers is given. -/
def tabulate {α : Type} (f : Fin 16 → α) : Vector α 16 :=
  #v[f 0, f 1, f 2, f 3, f 4, f 5, f 6, f 7, f 8, f 9, f 10, f 11, f 12, f 13, f 14, f 15]

/-- All sixteen buffer numbers, 0 first. -/
def allBufs : List Buf := allChans

/-- The sixteen channels in order starting with the one after `c`, wrapping from 15 to 0 (R60, R107). -/
def chansAfter (c : Chan) : List Chan := allChans.map (fun k => c + 1 + k)

/-- A channel number from a four-bit field. -/
def chanOfBits (w : Word) (lo : Nat) : Chan := Fin.ofNat 16 (bits w lo 4)

/-! ### Orders (00_scope.md) -/

/-- Sequence `a` is before `b`: (b − a) mod 4096 lies in 1 to 2047. -/
def seqBefore (a b : Seq) : Bool := decide (1 ≤ (b - a).toNat) && decide ((b - a).toNat ≤ 2047)

/-- `q` is one of the 32 before `e`. -/
def seqIn32Before (q e : Seq) : Bool := decide (1 ≤ (e - q).toNat) && decide ((e - q).toNat ≤ 32)

/-- `q` is one of the 32 ending at `d`. -/
def seqIn32Ending (q d : Seq) : Bool := decide ((d - q).toNat ≤ 31)

/-- Credit total `x` is ahead of `y`: (x − y) mod 65536 lies in 1 to 32767. -/
def creditAhead (x y : BitVec 16) : Bool := decide (1 ≤ (x - y).toNat) && decide ((x - y).toNat ≤ 32767)

/-! ### Addresses -/

/-- The byte address of a host access's first word (R1). -/
def HostAccess.start (a : HostAccess) : Nat := 4 * a.addr.toNat

/-- The words of an access with their byte addresses, modulo 256 MiB (R1). -/
def recordWords (a : Nat) : List BusWord → List RecordWord
  | [] => []
  | w :: ws => ⟨a, w.be, w.data⟩ :: recordWords (nextWord a) ws

/-- The anchor: ANCHOR × 0x100_0000 (R18). -/
def Matcher.base (m : Matcher) : Nat := m.anchor.toNat * 0x1000000

/-- The installed fields of a channel that is not OFF (R34). -/
def ChanState.cfg? : ChanState → Option ChanCfg
  | .off => none
  | .active cfg => some cfg
  | .stopping cfg => some cfg

/-- The installed fields of channel `c`, if it is not OFF. -/
def Matcher.cfg? (m : Matcher) (c : Chan) : Option ChanCfg := m.chans[c].state.cfg?

/-- Channel `c` is ACTIVE. -/
def Matcher.isActive (m : Matcher) (c : Chan) : Bool :=
  match m.chans[c].state with
  | .active _ => true
  | .off => false
  | .stopping _ => false

/-- Channel `c` is STOPPING. -/
def Matcher.isStopping (m : Matcher) (c : Chan) : Bool :=
  match m.chans[c].state with
  | .stopping _ => true
  | .off => false
  | .active _ => false

/-- The destination of an OUTBOUND channel. -/
def ChanCfg.dest? (cfg : ChanCfg) : Option Chan :=
  match cfg.dir with
  | .outbound d _ => some d
  | .inbound _ _ => none

/-- The channel has direction INBOUND. -/
def ChanCfg.isInbound (cfg : ChanCfg) : Bool := cfg.dest?.isNone

/-- The guard limit of an INBOUND channel; an OUTBOUND channel guards nothing (R46). -/
def ChanCfg.guardLimit (cfg : ChanCfg) : Nat :=
  match cfg.dir with
  | .outbound _ _ => 0
  | .inbound g _ => g

/-- Capture is on (OUTBOUND only). -/
def ChanCfg.captureOn (cfg : ChanCfg) : Bool :=
  match cfg.dir with
  | .outbound _ on => on
  | .inbound _ _ => false

/-- The largest payload of a slot: its size less the 16-byte header (R33). -/
def ChanCfg.capacity (cfg : ChanCfg) : Nat := cfg.size - 16

/-- Bytes of the channel's area (R33). -/
def ChanCfg.bytes (cfg : ChanCfg) : Nat := cfg.size * cfg.count

/-- The address of slot `i` (section 3.3). -/
def ChanCfg.slotAddr (cfg : ChanCfg) (i : Nat) : Nat := cfg.base + cfg.size * i

/-- The area contains the byte address (R33). -/
def ChanCfg.contains (cfg : ChanCfg) (a : Nat) : Bool := decide (cfg.base ≤ a) && decide (a < cfg.base + cfg.bytes)

/-- Two byte ranges, each given by first byte and length, share a byte (R37). -/
def rangesMeet (a la b lb : Nat) : Bool := decide (a < b + lb) && decide (b < a + la)

/-- The address of slot `i` of channel `c`; 0 for a channel that is OFF. -/
def Matcher.slotAddr (m : Matcher) (c : Chan) (i : Nat) : Nat :=
  match m.cfg? c with
  | some cfg => cfg.slotAddr i
  | none => 0

/-! ### Burst plans (R65, R148) -/

/-- The smallest naturally aligned burst of 1, 2, 4 or 8 words that covers word offsets `f` to `l` of one block. -/
def burstCover (f l : Nat) : Burst :=
  if f = l then ⟨f, 1⟩
  else if f / 2 = l / 2 then ⟨f / 2 * 2, 2⟩
  else if f / 4 = l / 4 then ⟨f / 4 * 4, 4⟩
  else ⟨f / 8 * 8, 8⟩

/-- The burst for block `b` of 8 words, if any of the needed offsets (rising) lies in it. -/
def blockBurst (needed : List Nat) (b : Nat) : Option Burst :=
  match needed.filter (fun o => o / 8 == b) with
  | [] => none
  | f :: rest => some (burstCover f (rest.getLastD f))

/-- The bursts that cover the needed word offsets, block by block in increasing order; a slot has at most 32 blocks. -/
def planBursts (needed : List Nat) : List Burst := (List.range 32).filterMap (blockBurst needed)

/-- The word offsets of a frame of length `len`: 3 to 4 + (len − 1) div 4 (R65). -/
def frameOffsets (len : Nat) : List Nat := List.range' 3 (2 + (len - 1) / 4)

/-- The word offsets of a payload of length `len` (R42). -/
def payloadOffsets (len : Nat) : List Nat := List.range' 4 (1 + (len - 1) / 4)

/-! ### Timers -/

/-- A timer one microsecond later. -/
def tickTimer (t : Option Nat) : Option Nat := t.map (· - 1)

/-- A running timer has reached its interval. -/
def timerDue (t : Option Nat) : Bool := t == some 0

end Sys2Proof.Machine
end

