-- ==== Sys2Proof/Machine/Flags.lean ====
section
/-! DEFINITION. Codes, and the words the part writes: response word, link status word, header words, event records;
the law of INT_OUT and the room of the event ring. -/

namespace Sys2Proof.Machine

/-- Result codes (R30). -/
def Result.code : Result → Nat
  | .done => 1
  | .badCommand => 2
  | .badChannel => 3
  | .channelActive => 4
  | .channelIdle => 5
  | .badGeometry => 6
  | .overlap => 7
  | .destInUse => 8
  | .linkActive => 9
  | .badParameter => 10
  | .eventsActive => 11
  | .eventsIdle => 12
  | .memoryFault => 13

/-- Status codes (R43). -/
def Status.code : Status → Nat
  | .none => 0
  | .delivered => 1
  | .refusedClosed => 2
  | .refusedNoSlot => 3
  | .refusedTooLong => 4
  | .refusedFault => 5
  | .linkLost => 6
  | .badLength => 7
  | .stopped => 8
  | .memoryFault => 9
  | .peerClosed => 10

/-- Link reset cause codes (R101). -/
def Cause.code : Cause → Nat
  | .none => 0
  | .linkDisable => 1
  | .lockLost => 2
  | .syncTimeout => 3
  | .retryLimit => 4
  | .peerRestart => 5
  | .replayFault => 6

/-- Link state codes of the status word (R102). -/
def LinkState.code : LinkState → Nat
  | .off => 0
  | .down => 1
  | .sync => 2
  | .up => 3

/-- Refusal reason codes (section 5.2). -/
def Reason.code : Reason → Nat
  | .closed => 0
  | .noSlot => 1
  | .tooLong => 2
  | .landingFault => 3

/-- The reason with a two-bit code. -/
def Reason.ofCode (n : Nat) : Reason :=
  match n with
  | 0 => .closed
  | 1 => .noSlot
  | 2 => .tooLong
  | _ => .landingFault

/-- The status an outbound slot takes from a removed entry's refusal mark (R111). -/
def statusOfMark : Option Reason → Status
  | none => .delivered
  | some .closed => .refusedClosed
  | some .noSlot => .refusedNoSlot
  | some .tooLong => .refusedTooLong
  | some .landingFault => .refusedFault

/-- The status counts in the refusals counter (R77). -/
def Status.isRefusal : Status → Bool
  | .refusedClosed => true
  | .refusedNoSlot => true
  | .refusedTooLong => true
  | .refusedFault => true
  | .none => false
  | .delivered => false
  | .linkLost => false
  | .badLength => false
  | .stopped => false
  | .memoryFault => false
  | .peerClosed => false

/-- Event kind codes (R165); EVENTS_LOST is 13. -/
def EventKind.code : EventKind → Nat
  | .linkUp => 1
  | .linkDown => 2
  | .commitRejected => 3
  | .duplicateCommit => 4
  | .duplicateRelease => 5
  | .ownershipViolation => 6
  | .tornRead => 7
  | .slotDone => 8
  | .slotLanded => 9
  | .frameRefused => 10
  | .commandOverrun => 11
  | .memoryFault => 12

/-- Kind code of an EVENTS_LOST record (R165). -/
def eventsLostCode : Nat := 13

/-- Origins of a MEMORY_FAULT event (R15). -/
inductive Origin where
  | table
  | staging
  | refetch
  | landing
  | record
  | snapshot
deriving DecidableEq, Repr

/-- Origin codes (R165). -/
def Origin.code : Origin → Nat
  | .table => 0
  | .staging => 1
  | .refetch => 2
  | .landing => 3
  | .record => 4
  | .snapshot => 5

/-- The response word (R27): code, tag, result, channel. -/
def responseWord (cmd : Command) (r : Result) : Word :=
  BitVec.ofNat 32 (cmd.code.toNat + cmd.tag.toNat * 2 ^ 8 + r.code * 2 ^ 16 + cmd.chan.val * 2 ^ 24)

/-- The link status word (R102). -/
def statusWord (l : LinkController) : Word :=
  BitVec.ofNat 32 (l.state.code + l.rx.lock.toNat * 2 ^ 2 + l.heard.isSome.toNat * 2 ^ 3 + l.lastCause.code * 2 ^ 4
    + l.localEpoch.toNat * 2 ^ 8 + (l.heard.getD 0#8).toNat * 2 ^ 16 + l.changes.toNat * 2 ^ 24)

/-- Header word 0 as the part writes it: length, notify, status, owner 0 (R41, R76, R149). -/
def headerWord0 (len : Nat) (notify : Bool) (st : Status) : Word :=
  BitVec.ofNat 32 (len % 2 ^ 10 + notify.toNat * 2 ^ 15 + st.code * 2 ^ 16)

/-- Header word 1: sequence, epoch, send count (R76, R149). -/
def headerWord1 (q : Seq) (e : Epoch) (sends : Nat) : Word :=
  BitVec.ofNat 32 (q.toNat + e.toNat * 2 ^ 16 + sends % 2 ^ 4 * 2 ^ 24)

/-- Header word 1 of a completion: 0 for a slot that was never sent (R76). -/
def completionWord1 (d : Completion) : Word :=
  match d.sent with
  | some i => headerWord1 i.seq i.epoch i.sends
  | none => 0#32

/-- A 16-byte event record (R164). -/
def recordOf (kind : Nat) (c : Chan) (d1 d2 time : Word) : List Word :=
  [BitVec.ofNat 32 (kind + c.val * 2 ^ 8), d1, d2, time]

/-- The record of a queued event (R164). -/
def Event.record (e : Event) : List Word := recordOf e.kind.code e.chan e.detail1 e.detail2 e.time

/-- A word written with all four byte enables set. -/
def fullWord (w : Word) : BusWord := ⟨15#4, w⟩

/-- A word written with its byte enables clear. -/
def maskedWord : BusWord := ⟨0#4, 0#32⟩

/-- A word read with all four byte enables set. -/
def readWord : BusWord := ⟨15#4, 0#32⟩

/-- The law of the interrupt line (R175): RUNNING, enable bit 0 set, producer index differs from the consumer latch. -/
def intLevel (ev : EventUnit) (wm : Matcher) : Bool :=
  decide (ev.run = .running) && wm.intEnable.getLsbD 0 && decide (ev.producer ≠ wm.consumer.toNat)

/-- The ring has room: (p + 1) mod N differs from the consumer latch as a whole 32-bit value (R168). -/
def EventUnit.room (ev : EventUnit) (consumer : Word) : Bool :=
  match ev.ringCfg with
  | some r => decide ((ev.producer + 1) % r.size ≠ consumer.toNat)
  | none => false

end Sys2Proof.Machine
end

