-- ==== Sys2Proof/Machine/Lane.lean ====
section
/-! DEFINITION. The peer link's lane: the CRC (R87), frames and their words (section 5.2, R85, R89), the lock detector
and the receiver (R84, R86), the check of a received frame (R88). -/

namespace Sys2Proof.Machine

/-! ### CRC (R87) -/

/-- The generator polynomial 0x04C11DB7 in the reflected arrangement. -/
def crcPoly : Word := 0xEDB88320#32

/-- One bit taken into the reflected register. -/
def crcBit (r : Word) : Word := if r.getLsbD 0 then (r >>> 1) ^^^ crcPoly else r >>> 1

/-- One byte taken into the register, least significant bit first. -/
def crcByte (r : Word) (b : Byte) : Word :=
  crcBit (crcBit (crcBit (crcBit (crcBit (crcBit (crcBit (crcBit (r ^^^ b.zeroExtend 32))))))))

/-- The CRC word of a byte sequence: from all ones, complemented at the end. -/
def crcBytes (bs : List Byte) : Word := ~~~ (bs.foldl crcByte 0xFFFFFFFF#32)

/-- The bytes of data words in frame order, lanes 0 to 3 (R85). -/
def bytesOfWords : List Word → List Byte
  | [] => []
  | w :: ws => lane w 0 :: lane w 1 :: lane w 2 :: lane w 3 :: bytesOfWords ws

/-- The CRC word of a frame's data words. -/
def crcWords (ws : List Word) : Word := crcBytes (bytesOfWords ws)

/-- Data words for payload bytes, the last padded with 0 (R85). -/
def wordsOfBytes : List Byte → List Word
  | [] => []
  | [a] => [wordOfLanes a 0#8 0#8 0#8]
  | [a, b] => [wordOfLanes a b 0#8 0#8]
  | [a, b, c] => [wordOfLanes a b c 0#8]
  | a :: b :: c :: d :: rest => wordOfLanes a b c d :: wordsOfBytes rest

/-! ### Frames (section 5.2) -/

/-- The five frame kinds with their fields. `length` of DATA is the number of payload bytes. -/
inductive Frame where
  | data (dest : Chan) (seq : Seq) (user : Word) (payload : List Byte)
  | ack (disposed : Option Seq) (refusals : List RefusalEntry)
  | nak (expected : Seq)
  | credit (c : Chan) (isOpen : Bool) (generation : BitVec 8) (total : BitVec 16)
  | init (epoch : Epoch) (heard : Option Epoch)
deriving DecidableEq, Repr

/-- The word of a refusal entry: sequence, channel, reason. -/
def refusalWord (r : RefusalEntry) : Word :=
  BitVec.ofNat 32 (r.seq.toNat + r.chan.val * 2 ^ 12 + r.reason.code * 2 ^ 16)

/-- The refusal entry of a word. -/
def refusalOfWord (w : Word) : RefusalEntry :=
  ⟨BitVec.ofNat 12 (bits w 0 12), chanOfBits w 12, Reason.ofCode (bits w 16 2)⟩

/-- A frame's data words before the CRC word: the fields of section 5.2, every other bit 0. DESIGN CHOICE: an INIT with
heard present 0 has 0 in its heard epoch field, and so the sequence field of an ACK with disposed-through present 0,
which the part never sends (R125; log 37). -/
def Frame.body : Frame → List Word
  | .data d q user payload =>
    BitVec.ofNat 32 (1 + d.val * 2 ^ 4 + q.toNat * 2 ^ 8 + payload.length * 2 ^ 20) :: user :: wordsOfBytes payload
  | .ack disposed refusals =>
    BitVec.ofNat 32 (2 + refusals.length * 2 ^ 4 + (disposed.getD 0#12).toNat * 2 ^ 12 + disposed.isSome.toNat * 2 ^ 24)
      :: refusals.map refusalWord
  | .nak e => [BitVec.ofNat 32 (3 + e.toNat * 2 ^ 12)]
  | .credit c isOpen g total =>
    [BitVec.ofNat 32 (4 + c.val * 2 ^ 4 + isOpen.toNat * 2 ^ 8 + g.toNat * 2 ^ 16), BitVec.ofNat 32 total.toNat]
  | .init e heard =>
    [BitVec.ofNat 32 (5 + heard.isSome.toNat * 2 ^ 4 + e.toNat * 2 ^ 8 + (heard.getD 0#8).toNat * 2 ^ 16)]

/-- All data words of a frame: the body and the CRC word over it (R87). -/
def Frame.words (f : Frame) : List Word := f.body ++ [crcWords f.body]

/-- Number of payload words for a length: the length divided by 4, rounded up (section 5.2). -/
def payloadWords (len : Nat) : Nat := (len + 3) / 4

/-- The frame whose data words before the CRC are the given ones: none if the kind, a field or the size is out of
range (R88 step 3, R89). -/
def parseFrame (body : List Word) : Option Frame :=
  match body with
  | [] => none
  | w :: rest =>
    match bits w 0 4 with
    | 1 =>
      let len := bits w 20 10
      if len = 0 ∨ 1008 < len then none
      else match rest with
        | [] => none
        | user :: payload =>
          if payload.length = payloadWords len then
            some (.data (chanOfBits w 4) (BitVec.ofNat 12 (bits w 8 12)) user ((bytesOfWords payload).take len))
          else none
    | 2 =>
      let n := bits w 4 6
      if 32 < n then none
      else if rest.length = n then
        some (.ack (if bits w 24 1 = 1 then some (BitVec.ofNat 12 (bits w 12 12)) else none) (rest.map refusalOfWord))
      else none
    | 3 => if rest.isEmpty then some (.nak (BitVec.ofNat 12 (bits w 12 12))) else none
    | 4 =>
      match rest with
      | [t] =>
        some (.credit (chanOfBits w 4) (bits w 8 1 == 1) (BitVec.ofNat 8 (bits w 16 8)) (BitVec.ofNat 16 (bits t 0 16)))
      | _ => none
    | 5 =>
      if rest.isEmpty then
        some (.init (BitVec.ofNat 8 (bits w 8 8))
          (if bits w 4 1 = 1 then some (BitVec.ofNat 8 (bits w 16 8)) else none))
      else none
    | _ => none

/-- The outcome of the check of an ended frame (R88). -/
inductive Judged where
  | framingError
  | crcError (kindData : Bool)
  | good (f : Frame)
deriving DecidableEq, Repr

/-- The check made when an end marker ends a frame, in the order of R88. -/
def judgeFrame (ws : List Word) : Judged :=
  if ws.length < 2 then .framingError
  else if ws.getLastD 0#32 ≠ crcWords ws.dropLast then .crcError (bits (ws.headD 0#32) 0 4 == 1)
  else match parseFrame ws.dropLast with
    | some f => .good f
    | none => .framingError

/-! ### Lock detector and receiver -/

/-- What one received link word can bring about (R84, R86). -/
inductive LaneEvent where
  | lockFound
  | lockLost
  | framing
  | frameEnd (ws : List Word)
deriving DecidableEq, Repr

/-- Out of lock: 8 consecutive words without a violation give lock (R84). -/
def searchWord (rx : LaneRx) (w : LinkWord) : LaneRx × Option LaneEvent :=
  match w with
  | .violation => ({ rx with run := 0 }, none)
  | _ => if rx.run + 1 = 8 then (⟨true, 0, none⟩, some .lockFound) else ({ rx with run := rx.run + 1 }, none)

/-- The receiver in lock takes a word other than a violation (R86). -/
def frameWord (rx : LaneRx) (w : LinkWord) : LaneRx × Option LaneEvent :=
  match rx.frame, w with
  | none, .startMark => (⟨true, 0, some []⟩, none)
  | none, _ => (⟨true, 0, none⟩, none)
  | some ws, .data d =>
    if ws.length < Config.frameLimit then (⟨true, 0, some (ws ++ [d])⟩, none) else (⟨true, 0, none⟩, some .framing)
  | some _, .startMark => (⟨true, 0, some []⟩, some .framing)
  | some ws, .endMark => (⟨true, 0, none⟩, some (.frameEnd ws))
  | some _, _ => (⟨true, 0, none⟩, some .framing)

/-- One link word on the incoming lane (R84, R86): the fourth consecutive violation loses lock and drops a frame
uncounted; an earlier violation inside a frame is a framing error. -/
def laneWord (rx : LaneRx) (w : LinkWord) : LaneRx × Option LaneEvent :=
  if rx.lock then
    match w with
    | .violation =>
      if rx.run + 1 = 4 then (⟨false, 0, none⟩, some .lockLost)
      else (⟨true, rx.run + 1, none⟩, if rx.frame.isSome then some .framing else none)
    | _ => frameWord rx w
  else searchWord rx w

/-- The link words of one lane report: none but the last brings an event about, and the last one does. -/
def runLane (rx : LaneRx) : List LinkWord → Option (LaneRx × LaneEvent)
  | [] => none
  | w :: rest =>
    match laneWord rx w with
    | (rx', none) => runLane rx' rest
    | (rx', some e) => if rest.isEmpty then some (rx', e) else none

/-- The link words of a frame with the given data words: start marker, data words, end marker (R83). -/
def laneOfWords (ws : List Word) : List LinkWord := .startMark :: ws.map .data ++ [.endMark]

/-! ### The outgoing lane -/

/-- What the transmitter puts on the outgoing lane (R83): in OFF nothing; otherwise the frame being sent, with an idle
word after it, or idle words. The last item goes on. -/
def laneStream (l : LinkController) (t : TransmitEngine) : List (Option LinkWord) :=
  if l.state = .off then [none]
  else match t.sending with
    | some x => (laneOfWords x.words ++ [LinkWord.idle]).map some
    | none => [some LinkWord.idle]

end Sys2Proof.Machine
end

