-- ==== Sys2Proof/Machine/Ops.lean ====
section
/-! DEFINITION. Operations every unit shares: requests at the memory port, the arbiter's grant, the end of an access,
the end of a command's RUNNING phase, the counters, the passing of one microsecond. Each changes only the fields of
State named in its one record update. -/

namespace Sys2Proof.Machine

/-! ### Requests (R10) -/

/-- The waiting requests with `r` in the place of its owner and class. -/
def Requests.put (q : Requests) (r : DevReq) : Requests :=
  match r.purpose with
  | .landPayload => { q with landing := some r }
  | .landHeader => { q with landing := some r }
  | .landWord0 => { q with landing := some r }
  | .staging _ => { q with captureRead := some r }
  | .refetch _ => { q with captureRead := some r }
  | .wbHeader => { q with captureRecord := some r }
  | .wbWord0 => { q with captureRecord := some r }
  | .respDetail => { q with command := some r }
  | .respWord => { q with command := some r }
  | .ring _ => { q with event := some r }
  | .snapshot => { q with event := some r }
  | .linkStatus => { q with linkStatus := some r }
  | .channelRecord _ => { q with channelRecord := some r }
  | .linkRecord => { q with linkRecord := some r }

/-- The waiting requests with the place of `p`'s owner and class empty. -/
def Requests.clear (q : Requests) (p : Purpose) : Requests :=
  match p with
  | .landPayload => { q with landing := none }
  | .landHeader => { q with landing := none }
  | .landWord0 => { q with landing := none }
  | .staging _ => { q with captureRead := none }
  | .refetch _ => { q with captureRead := none }
  | .wbHeader => { q with captureRecord := none }
  | .wbWord0 => { q with captureRecord := none }
  | .respDetail => { q with command := none }
  | .respWord => { q with command := none }
  | .ring _ => { q with event := none }
  | .snapshot => { q with event := none }
  | .linkStatus => { q with linkStatus := none }
  | .channelRecord _ => { q with channelRecord := none }
  | .linkRecord => { q with linkRecord := none }

/-- The class 3 request of an owner. -/
def Requests.ofRecordOwner (q : Requests) : RecordOwner → Option DevReq
  | .capture => q.captureRecord
  | .command => q.command
  | .event => q.event
  | .link => q.linkStatus

/-- The class 4 request of an owner. -/
def Requests.ofTableOwner (q : Requests) : TableOwner → Option DevReq
  | .matcher => q.channelRecord
  | .link => q.linkRecord

/-- The owners of class 3 in the order that starts after the last granted one (R12). -/
def recordOrder : RecordOwner → List RecordOwner
  | .capture => [.command, .event, .link, .capture]
  | .command => [.event, .link, .capture, .command]
  | .event => [.link, .capture, .command, .event]
  | .link => [.capture, .command, .event, .link]

/-- The owners of class 4 in the order that starts after the last granted one (R12). -/
def tableOrder : TableOwner → List TableOwner
  | .matcher => [.link, .matcher]
  | .link => [.matcher, .link]

/-- The class 3 owner of a purpose, if it is of class 3 (R10). -/
def Purpose.recordOwner? : Purpose → Option RecordOwner
  | .wbHeader => some .capture
  | .wbWord0 => some .capture
  | .respDetail => some .command
  | .respWord => some .command
  | .ring _ => some .event
  | .snapshot => some .event
  | .linkStatus => some .link
  | .landPayload => none
  | .landHeader => none
  | .landWord0 => none
  | .staging _ => none
  | .refetch _ => none
  | .channelRecord _ => none
  | .linkRecord => none

/-- The class 4 owner of a purpose, if it is of class 4 (R10). -/
def Purpose.tableOwner? : Purpose → Option TableOwner
  | .channelRecord _ => some .matcher
  | .linkRecord => some .link
  | .landPayload => none
  | .landHeader => none
  | .landWord0 => none
  | .staging _ => none
  | .refetch _ => none
  | .wbHeader => none
  | .wbWord0 => none
  | .respDetail => none
  | .respWord => none
  | .ring _ => none
  | .snapshot => none
  | .linkStatus => none

/-- The device request that goes first: the lowest class that has one, round robin within classes 3 and 4 (R12). -/
def pickDevice (q : Requests) (last3 : RecordOwner) (last4 : TableOwner) : Option DevReq :=
  (q.landing.or q.captureRead).or
    (((recordOrder last3).findSome? q.ofRecordOwner).or ((tableOrder last4).findSome? q.ofTableOwner))

/-- The request `r` is presented (R10). -/
def present (r : DevReq) (s : State) : State := { s with reqs := s.reqs.put r }

/-! ### Grants (R9, R11, R12, R13) -/

/-- The host-side request: the access of a Host Port in WAITING (R3). -/
def HostPort.request? : HostPort → Option HostAccess
  | .waiting a => some a
  | .idle => none
  | .held _ => none
  | .transfer _ => none
  | .handoff _ => none

/-- The side to be granted: the only one that waits, or the one that did not have the last grant (R11). -/
def pickSide (host device : Bool) (last : Side) : Option Side :=
  match host, device with
  | false, false => none
  | true, false => some .host
  | false, true => some .device
  | true, true => some (match last with
    | .host => .device
    | .device => .host)

/-- The landing queue once the first landing write has been granted: the head's landing has begun (R147). -/
def markBegun : List LandEntry → List LandEntry
  | [] => []
  | e :: rest =>
    match e.verdict with
    | .landing l => { e with verdict := .landing { l with begun := true } } :: rest
    | .refusal _ => e :: rest

/-- The host access is granted (R3, R11, R13). -/
def grantHost (a : HostAccess) (s : State) : State :=
  { s with
    host := .transfer a
    port := { s.port with granted := some .host, lastSide := .host, timer := some Config.memoryResponseLimit } }

/-- A device request is granted (R11, R12, R13, R147). -/
def grantDevice (r : DevReq) (s : State) : State :=
  { s with
    port := { granted := some (.device r)
              lastSide := .device
              last3 := r.purpose.recordOwner?.getD s.port.last3
              last4 := r.purpose.tableOwner?.getD s.port.last4
              timer := some Config.memoryResponseLimit }
    reqs := s.reqs.clear r.purpose
    land := { s.land with queue := if r.purpose = .landPayload then markBegun s.land.queue else s.land.queue } }

/-- One decision of the arbiter at a free port (R9, R11, R12). -/
def arbitrate (s : State) : State :=
  match s.port.granted with
  | some _ => s
  | none =>
    let dev := pickDevice s.reqs s.port.last3 s.port.last4
    match pickSide s.host.request?.isSome dev.isSome s.port.lastSide, s.host.request?, dev with
    | some .host, some a, _ => grantHost a s
    | some .device, _, some r => grantDevice r s
    | _, _, _ => s

/-! ### Ends of accesses (R9, R13, R14, R15) -/

/-- The end status is OK. -/
def accessOk : AccessEnd → Bool
  | .ok => true
  | .fault _ _ => false

/-- Which of `n` words of a write memory takes: all of them on OK, the operand's on FAULT (R14; log 6). -/
def takenWords (e : AccessEnd) (n : Nat) : List Bool :=
  match e with
  | .ok => List.replicate n true
  | .fault kept _ => kept

/-- Memory after the end of an access. -/
def memAfter (m : List Host.Cell) (write : Bool) (a : Nat) (ws : List BusWord) (e : AccessEnd) : List Host.Cell :=
  if write then memWriteBurst m a ws (takenWords e ws.length) else m

/-- The memory port is free again: no access, timer stopped (R13). -/
def MemPort.release (p : MemPort) : MemPort := { p with granted := none, timer := none }

/-- A granted device access ends (R16): memory has taken its words, and the port is free. -/
def endDevice (r : DevReq) (e : AccessEnd) (s : State) : State :=
  { s with port := s.port.release, mem := memAfter s.mem r.write r.addr r.words e }

/-- A lane of a host read's word: memory's byte where the enable is set, otherwise a free value (log 7). -/
def readLane (be : BitVec 4) (w undriven : Word) (i : Nat) : Byte := if be.getLsbD i then lane w i else lane undriven i

/-- The word a host read returns for one word of the access (R4; log 7). -/
def answerWord (be : BitVec 4) (w undriven : Word) : Word :=
  wordOfLanes (readLane be w undriven 0) (readLane be w undriven 1) (readLane be w undriven 2) (readLane be w undriven 3)

/-- The words a host read returns: word `i` of memory's data, lanes that take no part undriven. -/
def answerWords (free : Nat) : List BusWord → List Word → List Word
  | [], _ => []
  | b :: bs, d :: ds => answerWord b.be d (Config.undrivenWord free) :: answerWords (free + 1) bs ds
  | _ :: bs, [] => Config.undrivenWord free :: answerWords (free + 1) bs []

/-- The end of the granted host access: the answer, and HANDOFF for a write, IDLE for a read (R3, R4, R7, R14).
`data` is what the words of a read return; `e` says which words of a write memory took. -/
def endHost (a : HostAccess) (e : AccessEnd) (data : List Word) (s : State) : State :=
  { s with
    host := if a.write then .handoff ⟨a.start, recordWords a.start a.words, accessOk e⟩ else .idle
    answer := some ⟨a.write, if a.write then [] else data, accessOk e⟩
    port := s.port.release
    mem := memAfter s.mem a.write a.start a.words e
    free := s.free + a.words.length }

/-- The read data of a host access that memory ends: the words memory holds, or the words it gave with FAULT (R14). -/
def hostData (a : HostAccess) (e : AccessEnd) (s : State) : List Word :=
  match e with
  | .ok => answerWords s.free a.words (memReadBurst s.mem a.start a.words.length)
  | .fault _ data => answerWords s.free a.words data

/-- The read data after the memory response limit: memory's words, then all zeros for the unanswered ones (R14). -/
def timeoutData (a : HostAccess) (answered : List Word) (s : State) : List Word :=
  (answerWords s.free a.words answered).take (min answered.length a.words.length)
    ++ List.replicate (a.words.length - answered.length) 0#32

/-! ### Commands -/

/-- The response detail write (R27). -/
def detailReq (wm : Matcher) (d : Word) : DevReq := ⟨.respDetail, true, wm.base + 0x14, [fullWord d]⟩

/-- The response word write (R27). -/
def responseReq (wm : Matcher) (cmd : Command) (r : Result) : DevReq :=
  ⟨.respWord, true, wm.base + 0x10, [fullWord (responseWord cmd r)]⟩

/-- The executing place at the end of RUNNING: result and detail stored, phase DETAIL (R26). -/
def Executing.finish (x : Executing) (r : Result) (d : Word) : Executing :=
  match x.phase with
  | .running => ⟨x.cmd, .detail r d⟩
  | .detail r' d' => ⟨x.cmd, .detail r' d'⟩
  | .response r' d' => ⟨x.cmd, .response r' d'⟩

/-- The executing command is RUNNING. -/
def CommandUnit.isRunning (u : CommandUnit) : Bool :=
  match u.executing with
  | some ⟨_, .running⟩ => true
  | some ⟨_, .detail _ _⟩ => false
  | some ⟨_, .response _ _⟩ => false
  | none => false

/-- RUNNING ends with a result and a detail: phase DETAIL, and the response detail write is requested (R26, R27). -/
def endCommand (r : Result) (d : Word) (s : State) : State :=
  { s with
    cmd := { s.cmd with executing := s.cmd.executing.map (fun x => x.finish r d) }
    reqs := { s.reqs with command := if s.cmd.isRunning then some (detailReq s.wm d) else s.reqs.command } }

/-! ### Counters (R176, R177) -/

/-- A change of the live counters. -/
def count (f : Counters → Counters) (s : State) : State :=
  { s with ev := { s.ev with counters := f s.ev.counters } }

/-- A change of one channel's counters. -/
def Counters.onChan (c : Chan) (f : ChanCounters → ChanCounters) (k : Counters) : Counters :=
  { k with chans := k.chans.set c (f k.chans[c]) }

/-- handovers taken + 1 -/
def Counters.handover (c : Chan) (k : Counters) : Counters := k.onChan c (fun x => { x with handovers := x.handovers + 1 })
/-- frames delivered + 1 -/
def Counters.deliver (c : Chan) (k : Counters) : Counters := k.onChan c (fun x => { x with delivered := x.delivered + 1 })
/-- refusals + 1 -/
def Counters.refuse (c : Chan) (k : Counters) : Counters := k.onChan c (fun x => { x with refusals := x.refusals + 1 })
/-- violations + 1 -/
def Counters.violate (c : Chan) (k : Counters) : Counters := k.onChan c (fun x => { x with violations := x.violations + 1 })
/-- CRC errors + 1 -/
def Counters.crc (k : Counters) : Counters := { k with crcErrors := k.crcErrors + 1 }
/-- framing errors + 1 -/
def Counters.framing (k : Counters) : Counters := { k with framingErrors := k.framingErrors + 1 }
/-- NAKs sent + 1 -/
def Counters.nakSent (k : Counters) : Counters := { k with naksSent := k.naksSent + 1 }
/-- NAKs received + 1 -/
def Counters.nakReceived (k : Counters) : Counters := { k with naksReceived := k.naksReceived + 1 }
/-- replay passes + 1 -/
def Counters.replayPass (k : Counters) : Counters := { k with replayPasses := k.replayPasses + 1 }
/-- ack timeouts + 1 -/
def Counters.ackTimeout (k : Counters) : Counters := { k with ackTimeouts := k.ackTimeouts + 1 }
/-- link resets + 1 -/
def Counters.linkReset (k : Counters) : Counters := { k with linkResets := k.linkResets + 1 }
/-- stale frames + 1 -/
def Counters.stale (k : Counters) : Counters := { k with staleFrames := k.staleFrames + 1 }
/-- credit violations + 1 -/
def Counters.creditViolation (k : Counters) : Counters := { k with creditViolations := k.creditViolations + 1 }
/-- torn reads + 1 -/
def Counters.tornRead (k : Counters) : Counters := { k with tornReads := k.tornReads + 1 }
/-- events lost + n -/
def Counters.lose (n : Nat) (k : Counters) : Counters := { k with eventsLost := k.eventsLost + BitVec.ofNat 32 n }

/-! ### The interrupt line (R175) -/

/-- INT_OUT follows its inputs. -/
def driveInt (s : State) : State := { s with intOut := intLevel s.ev s.wm }

/-! ### The outgoing lane (R83) -/

/-- The outgoing lane follows the link state and the frame being sent: an abandoned frame stops in favour of idle words
or of silence at its next word. -/
def driveLane (s : State) : State := { s with laneOut := laneStream s.link s.tx }

/-! ### Time (00_scope.md, Time; log 1, log 12) -/

/-- A running timer of the part has reached its interval and its expiry has not been taken. -/
def anyTimerDue (s : State) : Bool :=
  timerDue s.port.timer || timerDue s.link.syncTimer || timerDue s.link.initTimer || timerDue s.tx.ackTimer
    || timerDue s.land.ackDelay || timerDue (s.land.heldRead.map (·.timer)) || timerDue s.cred.refresh

/-- One microsecond of the Timebase: every running timer counts it. Time does not pass a timer that is due, nor while
RESET_N is low. -/
def tick (s : State) : State :=
  if s.resetLow || anyTimerDue s then s
  else { s with
    timebase := s.timebase + 1
    port := { s.port with timer := tickTimer s.port.timer }
    link := { s.link with syncTimer := tickTimer s.link.syncTimer, initTimer := tickTimer s.link.initTimer }
    tx := { s.tx with ackTimer := tickTimer s.tx.ackTimer }
    land := { s.land with
      ackDelay := tickTimer s.land.ackDelay
      heldRead := s.land.heldRead.map (fun h => { h with timer := h.timer - 1 }) }
    cred := { s.cred with refresh := tickTimer s.cred.refresh } }

/-! ### The form of a step -/

/-- A step of the part: while RESET_N is low nothing takes place (R8, R17); otherwise the change `f`. -/
def live (f : State → State) (s : State) : Host.Outcome State Fault Refusal :=
  .next (if s.resetLow then s else f s)

/-- A step at the end of a granted device access that `mine` recognises: the access ends, then its owner goes on with
`f`, given the request and how it ended. Any other granted access is not ended by it (log 2). -/
def atDeviceEnd (mine : Purpose → Bool) (f : DevReq → State → State) (e : AccessEnd) (s : State) : State :=
  match s.port.granted with
  | some (.device r) => if mine r.purpose then f r (endDevice r e s) else s
  | some .host => s
  | none => s

end Sys2Proof.Machine
end

