-- ==== Sys2Proof/Machine/Events.lean ====
section
/-! DEFINITION. The Event Unit (Chapter 9): posting and losing events, the choice of the next ring write, the shared
class 3 request, the drain, the snapshot image. -/

namespace Sys2Proof.Machine

/-! ### Lost events (R167) -/

/-- The lost count raised by `n`, saturating at 0xFFFF_FFFF. -/
def saturatingAdd (c : Word) (n : Nat) : Word :=
  if 0xFFFFFFFF ≤ c.toNat + n then 0xFFFFFFFF#32 else c + BitVec.ofNat 32 n

/-- `n` events are lost: both places that count them (R167). -/
def EventUnit.lose (n : Nat) (ev : EventUnit) : EventUnit :=
  { ev with lostCount := saturatingAdd ev.lostCount n, counters := ev.counters.lose n }

/-! ### The choice of the next record (R168 to R171) -/

/-- The address of the record at the producer index (R164). -/
def EventUnit.recordAddr (ev : EventUnit) : Nat :=
  match ev.ringCfg with
  | some r => r.base + 16 * ev.producer
  | none => 0

/-- The producer index after the next record: (p + 1) mod N (R169). -/
def EventUnit.nextProducer (ev : EventUnit) : Nat :=
  match ev.ringCfg with
  | some r => (ev.producer + 1) % r.size
  | none => 0

/-- The EVENTS_LOST record, formed with the lost count and the Timebase as they stand (R170). -/
def EventUnit.lostWrite (ev : EventUnit) (now : Word) : RingWrite :=
  ⟨.lost ev.lostCount, ev.recordAddr, recordOf eventsLostCode 0 ev.lostCount 0#32 now⟩

/-- The record write of a queued event (R164, R169). -/
def EventUnit.eventWrite (ev : EventUnit) (e : Event) : RingWrite := ⟨.event, ev.recordAddr, e.record⟩

/-- The producer write (R169). -/
def EventUnit.producerWrite (ev : EventUnit) (wm : Matcher) : RingWrite :=
  ⟨.producer, wm.base + 0x28, [BitVec.ofNat 32 (ev.nextProducer % 2 ^ 16)]⟩

/-- Every queued event is lost, because the ring has no room for any of them (R169, R170). -/
def EventUnit.loseQueue (ev : EventUnit) : EventUnit := { ev.lose ev.queue.length with queue := [] }

/-- The unit chooses its next ring write when none is in progress (R169, R170, R171). -/
def EventUnit.choose (ev : EventUnit) (consumer now : Word) : EventUnit :=
  match ev.ring, ev.run with
  | some _, _ => ev
  | none, .stopped => ev
  | none, .running =>
    if ev.lostHold then ev
    else if ev.room consumer then
      if ev.lostCount ≠ 0#32 then { ev with ring := some (ev.lostWrite now) }
      else { ev with ring := ev.queue.head?.map ev.eventWrite }
    else ev.loseQueue
  | none, .draining =>
    match ev.queue with
    | [] => ev
    | e :: _ =>
      if ev.room consumer then
        if ev.lostCount ≠ 0#32 ∧ ¬ ev.lostHold then { ev with ring := some (ev.lostWrite now) }
        else { ev with ring := some (ev.eventWrite e) }
      else ev.loseQueue

/-! ### The unit's one class 3 request (R172) -/

/-- The request of a ring write, all byte enables set (R169). -/
def RingWrite.req (w : RingWrite) : DevReq := ⟨.ring w.kind, true, w.addr, w.words.map fullWord⟩

/-- The four counters of a channel in the order of the snapshot area (R179). -/
def ChanCounters.words (k : ChanCounters) : List Word := [k.handovers, k.delivered, k.refusals, k.violations]

/-- The eighty words of the snapshot area (R179). -/
def SnapImage.words (im : SnapImage) : List Word :=
  im.counters.chans.toList.flatMap ChanCounters.words
    ++ [im.counters.crcErrors, im.counters.framingErrors, im.counters.naksSent, im.counters.naksReceived,
        im.counters.replayPasses, im.counters.ackTimeouts, im.counters.linkResets, im.counters.staleFrames,
        im.counters.creditViolations, im.counters.tornReads, im.counters.eventsLost, im.time,
        0#32, 0#32, 0#32, 0#32]

/-- The snapshot burst to be written next: ten 8-word bursts from the anchor plus 0x400 (R179). -/
def SnapImage.req (im : SnapImage) (wm : Matcher) : DevReq :=
  ⟨.snapshot, true, wm.base + 0x400 + 0x20 * im.next, ((im.words.drop (8 * im.next)).take 8).map fullWord⟩

/-- The request the unit presents next: whichever of the two waits, and when both wait the kind that did not have the
last access (R172). -/
def EventUnit.nextReq (ev : EventUnit) (wm : Matcher) : Option DevReq :=
  match ev.ring, ev.snap, ev.lastAccess with
  | some w, none, _ => some w.req
  | some w, some _, .snapshot => some w.req
  | some _, some im, .ring => some (im.req wm)
  | none, some im, _ => some (im.req wm)
  | none, none, _ => none

/-- An access of the Event Unit is granted. -/
def MemPort.eventBusy (p : MemPort) : Bool :=
  match p.granted with
  | some (.device r) => r.purpose.recordOwner? == some .event
  | some .host => false
  | none => false

/-- A ring access of the Event Unit is granted. -/
def MemPort.ringBusy (p : MemPort) : Bool :=
  match p.granted with
  | some (.device r) => match r.purpose with
    | .ring _ => true
    | _ => false
  | some .host => false
  | none => false

/-- The waiting request after the unit has presented what it can: one request at a time (R172; log 19). -/
def eventSlot (ev : EventUnit) (p : MemPort) (wm : Matcher) (slot : Option DevReq) : Option DevReq :=
  if slot.isSome || p.eventBusy then slot else ev.nextReq wm

/-- The unit chooses its next ring write and presents its next request. -/
def runRing (s : State) : State :=
  let ev := s.ev.choose s.wm.consumer s.timebase
  { s with ev := ev, reqs := { s.reqs with event := eventSlot ev s.port s.wm s.reqs.event } }

/-! ### Posting (R164, R166, R167, R171) -/

/-- The Event Unit takes a posted event: it joins the queue or is lost; in RUNNING the EVENTS_LOST hold clears. -/
def EventUnit.take (ev : EventUnit) (e : Event) : EventUnit :=
  match ev.run with
  | .running =>
    if ev.queue.length < Config.eventPlaces then { ev with queue := ev.queue ++ [e], lostHold := false }
    else { ev.lose 1 with lostHold := false }
  | .stopped => ev.lose 1
  | .draining => ev.lose 1

/-- A block posts an event: it is formed with the Timebase as its time (R164). -/
def post (k : EventKind) (c : Chan) (d1 d2 : Word) (s : State) : State :=
  runRing { s with ev := s.ev.take ⟨k, c, d1, d2, s.timebase⟩ }

/-- A MEMORY_FAULT event: origin code and start address of the faulted access (R15, R165). -/
def postFault (c : Chan) (o : Origin) (addr : Nat) (s : State) : State :=
  post .memoryFault c (BitVec.ofNat 32 o.code) (BitVec.ofNat 32 addr) s

/-- MEMORY_FAULT is posted if the access ended with FAULT. -/
def postFaultIf (e : AccessEnd) (c : Chan) (o : Origin) (addr : Nat) (s : State) : State :=
  if accessOk e then s else postFault c o addr s

/-! ### Consumer latch and drain (R168, R171, R174) -/

/-- The ring write that waits for its grant is a record write that finds no room any more (R168). -/
def recordLostRoom (s : State) : Bool :=
  match s.ev.ring with
  | some w =>
    (match w.kind with
      | .event => true
      | .lost _ => true
      | .producer => false
      | .start => false) && !s.port.ringBusy && !s.ev.room s.wm.consumer
  | none => false

/-- The waiting record write is withdrawn (R168). -/
def withdrawRecord (s : State) : State :=
  { s with
    ev := { s.ev with ring := none }
    reqs := { s.reqs with event := match s.reqs.event with
      | some r => match r.purpose with
        | .ring _ => none
        | _ => some r
      | none => none } }

/-- The drain has nothing left to write: DRAINING, queue empty, no ring access in progress (R174). -/
def EventUnit.drained (ev : EventUnit) : Bool := decide (ev.run = .draining) && ev.queue.isEmpty && ev.ring.isNone

/-- The end of EVENTS_STOP, once the drain is complete (R174). -/
def finishDrain (s : State) : State :=
  if s.ev.drained then
    endCommand .done s.ev.lostCount { s with ev := { s.ev with run := .stopped, ringCfg := none } }
  else s

/-- In RUNNING the EVENTS_LOST hold clears at a change of the consumer latch (R171; log 17). -/
def clearHold (s : State) : State :=
  { s with ev := { s.ev with lostHold := if s.ev.run = .running then false else s.ev.lostHold } }

/-- What a change of the consumer latch brings about: the hold clears, the room of a waiting record is checked again,
the unit chooses, INT_OUT follows (R168, R170, R171, R175). -/
def consumerChanged (s : State) : State :=
  let s := clearHold s
  finishDrain (runRing (driveInt (if recordLostRoom s then withdrawRecord s else s)))

/-! ### Ends of ring writes (R169, R170, R171, R173) -/

/-- The unit after the end of one of its accesses of a kind (R172). -/
def EventUnit.after (k : EventAccess) (ev : EventUnit) : EventUnit := { ev with lastAccess := k }

/-- The record write of the head event ended (R169, R171). -/
def EventUnit.recordEnd (e : AccessEnd) (wm : Matcher) (ev : EventUnit) : EventUnit :=
  let ev := { ev.after .ring with queue := ev.queue.tail }
  if accessOk e then { ev with ring := some (ev.producerWrite wm) } else { ev.lose 1 with ring := none }

/-- The write of an EVENTS_LOST record that carried `n` ended (R170, R171). -/
def EventUnit.lostEnd (n : Word) (e : AccessEnd) (wm : Matcher) (ev : EventUnit) : EventUnit :=
  if accessOk e then { ev.after .ring with lostCount := ev.lostCount - n, ring := some (ev.producerWrite wm) }
  else { ev.after .ring with lostHold := true, ring := none }

/-- A producer write ended, with either end status (R169, R171). -/
def EventUnit.producerEnd (ev : EventUnit) : EventUnit :=
  { ev.after .ring with producer := ev.nextProducer, ring := none }

/-- The producer write of EVENTS_START ended (R173). -/
def EventUnit.startEnd (ev : EventUnit) : EventUnit := { ev.after .ring with ring := none }

/-- After the end of a ring write: the next choice, and the end of a drain. -/
def afterRing (s : State) : State := finishDrain (runRing s)

/-! ### SNAPSHOT (R178, R180) -/

/-- The image after the end of its burst at `addr`; none after the last of the ten bursts (R179, R180). -/
def SnapImage.advance (im : SnapImage) (e : AccessEnd) (addr : Nat) : SnapImage :=
  { im with
    next := im.next + 1
    firstFault := im.firstFault.or (if accessOk e then none else some addr) }

/-- The image has been written whole (R180). -/
def SnapImage.written (im : SnapImage) : Bool := decide (10 ≤ im.next)

/-- The result and detail of SNAPSHOT (R180). -/
def SnapImage.result (im : SnapImage) : Result × Word :=
  match im.firstFault with
  | none => (.done, im.time)
  | some a => (.memoryFault, BitVec.ofNat 32 a)

/-! ### The Event Unit's commands (R173, R174, R178) -/

/-- The channels whose area shares a byte with the range. -/
def meetsChannel (wm : Matcher) (a n : Nat) (c : Chan) : Bool :=
  match wm.cfg? c with
  | some cfg => rangesMeet a n cfg.base cfg.bytes
  | none => false

/-- The first check of EVENTS_START that fails, for a base and a size (R173). -/
def eventsStartCheck (wm : Matcher) (base size : Word) : Option Nat :=
  if bits base 0 4 ≠ 0 ∨ bits base 28 4 ≠ 0 then some 1
  else if size.toNat < 16 ∨ 1024 < size.toNat then some 2
  else if 0xFFFFFFF < base.toNat + 16 * size.toNat - 1 then some 3
  else if allChans.any (meetsChannel wm base.toNat (16 * size.toNat)) then some 4
  else none

/-- The producer write of 0 that EVENTS_START makes (R173). -/
def startWrite (wm : Matcher) : RingWrite := ⟨.start, wm.base + 0x28, [0#32]⟩

/-- EVENTS_START with arguments that pass: the ring installed, both indexes 0, the hold clear, RUNNING, and the
producer write of 0 requested (R173). -/
def installRing (base size : Word) (s : State) : State :=
  driveInt (runRing { s with
    wm := { s.wm with consumer := 0#32 }
    ev := { s.ev with
      ringCfg := some ⟨base.toNat, size.toNat⟩, producer := 0, lostHold := false, run := .running
      ring := some (startWrite s.wm) } })

/-- The start of EVENTS_START (R173). -/
def startEvents (cmd : Command) (s : State) : State :=
  match s.ev.run with
  | .stopped =>
    match eventsStartCheck s.wm cmd.arg1 cmd.arg2 with
    | some n => endCommand .badParameter (BitVec.ofNat 32 n) s
    | none => installRing cmd.arg1 cmd.arg2 s
  | .running => endCommand .eventsActive 0#32 s
  | .draining => endCommand .eventsActive 0#32 s

/-- The start of EVENTS_STOP (R174, R175). A record that was requested in RUNNING and is not granted yet is still
written, an EVENTS_LOST record with an empty queue too (the model's choice: log 34). -/
def stopEvents (s : State) : State :=
  match s.ev.run with
  | .stopped => endCommand .eventsIdle 0#32 s
  | .running => finishDrain (runRing (driveInt { s with ev := { s.ev with run := .draining } }))
  | .draining => s

/-- The start of SNAPSHOT: the image, and with the clear flag all counters 0 (R178, R179). -/
def startSnapshot (cmd : Command) (s : State) : State :=
  runRing { s with ev := { s.ev with
    snap := some ⟨s.ev.counters, s.timebase, 0, none⟩
    counters := if cmd.arg1.getLsbD 0 then Counters.zero else s.ev.counters } }

/-! ### Ends of the unit's accesses as steps -/

/-- The producer write of EVENTS_START ended (R173). -/
def endStartWrite (e : AccessEnd) (r : DevReq) (s : State) : State :=
  let s := { s with ev := s.ev.startEnd }
  if accessOk e then runRing (endCommand .done 0#32 s)
  else endCommand .memoryFault (BitVec.ofNat 32 r.addr) (postFault 0 .record r.addr s)

/-- A ring write ended, by its kind (R169 to R171, R173, R175). -/
def endRingWrite (k : RingKind) (e : AccessEnd) (r : DevReq) (s : State) : State :=
  match k with
  | .event => afterRing { s with ev := s.ev.recordEnd e s.wm }
  | .lost n => afterRing { s with ev := s.ev.lostEnd n e s.wm }
  | .producer => afterRing (driveInt { s with ev := s.ev.producerEnd })
  | .start => endStartWrite e r s

/-- The unit after the end of a snapshot burst that left the image `im`; after the last one the image is discarded
(R172, R180). -/
def EventUnit.snapEnd (im : SnapImage) (ev : EventUnit) : EventUnit :=
  { ev.after .snapshot with snap := if im.written then none else some im }

/-- A snapshot burst ended (R180). -/
def endSnapBurst (e : AccessEnd) (r : DevReq) (s : State) : State :=
  match s.ev.snap with
  | some im =>
    let im := im.advance e r.addr
    let s := postFaultIf e 0 .snapshot r.addr { s with ev := s.ev.snapEnd im }
    runRing (if im.written then endCommand im.result.1 im.result.2 s else s)
  | none => s

end Sys2Proof.Machine
end

