-- ==== Sys2Proof/Machine/Credit.lean ====
section
/-! DEFINITION. The control frame queue (R105) and the Credit Unit (Chapter 7): posted totals, CREDIT requests, send
records, available credit, link reset and link-up. -/

namespace Sys2Proof.Machine

/-! ### Control frame requests (R105) -/

/-- The link is UP. -/
def LinkController.isUp (l : LinkController) : Bool := decide (l.state = .up)

/-- A control frame request reaches the Transmit Engine: discarded when the link is not UP, absorbed when one of its
kind is queued, otherwise at the tail (R105). -/
def requestCtl (r : CtlReq) (s : State) : State :=
  { s with tx := { s.tx with
    queue := if s.link.isUp && !s.tx.queue.contains r then s.tx.queue ++ [r] else s.tx.queue } }

/-! ### Receive side (R128 to R132) -/

/-- A change of one receive record. -/
def CreditUnit.onRecv (c : Chan) (f : RecvRecord → RecvRecord) (u : CreditUnit) : CreditUnit :=
  { u with recv := u.recv.set c (f u.recv[c]) }

/-- A change of one send record. -/
def CreditUnit.onSend (d : Chan) (f : SendRecord → SendRecord) (u : CreditUnit) : CreditUnit :=
  { u with send := u.send.set d (f u.send[d]) }

/-- The Credit Unit requests a CREDIT for channel `c`: only while UP, once while its flag is set (R129). -/
def requestCredit (c : Chan) (s : State) : State :=
  { s with
    cred := if s.link.isUp then s.cred.onRecv c (fun r => { r with queued := true }) else s.cred
    tx := { s.tx with
      queue := if s.link.isUp && !s.cred.recv[c].queued && !s.tx.queue.contains (.credit c)
        then s.tx.queue ++ [.credit c] else s.tx.queue } }

/-- A posted total one higher, modulo 65536 (R129). -/
def Posted.next : Posted → Posted
  | .none => .none
  | .unknown => .unknown
  | .total n => .total (n + 1)

/-- The Landing Engine reports that a slot of channel `c` became POSTED (R129). -/
def reportPosted (c : Chan) (s : State) : State :=
  if s.link.isUp && s.wm.isActive c then
    requestCredit c { s with cred := s.cred.onRecv c (fun r => { r with posted := r.posted.next }) }
  else s

/-- The posted total after a link reset: unknown, but none stays none (R139). -/
def Posted.forget : Posted → Posted
  | .none => .none
  | .unknown => .unknown
  | .total _ => .unknown

/-- An inbound channel has been loaded with `k` slots POSTED and a new generation (R132). -/
def creditLoaded (c : Chan) (g : BitVec 8) (k : Nat) (s : State) : State :=
  let posted : Posted := if s.link.isUp then .total (BitVec.ofNat 16 k) else .unknown
  requestCredit c { s with cred := s.cred.onRecv c (fun r => { r with generation := g, posted := posted }) }

/-- The generation a CREDIT of channel `c` carries: the Credit Unit's copy, or the Window Matcher's while the channel
is OFF (R128). -/
def creditGeneration (c : Chan) (s : State) : BitVec 8 :=
  match s.wm.chans[c].state with
  | .off => s.wm.chans[c].generation
  | .active _ => s.cred.recv[c].generation
  | .stopping _ => s.cred.recv[c].generation

/-- The state a CREDIT of channel `c` carries: OPEN if it is ACTIVE and INBOUND (R130). -/
def creditOpen (c : Chan) (s : State) : Bool :=
  match s.wm.chans[c].state with
  | .active cfg => cfg.isInbound
  | .off => false
  | .stopping _ => false

/-- Channel `c` is INBOUND and not OFF. -/
def Matcher.isInbound (m : Matcher) (c : Chan) : Bool :=
  match m.cfg? c with
  | some cfg => cfg.isInbound
  | none => false

/-- A CREDIT is requested for every inbound channel that is ACTIVE or STOPPING (R131). The order in which they join the
queue, channel 0 first, is the model's choice (log 33). -/
def refreshCredits (s : State) : State :=
  allChans.foldl (fun s c => if s.wm.isInbound c then requestCredit c s else s) s

/-- The number of POSTED slots of channel `c`. -/
def postedCount (c : Chan) (s : State) : Nat :=
  s.land.rings[c].slots.countP (fun x => decide (x.state = .posted))

/-- Link-up for one inbound channel that is not OFF: P is the number of POSTED slots, and a CREDIT is requested
(R140). -/
def creditUpChan (s : State) (c : Chan) : State :=
  if s.wm.isInbound c then
    requestCredit c
      { s with cred := s.cred.onRecv c (fun r => { r with posted := .total (BitVec.ofNat 16 (postedCount c s)) }) }
  else s

/-- The link parameters' credit refresh interval (R131). -/
def LinkController.refreshInterval (l : LinkController) : Nat :=
  match l.params with
  | some p => p.creditRefresh
  | none => 0

/-- The Credit Unit at link-up (R140), channel 0 first (the model's choice: log 33). -/
def creditLinkUp (s : State) : State :=
  let s := allChans.foldl creditUpChan s
  { s with cred := { s.cred with refresh := some s.link.refreshInterval } }

/-! ### Send side (R133 to R137) -/

/-- Available credit: (A − S) mod 65536 while A is known, 0 while it is none (R136). -/
def SendRecord.available (r : SendRecord) : Nat :=
  match r.advertised with
  | some a => (a - r.sent).toNat
  | none => 0

/-- The send record that the OUTBOUND channel `c` uses (R133). -/
def sendRecord (s : State) (c : Chan) : SendRecord :=
  match s.wm.cfg? c with
  | some cfg => match cfg.dest? with
    | some d => s.cred.send[d]
    | none => SendRecord.reset
  | none => SendRecord.reset

/-- The peer state is OPEN and available credit is above 0: the two gates of staging and sending (R64, R70, R136). -/
def SendRecord.gate (r : SendRecord) : Bool := decide (r.peer = .open) && decide (0 < r.available)

/-- The advertised total that a CREDIT of the same generation leaves (R135). -/
def SendRecord.raised (r : SendRecord) (v : BitVec 16) : BitVec 16 :=
  match r.advertised with
  | some a => if creditAhead v a then v else a
  | none => v

/-- The record a CREDIT would leave: the first matching row of R135. -/
def SendRecord.credited (r : SendRecord) (g : BitVec 8) (v : BitVec 16) (st : PeerState) : SendRecord :=
  if r.generation = some g then { r with advertised := some (r.raised v), peer := st }
  else ⟨0#16, some v, some g, st⟩

/-- The bound of R135: A′ is not ahead of S′ by more than 32767. -/
def SendRecord.bounded (r : SendRecord) : Bool := decide (r.available ≤ 32767)

/-- A first send to the channel's destination is counted (R137). -/
def SendRecord.charge (r : SendRecord) : SendRecord := { r with sent := r.sent + 1 }

/-- The sent total of channel `c`'s destination rises by 1 (R137). -/
def chargeSend (c : Chan) (s : State) : State :=
  { s with cred := match s.wm.cfg? c with
    | some cfg => match cfg.dest? with
      | some d => s.cred.onSend d SendRecord.charge
      | none => s.cred
    | none => s.cred }

/-! ### Link reset (R139) -/

/-- The Credit Unit's part of a link reset; a CREDIT handed to it and not yet taken is discarded (R90, R139). -/
def CreditUnit.linkReset (u : CreditUnit) : CreditUnit :=
  { recv := tabulate (fun c => { u.recv[c] with posted := u.recv[c].posted.forget, queued := false })
    send := Vector.replicate 16 SendRecord.reset
    refresh := none
    inbox := [] }

end Sys2Proof.Machine
end

