-- ==== Sys2Proof/Machine/Capture.lean ====
section
/-! DEFINITION. The Capture Unit and the staging pool (Chapter 4): slots, buffers, read jobs, commits, capture, staging,
completion and write-back, peer closed, the stop and the link reset of outbound channels. -/

namespace Sys2Proof.Machine

/-! ### Slots and buffers -/

/-- The slot record `i` of outbound channel `c` (R54). -/
def CaptureUnit.slot? (u : CaptureUnit) (c : Chan) (i : Nat) : Option OutSlot := u.rings[c].slots[i]?

/-- A change of one ring. -/
def CaptureUnit.onRing (c : Chan) (f : OutRing → OutRing) (u : CaptureUnit) : CaptureUnit :=
  { u with rings := u.rings.set c (f u.rings[c]) }

/-- A change of one slot of a ring. -/
def OutRing.onSlot (i : Nat) (f : OutSlot → OutSlot) (r : OutRing) : OutRing := { r with slots := r.slots.modify i f }

/-- A change of one slot record. -/
def CaptureUnit.onSlot (c : Chan) (i : Nat) (f : OutSlot → OutSlot) (u : CaptureUnit) : CaptureUnit :=
  u.onRing c (OutRing.onSlot i f)

/-- A change of one buffer record. -/
def CaptureUnit.onBuf (b : Buf) (f : Buffer → Buffer) (u : CaptureUnit) : CaptureUnit :=
  { u with bufs := u.bufs.set b (f u.bufs[b]) }

/-- The next slot, in the ring's wrapping order (00_scope.md, Ring positions). -/
def nextSlot (count i : Nat) : Nat := (i + 1) % count

/-- The transmit cursor moves to the next slot (R55). -/
def OutRing.passTransmit (r : OutRing) : OutRing :=
  { r with transmitCursor := nextSlot r.slots.length r.transmitCursor }

/-- Host-owned: OPEN or FILLING (section 3.4). -/
def OutState.hostOwned : OutState → Bool
  | .open => true
  | .filling => true
  | .held => false
  | .committed => false
  | .staging => false
  | .ready => false
  | .inFlight => false
  | .completing => false

/-- The number of FREE buffers (R59). -/
def CaptureUnit.freeCount (u : CaptureUnit) : Nat := allBufs.countP (fun b => decide (u.bufs[b].state = .free))

/-- The number of buffers bound for capture: purpose capture, whatever the state (R59). -/
def CaptureUnit.captureCount (u : CaptureUnit) : Nat :=
  allBufs.countP (fun b => decide (u.bufs[b].purpose = some .capture))

/-- The FREE buffer that is taken: the lowest numbered (log 13). -/
def CaptureUnit.freeBuf? (u : CaptureUnit) : Option Buf := allBufs.find? (fun b => decide (u.bufs[b].state = .free))

/-- The slot gives up the buffer `b` if it is bound to it. -/
def OutSlot.unbind (b : Buf) (x : OutSlot) : OutSlot := { x with buf := if x.buf = some b then none else x.buf }

/-- The slot that the buffer is bound to loses the buffer. -/
def CaptureUnit.unbindSlot (b : Buf) (u : CaptureUnit) : CaptureUnit :=
  match u.bufs[b].binding with
  | some (c, i) => u.onSlot c i (OutSlot.unbind b)
  | none => u

/-- The buffer returns to FREE: no binding, no purpose, no valid byte (R58). -/
def CaptureUnit.freeBuf (b : Buf) (u : CaptureUnit) : CaptureUnit := (u.unbindSlot b).onBuf b (fun _ => Buffer.free)

/-! ### Read jobs (R66) -/

/-- The granted access reads into buffer `b`. -/
def MemPort.readingInto (p : MemPort) (b : Buf) : Bool :=
  match p.granted with
  | some (.device r) => decide (r.purpose = .staging b) || decide (r.purpose = .refetch b)
  | some .host => false
  | none => false

/-- A class 2 access is granted. -/
def MemPort.readBusy (p : MemPort) : Bool := allBufs.any p.readingInto

/-- The request of the next burst of a job, read with all byte enables set (R65). -/
def ReadJob.req (j : ReadJob) (wm : Matcher) (x : Burst) : DevReq :=
  ⟨if j.refetch then .refetch j.buf else .staging j.buf, false, wm.slotAddr j.chan j.slot + 4 * x.off,
    List.replicate x.len readWord⟩

/-- The burst presented next: a refetch job's first, then the staging jobs in the order they began (R66). -/
def CaptureUnit.nextRead (u : CaptureUnit) (wm : Matcher) : Option DevReq :=
  match (u.jobs.find? (fun j => j.refetch && j.drop.isNone)).or (u.jobs.find? (fun j => j.drop.isNone)) with
  | some j => j.bursts.head?.map (j.req wm)
  | none => none

/-- At most one class 2 request is presented at a time (R10, R66; log 19). -/
def presentRead (s : State) : State :=
  { s with reqs := { s.reqs with captureRead :=
      if s.reqs.captureRead.isSome || s.port.readBusy then s.reqs.captureRead else s.cap.nextRead s.wm } }

/-- The waiting class 2 request reads into buffer `b`. -/
def Requests.readsInto (q : Requests) (b : Buf) : Bool :=
  match q.captureRead with
  | some r => decide (r.purpose = .staging b) || decide (r.purpose = .refetch b)
  | none => false

/-- The job of buffer `b` leaves the list, and its waiting burst is withdrawn (R66). -/
def removeJob (b : Buf) (s : State) : State :=
  { s with
    cap := { s.cap with jobs := s.cap.jobs.filter (fun j => decide (j.buf ≠ b)) }
    reqs := { s.reqs with captureRead := if s.reqs.readsInto b then none else s.reqs.captureRead } }

/-- What becomes of the buffer of an ended job (R58): FREE, or FROZEN with its bytes kept (R81). -/
def CaptureUnit.drop (b : Buf) (d : Drop) (u : CaptureUnit) : CaptureUnit :=
  match d with
  | .free => u.freeBuf b
  | .freeze => u.onBuf b (fun x => { x with state := .frozen })

/-- The job of buffer `b` is ended by a stop, cancel or link reset: at once, or, when its burst is granted, at the end
of that burst, whose data is then discarded (R66). -/
def dropJob (b : Buf) (d : Drop) (s : State) : State :=
  if s.port.readingInto b then
    { s with cap := { s.cap with
      jobs := s.cap.jobs.map (fun j => if j.buf = b then { j with drop := some d } else j) } }
  else
    let s := removeJob b s
    presentRead { s with cap := s.cap.drop b d }

/-! ### Completion and write-back (R75, R76) -/

/-- The 4-word write-back burst of header words 1 and 2 (R76). -/
def wbHeaderReq (wm : Matcher) (c : Chan) (i : Nat) (d : Completion) : DevReq :=
  ⟨.wbHeader, true, wm.slotAddr c i, [maskedWord, fullWord (completionWord1 d), fullWord d.time, maskedWord]⟩

/-- The write-back of header word 0 (R76). -/
def wbWord0Req (wm : Matcher) (c : Chan) (i : Nat) (x : OutSlot) (st : Status) : DevReq :=
  ⟨.wbWord0, true, wm.slotAddr c i, [fullWord (headerWord0 x.length x.notify st)]⟩

/-- The completion of slot `i` of channel `c`. -/
def CaptureUnit.completion? (u : CaptureUnit) (c : Chan) (i : Nat) : Option Completion :=
  (u.slot? c i).bind (·.done)

/-- The write-back of the slot at the head of the queue starts when none is in progress (R76). -/
def startWriteback (s : State) : State :=
  match s.cap.wbPhase, s.cap.wbQueue with
  | .idle, (c, i) :: _ =>
    match s.cap.completion? c i with
    | some d => present (wbHeaderReq s.wm c i d) { s with cap := { s.cap with wbPhase := .header } }
    | none => s
  | .idle, [] => s
  | .header, _ => s
  | .word0, _ => s

/-- A completed slot gives up its buffer: unbound if it is being sent, freed otherwise (R66, R72, R75). -/
def releaseBuf (b : Buf) (s : State) : State :=
  match s.cap.bufs[b].state with
  | .sending => { s with cap := (s.cap.unbindSlot b).onBuf b (fun x => { x with binding := none }) }
  | .loading => dropJob b .free s
  | .free => s
  | .capturing => { s with cap := s.cap.freeBuf b }
  | .frozen => { s with cap := s.cap.freeBuf b }
  | .ready => { s with cap := s.cap.freeBuf b }

/-- The slot record on entering COMPLETING (R75). -/
def OutSlot.complete (st : Status) (now : Word) (sent : Option SentInfo) (x : OutSlot) : OutSlot :=
  { x with state := .completing, buf := none, done := some ⟨st, now, sent⟩ }

/-- The slot enters COMPLETING, and joins the write-back queue (R75). -/
def enterCompleting (c : Chan) (i : Nat) (st : Status) (sent : Option SentInfo) (s : State) : State :=
  { s with cap :=
    let u := s.cap.onSlot c i (OutSlot.complete st s.timebase sent)
    { u with wbQueue := u.wbQueue ++ [(c, i)] } }

/-- The slot's buffer, if it has one, is given up. -/
def releaseSlotBuf (c : Chan) (i : Nat) (s : State) : State :=
  match (s.cap.slot? c i).bind (·.buf) with
  | some b => releaseBuf b s
  | none => s

/-- An outbound slot is completed with a status (R75). -/
def completeSlot (c : Chan) (i : Nat) (st : Status) (sent : Option SentInfo) (s : State) : State :=
  startWriteback (enterCompleting c i st sent (releaseSlotBuf c i s))

/-! ### Peer closed (R69) -/

/-- The slot at the transmit cursor that a CLOSED peer state completes: COMMITTED or READY (R69). -/
def closedSlot? (c : Chan) (s : State) : Option Nat :=
  let r := s.cap.rings[c]
  match r.slots[r.transmitCursor]? with
  | some x =>
    if (x.state = .committed ∨ x.state = .ready) ∧ (sendRecord s c).peer = .closed then some r.transmitCursor else none
  | none => none

/-- The transmit cursor of channel `c` moves to the next slot (R55). -/
def passTransmit (c : Chan) (s : State) : State := { s with cap := s.cap.onRing c OutRing.passTransmit }

/-- Committed slots at the transmit cursor of a channel whose peer is CLOSED are completed PEER_CLOSED, at most `n`. -/
def drainClosed (c : Chan) : Nat → State → State
  | 0, s => s
  | n + 1, s =>
    match closedSlot? c s with
    | some i => drainClosed c n (passTransmit c (completeSlot c i .peerClosed none s))
    | none => s

/-- R69 for one channel: as many slots as reach the cursor COMMITTED while the peer is CLOSED (log 23). -/
def settleClosed (c : Chan) (s : State) : State := drainClosed c s.cap.rings[c].slots.length s

/-! ### Commits (R56, R57, R79) -/

/-- HELD slots at the commit cursor become COMMITTED, at most `n` (R57). -/
def promoteOut : Nat → OutRing → OutRing
  | 0, r => r
  | n + 1, r =>
    match r.slots[r.commitCursor]? with
    | some x =>
      if x.state = .held then
        promoteOut n { r.onSlot r.commitCursor (fun x => { x with state := .committed }) with
          commitCursor := nextSlot r.slots.length r.commitCursor }
      else r
    | none => r

/-- An accepted commit of slot `i`: COMMITTED at the commit cursor, with promotion, or HELD away from it (R57). -/
def OutRing.accept (i : Nat) (r : OutRing) : OutRing :=
  if i = r.commitCursor then
    promoteOut r.slots.length { r.onSlot i (fun x => { x with state := .committed }) with
      commitCursor := nextSlot r.slots.length r.commitCursor }
  else r.onSlot i (fun x => { x with state := .held })

/-- The commit's length and notify bit are recorded (R54). -/
def recordCommit (c : Chan) (i len : Nat) (notify : Bool) (s : State) : State :=
  { s with cap := s.cap.onSlot c i (fun x => { x with length := len, notify := notify }) }

/-- The CAPTURING buffer bound to the slot becomes FROZEN (R63). -/
def CaptureUnit.freeze (c : Chan) (i : Nat) (u : CaptureUnit) : CaptureUnit :=
  match (u.slot? c i).bind (·.buf) with
  | some b => u.onBuf b (fun x => { x with state := .frozen })
  | none => u

/-- An accepted commit (R57). -/
def acceptCommit (c : Chan) (i : Nat) (s : State) : State :=
  settleClosed c { s with cap := (s.cap.freeze c i).onRing c (OutRing.accept i) }

/-- A rejected commit (R56). -/
def rejectCommit (c : Chan) (i len : Nat) (s : State) : State :=
  completeSlot c i .badLength none (post .commitRejected c (BitVec.ofNat 32 i) (BitVec.ofNat 32 len) s)

/-- The Capture Unit takes a commit (R56, R57, R79). -/
def takeCommit (c : Chan) (i len : Nat) (notify : Bool) (s : State) : State :=
  let s := recordCommit c i len notify (count (Counters.handover c) s)
  match s.wm.chans[c].state with
  | .active cfg => if len = 0 ∨ cfg.capacity < len then rejectCommit c i len s else acceptCommit c i s
  | .stopping _ => completeSlot c i .stopped none s
  | .off => s

/-! ### Capture (R59, R62) -/

/-- The enabled bytes of a word at word offset `off` stored into a buffer, from lane `n` on (R62). -/
def storeLanes (off : Nat) (be : BitVec 4) (d : Word) (m : List (Nat × Byte)) : List (Nat × Byte) :=
  [0, 1, 2, 3].foldl (fun m j => if be.getLsbD j then mapInsert m (4 * off + j - 12) (lane d j) else m) m

/-- A captured word is stored in buffer `b` (R62). -/
def CaptureUnit.store (b : Buf) (off : Nat) (be : BitVec 4) (d : Word) (u : CaptureUnit) : CaptureUnit :=
  u.onBuf b (fun x => { x with bytes := storeLanes off be d x.bytes })

/-- The buffer that a capture attach takes, if its condition holds (R59). -/
def CaptureUnit.attach? (u : CaptureUnit) : Option Buf :=
  if u.captureCount < Config.captureBindLimit then u.freeBuf? else none

/-- A FREE buffer becomes CAPTURING for the slot, and the slot FILLING (R62). -/
def CaptureUnit.attach (c : Chan) (i : Nat) (b : Buf) (u : CaptureUnit) : CaptureUnit :=
  (u.onBuf b (fun _ => ⟨.capturing, some .capture, some (c, i), []⟩)).onSlot c i
    (fun x => { x with state := .filling, buf := some b })

/-- The Capture Unit takes a word written to the user word or payload of a host-owned slot of an ACTIVE channel (R62).
-/
def CaptureUnit.captureWord (c : Chan) (i off : Nat) (be : BitVec 4) (d : Word) (u : CaptureUnit) : CaptureUnit :=
  match u.slot? c i with
  | some x =>
    match x.state, x.buf with
    | .open, _ =>
      match u.attach? with
      | some b => (u.attach c i b).store b off be d
      | none => u
    | .filling, some b => u.store b off be d
    | _, _ => u
  | none => u

/-- A captured word reaches the Capture Unit; on a STOPPING channel it is discarded (R62, R79). -/
def captureWord (c : Chan) (i off : Nat) (be : BitVec 4) (d : Word) (s : State) : State :=
  { s with cap := if s.wm.isActive c then s.cap.captureWord c i off be d else s.cap }

/-! ### Staging (R60, R64, R65) -/

/-- The number of slots of all outbound channels that are STAGING or READY (R64). -/
def CaptureUnit.stagedCount (u : CaptureUnit) : Nat :=
  (allChans.map (fun c => u.rings[c].slots.countP (fun x => decide (x.state = .staging ∨ x.state = .ready)))).sum

/-- The slot at the transmit cursor of channel `c`. -/
def CaptureUnit.transmitSlot? (u : CaptureUnit) (c : Chan) : Option OutSlot := u.slot? c u.rings[c].transmitCursor

/-- Conditions 1 to 4 of R64 for the slot at the transmit cursor. -/
def stagingWanted (c : Chan) (s : State) : Bool :=
  match s.cap.transmitSlot? c with
  | some x =>
    decide (x.state = .committed) && s.wm.isActive c && (sendRecord s c).gate
      && decide (s.tx.replay.length + s.cap.stagedCount < Config.replayLimit)
  | none => false

/-- A staging claim waits for a buffer: conditions 1 to 4 hold and the slot has no buffer (R64). -/
def stagingClaim (c : Chan) (s : State) : Bool :=
  stagingWanted c s && decide ((s.cap.transmitSlot? c).bind (·.buf) = none)

/-- A waiting refetch claim whose slot is bound to no buffer (R59, R60). -/
def CaptureUnit.refetchClaim? (u : CaptureUnit) : Option Refetch :=
  match u.refetch with
  | some r => if r.buf = none ∧ (u.slot? r.chan r.slot).bind (·.buf) = none then some r else none
  | none => none

/-- The pool's grant of a FREE buffer to channel `c`: at least 2 FREE, no refetch claim to be granted first, and `c`
first in channel order after the last one granted (R59, R60). -/
def stagingGrant? (c : Chan) (s : State) : Option Buf :=
  if 2 ≤ s.cap.freeCount ∧ s.cap.refetchClaim? = none
      ∧ (chansAfter s.cap.lastGranted).find? (fun k => stagingClaim k s) = some c
  then s.cap.freeBuf? else none

/-- Buffer byte `k` of a frame is valid. -/
def Buffer.valid (x : Buffer) (k : Nat) : Bool := (mapLookup x.bytes k).isSome

/-- A word offset of the frame is needed: one of its frame bytes has a clear valid flag (R65). -/
def Buffer.needs (x : Buffer) (len off : Nat) : Bool :=
  [0, 1, 2, 3].any (fun j => decide (4 * off + j - 12 < 4 + len) && !x.valid (4 * off + j - 12))

/-- The reads planned for a frame of length `len` in the buffer (R65). -/
def Buffer.plan (x : Buffer) (len : Nat) : List Burst := planBursts ((frameOffsets len).filter (x.needs len))

/-- A staging or refetch that has no read left makes its buffer READY, and a staging its slot (R65, R73). -/
def CaptureUnit.makeReady (refetch : Bool) (c : Chan) (i : Nat) (b : Buf) (u : CaptureUnit) : CaptureUnit :=
  let u := u.onBuf b (fun x => { x with state := .ready })
  if refetch then u else u.onSlot c i (fun x => { x with state := .ready })

/-- The reads of a LOADING buffer are planned: a job joins the list, or the buffer is READY when none is needed. -/
def planReads (refetch : Bool) (c : Chan) (i len : Nat) (b : Buf) (s : State) : State :=
  match s.cap.bufs[b].plan len with
  | [] => { s with cap := s.cap.makeReady refetch c i b }
  | x :: rest =>
    presentRead { s with cap := { s.cap with jobs := s.cap.jobs ++ [⟨refetch, c, i, len, b, x :: rest, none⟩] } }

/-- Staging begins with the slot's own FROZEN buffer: LOADING, purpose and valid bytes kept (R64). -/
def CaptureUnit.stageFrozen (c : Chan) (i : Nat) (b : Buf) (u : CaptureUnit) : CaptureUnit :=
  (u.onBuf b (fun x => { x with state := .loading })).onSlot c i (fun x => { x with state := .staging })

/-- Staging begins with a buffer the pool granted: LOADING, purpose staging, no byte valid (R60, R64). -/
def CaptureUnit.stageGranted (c : Chan) (i : Nat) (b : Buf) (u : CaptureUnit) : CaptureUnit :=
  let u := (u.onBuf b (fun _ => ⟨.loading, some .staging, some (c, i), []⟩)).onSlot c i
    (fun x => { x with state := .staging, buf := some b })
  { u with lastGranted := c }

/-- Staging of the slot at the transmit cursor of channel `c` begins if its conditions hold (R64; log 31). -/
def beginStaging (c : Chan) (s : State) : State :=
  let i := s.cap.rings[c].transmitCursor
  match s.cap.transmitSlot? c with
  | some x =>
    if stagingWanted c s then
      match x.buf with
      | some b =>
        if s.cap.bufs[b].state = .frozen then planReads false c i x.length b { s with cap := s.cap.stageFrozen c i b }
        else s
      | none =>
        match stagingGrant? c s with
        | some b => planReads false c i x.length b { s with cap := s.cap.stageGranted c i b }
        | none => s
    else s
  | none => s

/-! ### Ends of staging and refetch reads (R65, R66, R67, R73) -/

/-- The bytes of one read word that fall in the frame and are not yet valid are stored (R65). -/
def storeInvalid (len off : Nat) (d : Word) (m : List (Nat × Byte)) : List (Nat × Byte) :=
  [0, 1, 2, 3].foldl
    (fun m j =>
      let k := 4 * off + j - 12
      if 12 ≤ 4 * off + j ∧ k < 4 + len ∧ mapLookup m k = none then mapInsert m k (lane d j) else m) m

/-- The words of an accepted read, from word offset `off` on, stored by R65. -/
def storeRead (len : Nat) : Nat → List Word → List (Nat × Byte) → List (Nat × Byte)
  | _, [], m => m
  | off, d :: ds, m => storeRead len (off + 1) ds (storeInvalid len off d m)

/-- The job whose access has ended. -/
def CaptureUnit.job? (u : CaptureUnit) (b : Buf) : Option ReadJob := u.jobs.find? (fun j => decide (j.buf = b))

/-- An ended job's granted read has ended: its data is discarded, its buffer freed or frozen (R58, R66). -/
def finishDropped (b : Buf) (d : Drop) (s : State) : State :=
  let s := removeJob b s
  presentRead { s with cap := s.cap.drop b d }

/-- The bytes of an accepted read burst are stored (R65, R73). -/
def storeBurst (j : ReadJob) (r : DevReq) (s : State) : State :=
  { s with cap := s.cap.onBuf j.buf (fun x => { x with bytes :=
      match j.bursts.head? with
      | some k => storeRead j.len k.off (memReadBurst s.mem r.addr r.words.length) x.bytes
      | none => x.bytes }) }

/-- An accepted read: its bytes are stored; after the last one the buffer is READY, otherwise the next burst of the
list is presented (R65, R66, R73). -/
def acceptRead (j : ReadJob) (r : DevReq) (s : State) : State :=
  let s := storeBurst j r s
  match j.bursts.tail with
  | [] =>
    let s := removeJob j.buf s
    presentRead { s with cap := s.cap.makeReady j.refetch j.chan j.slot j.buf }
  | rest =>
    presentRead { s with cap := { s.cap with
      jobs := s.cap.jobs.map (fun k => if k.buf = j.buf then { k with bursts := rest } else k) } }

/-- A staging read ended with FAULT (R67). -/
def faultStaging (j : ReadJob) (r : DevReq) (s : State) : State :=
  settleClosed j.chan (passTransmit j.chan
    (completeSlot j.chan j.slot .memoryFault none (postFault j.chan .staging r.addr s)))

/-- The end of a granted staging read into buffer `b` (R65, R66, R67, R69). -/
def endStagingRead (b : Buf) (e : AccessEnd) (r : DevReq) (s : State) : State :=
  match s.cap.job? b with
  | some j =>
    match j.drop with
    | some d => finishDropped b d s
    | none => if accessOk e then settleClosed j.chan (acceptRead j r s) else faultStaging j r s
  | none => presentRead s

/-! ### Refetch (R60, R61, R73, R74) -/

/-- The READY staging buffer that a reclaim takes: that of the lowest channel number (R61). -/
def CaptureUnit.reclaimable? (u : CaptureUnit) : Option (Chan × Buf) :=
  allChans.findSome? (fun c =>
    match u.transmitSlot? c with
    | some x =>
      match x.state, x.buf with
      | .ready, some b =>
        if u.bufs[b].state = .ready ∧ u.bufs[b].purpose = some .staging then some (c, b) else none
      | _, _ => none
    | none => none)

/-- The reclaimed slot returns from READY to COMMITTED, still at the transmit cursor (R61). -/
def CaptureUnit.reclaim (c : Chan) (u : CaptureUnit) : CaptureUnit :=
  u.onSlot c u.rings[c].transmitCursor (fun x => { x with state := .committed, buf := none })

/-- The buffer that a refetch claim is granted, with the unit after a reclaim if one was made (R59, R61). -/
def CaptureUnit.refetchBuf? (u : CaptureUnit) : Option (Buf × CaptureUnit) :=
  match u.freeBuf? with
  | some b => some (b, u)
  | none => u.reclaimable?.map (fun cb => (cb.2, u.reclaim cb.1))

/-- The granted buffer is LOADING for the refetch's slot, with no byte valid (R73). -/
def CaptureUnit.startRefetch (r : Refetch) (b : Buf) (u : CaptureUnit) : CaptureUnit :=
  let u := (u.onBuf b (fun _ => ⟨.loading, some .refetch, some (r.chan, r.slot), []⟩)).onSlot r.chan r.slot
    (fun x => { x with buf := some b })
  { u with refetch := some { r with buf := some b } }

/-- The waiting refetch claim is granted a buffer, and its reads begin (R60, R61, R73). -/
def grantRefetch (s : State) : State :=
  match s.cap.refetchClaim? with
  | some r =>
    match s.cap.refetchBuf? with
    | some (b, u) => planReads true r.chan r.slot r.len b { s with cap := u.startRefetch r b }
    | none => s
  | none => s

/-- The refetched frame is READY in this buffer (R73). -/
def CaptureUnit.refetched? (u : CaptureUnit) : Option Buf :=
  match u.refetch with
  | some r =>
    match r.buf with
    | some b => if u.bufs[b].state = .ready then some b else none
    | none => none
  | none => none

/-- The Capture Unit cancels the refetch in hand, in any stage (R74). -/
def cancelCaptureRefetch (s : State) : State :=
  match s.cap.refetch with
  | some r =>
    let s := { s with cap := { s.cap with refetch := none } }
    match r.buf with
    | some b =>
      match s.cap.bufs[b].state with
      | .loading => dropJob b .free s
      | .ready => { s with cap := s.cap.freeBuf b }
      | _ => s
    | none => s
  | none => s

/-! ### Sending (R70, R71, R72) -/

/-- The buffer that a READY new frame of channel `c` is offered in (R70). -/
def offered? (c : Chan) (s : State) : Option Buf :=
  match s.cap.transmitSlot? c with
  | some x => if x.state = .ready ∧ (sendRecord s c).gate then x.buf else none
  | none => none

/-- The frame in a buffer: user word from bytes 0 to 3, payload from bytes 4 to 3 + `len` (R71). -/
def Buffer.byte (x : Buffer) (k : Nat) : Byte := (mapLookup x.bytes k).getD 0#8

/-- The user word of the frame in a buffer (R71). -/
def Buffer.user (x : Buffer) : Word := wordOfLanes (x.byte 0) (x.byte 1) (x.byte 2) (x.byte 3)

/-- The payload bytes of the frame in a buffer (R71). -/
def Buffer.payload (x : Buffer) (len : Nat) : List Byte := (List.range len).map (fun k => x.byte (4 + k))

/-- A buffer goes to SENDING (R71). -/
def CaptureUnit.sendBuf (b : Buf) (u : CaptureUnit) : CaptureUnit := u.onBuf b (fun x => { x with state := .sending })

/-- A new frame is taken for its first send: IN_FLIGHT, SENDING, transmit cursor on (R71). -/
def CaptureUnit.takeNew (c : Chan) (b : Buf) (u : CaptureUnit) : CaptureUnit :=
  ((u.sendBuf b).onSlot c u.rings[c].transmitCursor (fun x => { x with state := .inFlight })).onRing c
    OutRing.passTransmit

/-! ### Stop (R78, R79, R80) -/

/-- The channel's state in the Window Matcher. -/
def setChan (c : Chan) (st : ChanState) (s : State) : State :=
  { s with wm := { s.wm with chans := s.wm.chans.set c { s.wm.chans[c] with state := st } } }

/-- A FILLING slot's buffer is freed and the slot becomes OPEN (R78). -/
def emptyFilling (c : Chan) (s : State) (i : Nat) : State :=
  match s.cap.slot? c i with
  | some x =>
    if x.state = .filling then
      let s := releaseSlotBuf c i s
      { s with cap := s.cap.onSlot c i (fun x => { x with state := .open, buf := none }) }
    else s
  | none => s

/-- A HELD, COMMITTED, STAGING or READY slot is completed STOPPED (R78). -/
def stopSlot (c : Chan) (s : State) (i : Nat) : State :=
  match s.cap.slot? c i with
  | some x =>
    if x.state = .held ∨ x.state = .committed ∨ x.state = .staging ∨ x.state = .ready then
      completeSlot c i .stopped none s
    else s
  | none => s

/-- The slot indexes of a ring in ring order starting at the transmit cursor (R78). -/
def OutRing.order (r : OutRing) : List Nat :=
  (List.range r.slots.length).map (fun k => (r.transmitCursor + k) % r.slots.length)

/-- Every slot of a STOPPING channel is OPEN: its drain is complete (R80). -/
def outDrained (c : Chan) (s : State) : Bool :=
  s.wm.isStopping c && s.cap.rings[c].slots.all (fun x => decide (x.state = .open))

/-- The end of an outbound drain: OFF, records discarded, STOP_CHANNEL ends DONE (R80). -/
def finishOutDrain (c : Chan) (s : State) : State :=
  if outDrained c s then
    let s := setChan c .off s
    endCommand .done 0#32 { s with cap := s.cap.onRing c (fun _ => OutRing.empty) }
  else s

/-- STOP_CHANNEL starts on an ACTIVE outbound channel (R78). -/
def stopOutbound (c : Chan) (cfg : ChanCfg) (s : State) : State :=
  let s := setChan c (.stopping cfg) s
  let order := s.cap.rings[c].order
  finishOutDrain c (order.foldl (stopSlot c) (order.foldl (emptyFilling c) s))

/-! ### Link reset (R81) -/

/-- A READY or STAGING slot returns to COMMITTED at a link reset: a capture buffer back to FROZEN, a staging buffer
freed, once a granted read has ended (R81). -/
def resetSlot (c : Chan) (s : State) (i : Nat) : State :=
  match s.cap.slot? c i with
  | some x =>
    let back (s : State) : State := { s with cap := s.cap.onSlot c i (fun x => { x with state := .committed }) }
    match x.state, x.buf with
    | .ready, some b =>
      if s.cap.bufs[b].purpose = some .capture then back { s with cap := s.cap.drop b .freeze }
      else back { s with cap := s.cap.drop b .free }
    | .staging, some b =>
      if s.cap.bufs[b].purpose = some .capture then back (dropJob b .freeze s) else back (dropJob b .free s)
    | _, _ => s
  | none => s

/-- The Capture Unit's part of a link reset for one channel. No slot is completed and no cursor moves (R54, R81). -/
def resetChan (s : State) (c : Chan) : State := s.cap.rings[c].order.foldl (resetSlot c) s

/-- The Capture Unit's part of a link reset (R81). -/
def captureReset (s : State) : State := allChans.foldl resetChan (cancelCaptureRefetch s)

/-! ### Ends of write-backs (R76, R77) -/

/-- The write-back of header word 0 is requested (R76). -/
def toWord0 (c : Chan) (i : Nat) (s : State) : State :=
  match s.cap.slot? c i, s.cap.completion? c i with
  | some x, some d => present (wbWord0Req s.wm c i x d.status) { s with cap := { s.cap with wbPhase := .word0 } }
  | _, _ => s

/-- The burst of header words 1 and 2 ended, with either end status (R76, R77). -/
def endWbHeader (e : AccessEnd) (r : DevReq) (s : State) : State :=
  match s.cap.wbQueue with
  | (c, i) :: _ => toWord0 c i (postFaultIf e c .record r.addr s)
  | [] => s

/-- A slot record with state OPEN, no buffer, nothing recorded (R54, R77). DESIGN CHOICE: R54 gives an OPEN slot no
committed length and no notify bit, and the model fills in 0 and 0; the commit overwrites both (R56) before anything
reads them (log 40). -/
def OutSlot.fresh : OutSlot := ⟨.open, none, 0, false, none⟩

/-- The slot at the head of the write-back queue returns to OPEN and leaves the queue (R77). -/
def CaptureUnit.slotDone (c : Chan) (i : Nat) (u : CaptureUnit) : CaptureUnit :=
  { u.onSlot c i (fun _ => OutSlot.fresh) with wbQueue := u.wbQueue.tail, wbPhase := .idle }

/-- The counters of a returned slot, by its status (R77). -/
def countReturned (c : Chan) (st : Status) (s : State) : State :=
  if st = .delivered then count (Counters.deliver c) s
  else if st.isRefusal then count (Counters.refuse c) s
  else s

/-- SLOT_DONE, if the committed notify bit was 1 (R77). -/
def postDone (c : Chan) (i : Nat) (notify : Bool) (st : Status) (s : State) : State :=
  if notify then post .slotDone c (BitVec.ofNat 32 i) (BitVec.ofNat 32 st.code) s else s

/-- The slot `i` of channel `c`, with record `x` and status `st`, returns to the host (R77, R80). -/
def returnOut (c : Chan) (i : Nat) (notify : Bool) (st : Status) (s : State) : State :=
  finishOutDrain c (postDone c i notify st
    (countReturned c st (startWriteback { s with cap := s.cap.slotDone c i })))

/-- The word 0 write-back ended, with either end status (R77). -/
def endWbWord0 (e : AccessEnd) (r : DevReq) (s : State) : State :=
  match s.cap.wbQueue with
  | (c, i) :: _ =>
    match s.cap.slot? c i, s.cap.completion? c i with
    | some x, some d => returnOut c i x.notify d.status (postFaultIf e c .record r.addr s)
    | _, _ => s
  | [] => s

end Sys2Proof.Machine
end

