-- ==== Sys2Proof/Machine/Link.lean ====
section
/-! DEFINITION. The Link Controller (Chapter 5): link states, the status word, the link reset, SYNC and UP, the link
record; frames received on the incoming lane. -/

namespace Sys2Proof.Machine

/-! ### State changes and the link status word (R102) -/

/-- A change of link state: it increments the status change count (R102). -/
def LinkController.enter (st : LinkState) (l : LinkController) : LinkController :=
  { l with state := st, changes := l.changes + 1 }

/-- The link status write with the values current when it is formed (R102). -/
def statusReq (s : State) : DevReq := ⟨.linkStatus, true, s.wm.base + 0x2C, [fullWord (statusWord s.link)]⟩

/-- A link status write is in progress at memory. -/
def MemPort.statusBusy (p : MemPort) : Bool :=
  match p.granted with
  | some (.device r) => decide (r.purpose = .linkStatus)
  | some .host => false
  | none => false

/-- A change of link state calls for a status write: requested, presented again with the current values if it waits,
or one more after the one in progress (R102). -/
def callStatus (s : State) : State :=
  { s with
    link := { s.link with statusAgain := s.link.statusAgain || s.port.statusBusy }
    reqs := { s.reqs with linkStatus := if s.port.statusBusy then s.reqs.linkStatus else some (statusReq s) } }

/-- A link status write ended (R102). -/
def statusEnd (e : AccessEnd) (r : DevReq) (s : State) : State :=
  let s := postFaultIf e 0 .record r.addr s
  if s.link.statusAgain then
    present (statusReq s) { s with link := { s.link with statusAgain := false } }
  else s

/-! ### SYNC (R95) and acknowledgements (R94, R101) -/

/-- The sync timeout in microseconds (R93, R100). -/
def LinkController.syncInterval (l : LinkController) : Nat :=
  match l.params with
  | some p => p.syncTimeout * 1000
  | none => 0

/-- Entering SYNC (R95). -/
def enterSync (s : State) : State :=
  callStatus { s with link :=
    { s.link.enter .sync with
      localEpoch := s.link.localEpoch + 1
      heard := none
      syncTimer := some s.link.syncInterval
      initTimer := some Config.initInterval
      initRequest := true } }

/-- In DOWN with lock held and no acknowledgement outstanding, SYNC is entered (R95). -/
def trySync (s : State) : State :=
  if s.link.state = .down ∧ s.link.rx.lock = true ∧ s.link.acks = 0 then enterSync s else s

/-- The executing command is a RUNNING LINK_DISABLE (R94). -/
def CommandUnit.disabling (u : CommandUnit) : Bool :=
  match u.executing with
  | some x => x.cmd.code == 5#8 && u.isRunning
  | none => false

/-- One acknowledgement of a link reset arrives: at the last one LINK_DISABLE ends, and SYNC may be entered (R94, R95,
R101). -/
def acknowledge (s : State) : State :=
  let s := { s with link := { s.link with acks := s.link.acks - 1 } }
  let s := if s.link.acks = 0 ∧ s.cmd.disabling = true then endCommand .done 0#32 s else s
  trySync s

/-! ### The link reset (R101) -/

/-- The link controller's own state at a link reset with a cause (R101, steps 1, 4, 5 and 6; R84 for the detector). -/
def LinkController.takeReset (cause : Cause) (l : LinkController) : LinkController :=
  { l.enter (if cause = .linkDisable then .off else .down) with
    lastCause := cause
    syncTimer := none
    initTimer := none
    initRequest := false
    txNotices := l.txNotices + 1
    capNotices := l.capNotices + 1
    landNotices := l.landNotices + 1
    credNotices := l.credNotices + 1
    acks := l.acks + 4
    rx := if cause = .linkDisable then LaneRx.reset else l.rx }

/-- The frame on the outgoing lane is abandoned; its end is reported later (R83, R101, R106). -/
def TransmitEngine.abandon (t : TransmitEngine) : TransmitEngine :=
  { t with sending := none, abandoned := t.abandoned ++ t.sending.toList }

/-- LINK_DOWN is posted from SYNC and UP, and for LINK_DISABLE (R101 step 3). -/
def postDown (cause : Cause) (s : State) : State :=
  if s.link.state = .sync ∨ s.link.state = .up ∨ cause = .linkDisable then
    post .linkDown 0 (BitVec.ofNat 32 cause.code) 0#32 s
  else s

/-- A link reset is taken (R101). -/
def linkReset (cause : Cause) (s : State) : State :=
  let s := postDown cause (count Counters.linkReset s)
  callStatus (driveLane { s with link := s.link.takeReset cause, tx := s.tx.abandon })

/-- A RETRY_LIMIT or REPLAY_FAULT report reaches the Link Controller: ignored unless the link is UP (R101). -/
def reportReset (cause : Cause) (s : State) : State := if s.link.isUp then linkReset cause s else s

/-! ### UP (R98) -/

/-- Entering UP (R98, R140). -/
def enterUp (s : State) : State :=
  let s := { s with link := { s.link.enter .up with syncTimer := none, initTimer := none, initRequest := true } }
  callStatus (creditLinkUp (post .linkUp 0 (s.link.localEpoch.zeroExtend 32) 0#32 s))

/-! ### LINK_ENABLE and LINK_DISABLE (R92, R93, R94) -/

/-- The link record read (R92). -/
def linkRecordReq (wm : Matcher) : DevReq := ⟨.linkRecord, false, wm.base + 0x300, List.replicate 8 readWord⟩

/-- The start of LINK_ENABLE (R92). -/
def startEnable (s : State) : State :=
  match s.link.state with
  | .off => present (linkRecordReq s.wm) s
  | .down => endCommand .linkActive 0#32 s
  | .sync => endCommand .linkActive 0#32 s
  | .up => endCommand .linkActive 0#32 s

/-- The fields of a link record's first two words (R93). -/
def linkParams (w0 w1 : Word) : LinkParams := ⟨bits w0 0 4, bits w0 8 8, bits w0 16 8, bits w1 0 16, bits w1 16 16⟩

/-- The first check of the link record that fails (R93). -/
def LinkParams.check (p : LinkParams) : Option Nat :=
  if p.retryLimit = 0 ∨ 14 < p.retryLimit then some 1
  else if p.ackTimeout < 20 then some 2
  else if p.ackDelay = 0 then some 3
  else if p.creditRefresh < 50 then some 4
  else if p.syncTimeout = 0 then some 5
  else none

/-- A valid link record is installed: DOWN, the detector searching out of lock, the status word called for (R92). -/
def installLink (p : LinkParams) (s : State) : State :=
  endCommand .done 0#32
    (callStatus (driveLane { s with link := { s.link.enter .down with params := some p, rx := LaneRx.reset } }))

/-- The link record read ended (R92, R93). -/
def linkRecordEnd (e : AccessEnd) (r : DevReq) (s : State) : State :=
  if accessOk e then
    let ws := memReadBurst s.mem r.addr r.words.length
    let p := linkParams (ws.getD 0 0#32) (ws.getD 1 0#32)
    match p.check with
    | some n => endCommand .badParameter (BitVec.ofNat 32 n) s
    | none => installLink p s
  else endCommand .memoryFault (BitVec.ofNat 32 r.addr) (postFault 0 .table r.addr s)

/-- The start of LINK_DISABLE (R94). -/
def startDisable (s : State) : State :=
  match s.link.state with
  | .off => endCommand .done 0#32 s
  | .down => linkReset .linkDisable s
  | .sync => linkReset .linkDisable s
  | .up => linkReset .linkDisable s

/-! ### The incoming lane (R84, R86, R88, R90) -/

/-- The link words of a lane report reach the detector and receiver, which watch the lane in DOWN, SYNC and UP (R84). -/
def listen (s : State) (ws : List LinkWord) : Option (LaneRx × LaneEvent) :=
  if s.link.state = .off then none else runLane s.link.rx ws

/-- The detector and receiver after a lane report. -/
def setRx (rx : LaneRx) (s : State) : State := { s with link := { s.link with rx := rx } }

/-- A good frame that a lane report ends, with the receiver after it (R88). -/
def goodFrame (s : State) (ws : List LinkWord) : Option (LaneRx × Frame) :=
  match listen s ws with
  | some (rx, .frameEnd body) =>
    match judgeFrame body with
    | .good f => some (rx, f)
    | .crcError _ => none
    | .framingError => none
  | some (_, .lockFound) => none
  | some (_, .lockLost) => none
  | some (_, .framing) => none
  | none => none

/-- Lock is found: the Link Controller may enter SYNC (R84, R95). -/
def lockFound (ws : List LinkWord) (s : State) : State :=
  match listen s ws with
  | some (rx, .lockFound) => trySync (setRx rx s)
  | some (_, .lockLost) => s
  | some (_, .framing) => s
  | some (_, .frameEnd _) => s
  | none => s

/-- Lock is lost: in SYNC or UP a link reset with cause LOCK_LOST (R84, R101). -/
def lockLost (ws : List LinkWord) (s : State) : State :=
  match listen s ws with
  | some (rx, .lockLost) =>
    let s := setRx rx s
    if s.link.state = .sync ∨ s.link.state = .up then linkReset .lockLost s else s
  | some (_, .lockFound) => s
  | some (_, .framing) => s
  | some (_, .frameEnd _) => s
  | none => s

/-- A good INIT is taken: in SYNC by R97, in UP by R99, discarded in DOWN (R90). -/
def takeInit (epoch : Epoch) (heard : Option Epoch) (s : State) : State :=
  match s.link.state with
  | .sync =>
    let s := { s with link := { s.link with heard := some epoch } }
    if heard = some s.link.localEpoch then enterUp s else s
  | .up => if s.link.heard = some epoch then s else linkReset .peerRestart s
  | .down => s
  | .off => s

/-- The INIT frame carries the local and heard epochs as they stand when it is formed (R96; log 37 for the heard epoch
field of one with heard present 0). -/
def initFrame (l : LinkController) : Frame := .init l.localEpoch l.heard

end Sys2Proof.Machine
end

