-- ==== Sys2Proof/Machine/Transmit.lean ====
section
/-! DEFINITION. The Transmit Engine (Chapter 6): the choice of the next frame, first sends and resends, ACK, NAK, the
ack timer, the replay pass, and its part of a link reset. -/

namespace Sys2Proof.Machine

/-! ### Parameters and entries -/

/-- The ack timeout of the link parameters (R109). -/
def LinkController.ackInterval (l : LinkController) : Nat :=
  match l.params with
  | some p => p.ackTimeout
  | none => 0

/-- The retry limit of the link parameters (R116). -/
def LinkController.retries (l : LinkController) : Nat :=
  match l.params with
  | some p => p.retryLimit
  | none => 0

/-- The replay entry with a sequence (R108). -/
def TransmitEngine.entry? (t : TransmitEngine) (q : Seq) : Option ReplayEntry :=
  t.replay.find? (fun x => decide (x.seq = q))

/-- The entry after the one with a sequence: it has the next sequence (R108). -/
def TransmitEngine.after? (t : TransmitEngine) (q : Seq) : Option ReplayEntry := t.entry? (q + 1)

/-! ### The replay pass (R114, R115, R116) -/

/-- The refetch outstanding is cancelled with the Capture Unit (R74, R115). -/
def cancelRefetch (s : State) : State :=
  match s.tx.refetch with
  | some _ => cancelCaptureRefetch { s with tx := { s.tx with refetch := none } }
  | none => s

/-- A refetch is asked for: the entry becomes the refetch outstanding, and a claim waits at the pool (R73, R114). -/
def requestRefetch (x : ReplayEntry) (s : State) : State :=
  { s with
    tx := { s.tx with refetch := some x.seq }
    cap := { s.cap with refetch := some ⟨x.chan, x.slot, x.length, none⟩ } }

/-- The pass is halted and the ack timer stopped (R116, R117). -/
def haltPass (s : State) : State :=
  { s with tx := { s.tx with pass := s.tx.pass.map (fun p => { p with halted := true }), ackTimer := none } }

/-- The retry limit is reached: the pass is halted and the limit reported to the Link Controller (R116). -/
def retryLimitReached (s : State) : State := reportReset .retryLimit (haltPass s)

/-- The pass position comes to rest on an entry: retry check, then the refetch unless it is outstanding (R114 step 1,
R116). -/
def restOn (x : ReplayEntry) (s : State) : State :=
  if s.link.retries + 1 ≤ x.sends then retryLimitReached s
  else if s.tx.refetch = some x.seq then s
  else requestRefetch x s

/-- The pass position moves to an entry for a reason other than a take: the refetch outstanding is kept if it is for
that entry and cancelled otherwise, then the position rests there (R115). -/
def movePass (x : ReplayEntry) (s : State) : State :=
  let s := { s with tx := { s.tx with pass := some ⟨x.seq, false⟩ } }
  restOn x (if s.tx.refetch = some x.seq then s else cancelRefetch s)

/-- A replay pass starts at an entry (R112, R113, R114). -/
def startPass (x : ReplayEntry) (s : State) : State :=
  restOn x { s with tx := { s.tx with pass := some ⟨x.seq, false⟩ } }

/-! ### Which frame goes next (R104) -/

/-- Case 1 of R104: the INIT request is pending, in SYNC or UP, with the transmitter free. -/
def initTurn (s : State) : Bool :=
  s.tx.sending.isNone && s.link.initRequest && decide (s.link.state = .sync ∨ s.link.state = .up)

/-- The transmitter is free in UP with no INIT request pending: cases 2 to 4 of R104 may apply. -/
def upTurn (s : State) : Bool := s.tx.sending.isNone && !s.link.initRequest && s.link.isUp

/-- Case 2: the oldest entry of the control frame queue. -/
def ctlTurn? (s : State) : Option CtlReq := if upTurn s then s.tx.queue.head? else none

/-- Case 3: the refetched frame of the pass position, with its entry and its buffer. -/
def resendTurn? (s : State) : Option (ReplayEntry × Buf) :=
  if upTurn s && s.tx.queue.isEmpty then
    match s.tx.pass with
    | some p =>
      if p.halted = false ∧ s.tx.refetch = some p.pos then
        match s.tx.entry? p.pos, s.cap.refetched? with
        | some x, some b => some (x, b)
        | _, _ => none
      else none
    | none => none
  else none

/-- Case 4: the first channel after the last one served that offers a READY new frame, with its buffer (R107). -/
def firstTurn? (s : State) : Option (Chan × Buf) :=
  if upTurn s && s.tx.queue.isEmpty && s.tx.pass.isNone && decide (s.tx.replay.length < Config.replayLimit) then
    (chansAfter s.tx.lastServed).findSome? (fun c => (offered? c s).map (fun b => (c, b)))
  else none

/-! ### Sends -/

/-- A frame goes to the transmitter, and onto the lane: its data words with the CRC (R83, R87), and for DATA its
buffer. -/
def transmit (f : Frame) (b : Option Buf) (s : State) : State :=
  { s with
    tx := { s.tx with sending := some ⟨f.words, b⟩ }
    laneOut := laneStream s.link { s.tx with sending := some ⟨f.words, b⟩ } }

/-- The oldest entry leaves the control frame queue (R105). -/
def popCtl (s : State) : State := { s with tx := { s.tx with queue := s.tx.queue.tail } }

/-- The ACK frame: disposed-through and the whole refusal list (R125). -/
def ackFrame (l : LandingEngine) : Frame := .ack l.disposed l.refusals

/-- The ack batch is reset when an ACK has been formed (R124). -/
def resetBatch (s : State) : State := { s with land := { s.land with batch := 0, ackDelay := none } }

/-- The destination of an OUTBOUND channel (R71); 0 for any other. -/
def destOf (c : Chan) (s : State) : Chan :=
  match s.wm.cfg? c with
  | some cfg => cfg.dest?.getD 0
  | none => 0

/-- The DATA frame in a buffer: destination, sequence, user word, payload (R71, R85). -/
def dataFrame (c : Chan) (q : Seq) (len : Nat) (b : Buf) (s : State) : Frame :=
  .data (destOf c s) q s.cap.bufs[b].user (s.cap.bufs[b].payload len)

/-- The committed length of the slot at a channel's transmit cursor. -/
def offeredLength (c : Chan) (s : State) : Nat :=
  match s.cap.transmitSlot? c with
  | some x => x.length
  | none => 0

/-- The replay entry of a first send (R107, R108). -/
def newEntry (c : Chan) (s : State) : ReplayEntry :=
  ⟨s.tx.nextSeq, c, s.cap.rings[c].transmitCursor, offeredLength c s, 1, none⟩

/-- The Transmit Engine's part of the take of a new frame (R107). -/
def TransmitEngine.takeNew (x : ReplayEntry) (interval : Nat) (t : TransmitEngine) : TransmitEngine :=
  { t with
    nextSeq := t.nextSeq + 1
    replay := t.replay ++ [x]
    ackTimer := if t.replay.isEmpty then some interval else t.ackTimer
    lastServed := x.chan }

/-- A new frame is taken for its first send, as one step (R71, R107, R137). -/
def sendNew (c : Chan) (b : Buf) (s : State) : State :=
  let x := newEntry c s
  let f := dataFrame c x.seq x.length b s
  transmit f (some b) (chargeSend c
    { s with tx := s.tx.takeNew x s.link.ackInterval, cap := s.cap.takeNew c b })

/-- The entry's send count is raised (R114). -/
def TransmitEngine.raise (q : Seq) (t : TransmitEngine) : TransmitEngine :=
  { t with replay := t.replay.map (fun x => if x.seq = q then { x with sends := x.sends + 1 } else x), refetch := none }

/-- Right after the take of a resend the position moves to the next entry, or the pass ends at the tail (R114). -/
def advancePass (q : Seq) (s : State) : State :=
  match s.tx.after? q with
  | some y => restOn y { s with tx := { s.tx with pass := some ⟨y.seq, false⟩ } }
  | none => { s with tx := { s.tx with pass := none } }

/-- A refetched frame is taken for its resend (R71, R114). -/
def sendAgain (x : ReplayEntry) (b : Buf) (s : State) : State :=
  let f := dataFrame x.chan x.seq x.length b s
  advancePass x.seq (transmit f (some b)
    { s with tx := s.tx.raise x.seq, cap := { s.cap.sendBuf b with refetch := none } })

/-- The end of a send is reported: for DATA the buffer is freed (R72, R106). -/
def reportEnd (x : Send) (s : State) : State :=
  match x.buf with
  | some b => { s with cap := s.cap.freeBuf b }
  | none => s

/-- The send on the lane ended whole, or the oldest abandoned send is reported, which comes after the Transmit Engine
has taken its part of the link reset (R83, R106). DESIGN CHOICE: with two link resets' notices outstanding at the
Transmit Engine it comes after both are taken (log 38). -/
def endSend (how : SendEnd) (s : State) : State :=
  match how with
  | .whole =>
    match s.tx.sending with
    | some x => reportEnd x (driveLane { s with tx := { s.tx with sending := none } })
    | none => s
  | .abandoned =>
    match s.tx.abandoned with
    | x :: rest =>
      if s.link.txNotices = 0 then reportEnd x { s with tx := { s.tx with abandoned := rest } } else s
    | [] => s

/-! ### ACK (R110, R111) -/

/-- A refusal entry of an ACK marks the replay entry of its sequence (R110). -/
def markEntry (r : RefusalEntry) (t : List ReplayEntry) : List ReplayEntry :=
  t.map (fun x => if x.seq = r.seq then { x with mark := some r.reason } else x)

/-- All refusal entries of an ACK, in order: the last one for a sequence decides (R110). -/
def markAll (rs : List RefusalEntry) (t : List ReplayEntry) : List ReplayEntry :=
  rs.foldl (fun t r => markEntry r t) t

/-- The entries up to and including the one with sequence `q`, and the ones after it. -/
def splitThrough (q : Seq) : List ReplayEntry → List ReplayEntry × List ReplayEntry
  | [] => ([], [])
  | x :: rest => if x.seq = q then ([x], rest) else ((x :: (splitThrough q rest).1), (splitThrough q rest).2)

/-- A removed entry's slot is completed with its outcome (R75, R111, R126). -/
def completeEntry (st : ReplayEntry → Status) (s : State) (x : ReplayEntry) : State :=
  let s := if s.tx.refetch = some x.seq then cancelRefetch s else s
  completeSlot x.chan x.slot (st x) (some ⟨x.seq, s.link.localEpoch, x.sends⟩) s

/-- After a removal: the position of a pass that was removed moves to the head, or the pass ends with the list (R111,
R115, R116). -/
def adjustPass (s : State) : State :=
  match s.tx.pass with
  | none => s
  | some p =>
    match s.tx.replay with
    | [] => { s with tx := { s.tx with pass := none } }
    | y :: _ =>
      if (s.tx.entry? p.pos).isSome then s
      else if p.halted then { s with tx := { s.tx with pass := some ⟨y.seq, true⟩ } }
      else movePass y s

/-- The ack timer after a removal: restarted if an entry remains, stopped if none does (R109, R111). -/
def timerAfterRemoval (s : State) : State :=
  { s with tx := { s.tx with ackTimer := if s.tx.replay.isEmpty then none else some s.link.ackInterval } }

/-- An ACK that covers the entries up to `q` (R110, R111). -/
def coverAck (q : Seq) (rs : List RefusalEntry) (s : State) : State :=
  let parts := splitThrough q (markAll rs s.tx.replay)
  let s := { s with tx := { s.tx with replay := parts.2 } }
  adjustPass (timerAfterRemoval (parts.1.foldl (completeEntry (fun x => statusOfMark x.mark)) s))

/-- A good ACK is taken: it covers entries, or is counted stale (R110). -/
def takeAck (disposed : Option Seq) (rs : List RefusalEntry) (s : State) : State :=
  match disposed with
  | some q => if (s.tx.entry? q).isSome then coverAck q rs s else count Counters.stale s
  | none => count Counters.stale s

/-! ### NAK (R112) and the ack timer (R113) -/

/-- A NAK that names an entry (R112). -/
def coverNak (x : ReplayEntry) (s : State) : State :=
  match s.tx.pass with
  | none => startPass x (count Counters.replayPass s)
  | some p => if p.halted = false ∧ seqBefore x.seq p.pos = true then movePass x (count Counters.replayPass s) else s

/-- A good NAK is taken (R112). It is counted at its taking (R176). DESIGN CHOICE: also when the link has left UP since
it was handed over and the Transmit Engine has not yet taken its part of the link reset (log 39). -/
def takeNak (e : Seq) (s : State) : State :=
  let s := count Counters.nakReceived s
  match s.tx.entry? e with
  | some x => coverNak x s
  | none => count Counters.stale s

/-- The pass at an expiry of the ack timer: started at the head, or moved to it; a halted pass is left (R113, R116). -/
def expiryPass (s : State) : State :=
  match s.tx.replay, s.tx.pass with
  | [], _ => s
  | x :: _, none => startPass x (count Counters.replayPass s)
  | x :: _, some p => if p.halted then s else movePass x (count Counters.replayPass s)

/-- The ack timer expires (R113). -/
def ackTimerExpires (s : State) : State :=
  let s := count Counters.ackTimeout s
  expiryPass { s with tx := { s.tx with ackTimer := some s.link.ackInterval } }

/-! ### A refetch fault (R74, R117) -/

/-- A refetch read ended with FAULT: the event, the buffer freed, the pass halted, the REPLAY_FAULT report. -/
def faultRefetch (j : ReadJob) (r : DevReq) (s : State) : State :=
  let s := removeJob j.buf (postFault j.chan .refetch r.addr s)
  let s := presentRead { s with cap := { s.cap.freeBuf j.buf with refetch := none } }
  reportReset .replayFault (haltPass { s with tx := { s.tx with refetch := none } })

/-- The end of a granted refetch read into buffer `b` (R66, R73, R74). -/
def endRefetchRead (b : Buf) (e : AccessEnd) (r : DevReq) (s : State) : State :=
  match s.cap.job? b with
  | some j =>
    match j.drop with
    | some d => finishDropped b d s
    | none => if accessOk e then acceptRead j r s else faultRefetch j r s
  | none => presentRead s

/-! ### Link reset (R126) -/

/-- The Transmit Engine's part of a link reset; a frame handed to it and not yet taken is discarded (R90, R126). -/
def transmitReset (s : State) : State :=
  let entries := s.tx.replay
  let s := { s with tx := { s.tx with replay := [] } }
  let s := cancelRefetch (entries.foldl (completeEntry (fun _ => .linkLost)) s)
  { s with tx := { s.tx with pass := none, nextSeq := 0#12, ackTimer := none, queue := [], inbox := [] } }

end Sys2Proof.Machine
end

