-- ==== Sys2Proof/Machine/Landing.lean ====
section
/-! DEFINITION. The Landing Engine (Chapters 6 and 8): releases, the receiver's sequence, verdicts, disposal, landing
writes, the read guard, the stop and the link reset of inbound channels. -/

namespace Sys2Proof.Machine

/-! ### Slots -/

/-- The slot record `i` of inbound channel `c` (R141). -/
def LandingEngine.slot? (u : LandingEngine) (c : Chan) (i : Nat) : Option InSlot := u.rings[c].slots[i]?

/-- A change of one ring. -/
def LandingEngine.onRing (c : Chan) (f : InRing → InRing) (u : LandingEngine) : LandingEngine :=
  { u with rings := u.rings.set c (f u.rings[c]) }

/-- A change of one slot of a ring. -/
def InRing.onSlot (i : Nat) (f : InSlot → InSlot) (r : InRing) : InRing := { r with slots := r.slots.modify i f }

/-- A slot takes a state. -/
def InRing.setState (i : Nat) (st : InState) (r : InRing) : InRing := r.onSlot i (fun x => { x with state := st })

/-- A slot record of channel `c` takes a state. -/
def setInState (c : Chan) (i : Nat) (st : InState) (s : State) : State :=
  { s with land := s.land.onRing c (InRing.setState i st) }

/-- Host-owned: HOST (section 3.4). -/
def InState.hostOwned : InState → Bool
  | .host => true
  | .held => false
  | .posted => false
  | .landing => false

/-! ### Releases (R143, R144) -/

/-- The slot at the release cursor becomes POSTED, and the cursor moves on. -/
def InRing.postAtCursor (r : InRing) : InRing :=
  { r.setState r.releaseCursor .posted with releaseCursor := nextSlot r.slots.length r.releaseCursor }

/-- HELD slots at the release cursor become POSTED, at most `n`; also how many did (R143). -/
def promoteIn : Nat → InRing → InRing × Nat
  | 0, r => (r, 0)
  | n + 1, r =>
    match r.slots[r.releaseCursor]? with
    | some x => if x.state = .held then ((promoteIn n r.postAtCursor).1, (promoteIn n r.postAtCursor).2 + 1) else (r, 0)
    | none => (r, 0)

/-- A release of slot `i`: POSTED with promotion at the release cursor, HELD away from it; also how many slots became
POSTED (R143). -/
def InRing.release (i : Nat) (r : InRing) : InRing × Nat :=
  if i = r.releaseCursor then
    ((promoteIn r.slots.length r.postAtCursor).1, (promoteIn r.slots.length r.postAtCursor).2 + 1)
  else (r.setState i .held, 0)

/-- `n` reports of newly POSTED slots (R129, R143). -/
def reportPostedTimes (c : Chan) : Nat → State → State
  | 0, s => s
  | n + 1, s => reportPostedTimes c n (reportPosted c s)

/-- The Landing Engine takes a release (R143, R144). -/
def takeRelease (c : Chan) (i : Nat) (notify : Bool) (s : State) : State :=
  let r := s.land.rings[c].onSlot i (fun x => { x with notify := notify })
  let out := r.release i
  reportPostedTimes c out.2
    { count (Counters.handover c) s with land := s.land.onRing c (fun _ => out.1) }

/-! ### NAK and ACK requests (R121, R124) -/

/-- A NAK is asked for at most once for each expected sequence (R121). -/
def askNak (s : State) : State :=
  if s.land.nakFlag then s else requestCtl .nak { s with land := { s.land with nakFlag := true } }

/-- The ack delay of the link parameters (R124). -/
def LinkController.ackDelayInterval (l : LinkController) : Nat :=
  match l.params with
  | some p => p.ackDelay
  | none => 0

/-- The ack batch after one disposal: the count saturates at 255; from 0 to 1 the delay timer starts (R118, R124). -/
def LandingEngine.raiseBatch (interval : Nat) (u : LandingEngine) : LandingEngine :=
  { u with batch := min (u.batch + 1) 255, ackDelay := if u.batch = 0 then some interval else u.ackDelay }

/-- One disposal is counted into the ack batch; at 8 an ACK is queued (R124). -/
def batchDisposal (s : State) : State :=
  let s := { s with land := s.land.raiseBatch s.link.ackDelayInterval }
  if s.land.batch = 8 then requestCtl .ack s else s

/-! ### Disposal (R122, R123) -/

/-- The refusal list after the disposal of `q`: the new entry at the tail, then those older than the 32 ending at `q`
removed from the head (R123). -/
def ageRefusals (q : Seq) (new : Option RefusalEntry) (l : List RefusalEntry) : List RefusalEntry :=
  (l ++ new.toList).dropWhile (fun x => !seqIn32Ending x.seq q)

/-- The landing engine's own part of a disposal (R122 step 1, R123). -/
def LandingEngine.dispose (q : Seq) (new : Option RefusalEntry) (u : LandingEngine) : LandingEngine :=
  { u with disposed := some q, refusals := ageRefusals q new u.refusals }

/-- The effects in UP of the disposal of a refusal: disposed-through, the refusal list, FRAME_REFUSED and the ack batch
(R122 to R124). -/
def listRefusal (x : LandEntry) (r : Reason) (s : State) : State :=
  batchDisposal (post .frameRefused x.chan (x.seq.zeroExtend 32) (BitVec.ofNat 32 r.code)
    { s with land := s.land.dispose x.seq (some ⟨x.seq, x.chan, r⟩) })

/-- An entry is disposed of as a landing (`none`) or as a refusal with a reason. A refusal is counted; the effects of
R122 and R124 are those of a disposal in UP (R122, R124, R150, R176; log 15). -/
def dispose (x : LandEntry) (reason : Option Reason) (s : State) : State :=
  match reason with
  | none => if s.link.isUp then batchDisposal { s with land := s.land.dispose x.seq none } else s
  | some r => count (Counters.refuse x.chan) (if s.link.isUp then listRefusal x r s else s)

/-! ### Landing writes (R147, R148, R149) -/

/-- Byte enables of the payload word at slot offset `off` for a payload of `len` bytes (R148). -/
def payloadEnables (len off : Nat) : BitVec 4 :=
  BitVec.ofNat 4 (([0, 1, 2, 3].filter (fun j => decide (4 * off + j - 16 < len))).foldl (fun n j => n + 2 ^ j) 0)

/-- The payload word at slot offset `off`: payload byte k in lane k mod 4 (R148). -/
def payloadWord (payload : List Byte) (off : Nat) : BusWord :=
  ⟨payloadEnables payload.length off,
    wordOfLanes (payload.getD (4 * off - 16) 0#8) (payload.getD (4 * off - 15) 0#8) (payload.getD (4 * off - 14) 0#8)
      (payload.getD (4 * off - 13) 0#8)⟩

/-- A payload burst (R148). -/
def payloadReq (wm : Matcher) (c : Chan) (l : Landing) (x : Burst) : DevReq :=
  ⟨.landPayload, true, wm.slotAddr c l.slot + 4 * x.off, (List.range' x.off x.len).map (payloadWord l.payload)⟩

/-- The burst of header words 1 to 3 (R149). -/
def landHeaderReq (wm : Matcher) (e : LandEntry) (l : Landing) (now : Word) : DevReq :=
  ⟨.landHeader, true, wm.slotAddr e.chan l.slot,
    [maskedWord, fullWord (headerWord1 e.seq e.epoch 0), fullWord now, fullWord l.user]⟩

/-- The status that header word 0 of a landing carries (R149). -/
def Landing.status (l : Landing) : Status := if l.fault then .memoryFault else .delivered

/-- The recorded notify bit of a slot (R141). -/
def LandingEngine.notify (u : LandingEngine) (c : Chan) (i : Nat) : Bool :=
  match u.slot? c i with
  | some x => x.notify
  | none => false

/-- The write of header word 0 of a landing (R149). -/
def landWord0Req (s : State) (e : LandEntry) (l : Landing) : DevReq :=
  ⟨.landWord0, true, s.wm.slotAddr e.chan l.slot,
    [fullWord (headerWord0 e.length (s.land.notify e.chan l.slot) l.status)]⟩

/-- The entry at the head of the landing queue becomes `e` with landing `l`. -/
def setHead (e : LandEntry) (l : Landing) (s : State) : State :=
  { s with land := { s.land with queue := { e with verdict := .landing l } :: s.land.queue.tail } }

/-- Phase HEADER: the burst of header words 1 to 3 is requested (R148, R149). -/
def toHeader (e : LandEntry) (l : Landing) (s : State) : State :=
  present (landHeaderReq s.wm e l s.timebase) (setHead e { l with phase := .header } s)

/-- Phase CONTROL: header word 0 is requested (R149). -/
def toControl (e : LandEntry) (l : Landing) (s : State) : State :=
  present (landWord0Req s e l) (setHead e { l with phase := .control } s)

/-- Phase PAYLOAD with the remaining bursts, the first of them requested; HEADER when none is left (R147, R148). -/
def toPayload (e : LandEntry) (l : Landing) (bursts : List Burst) (s : State) : State :=
  match bursts with
  | x :: _ => present (payloadReq s.wm e.chan l x) (setHead e { l with phase := .payload bursts } s)
  | [] => toHeader e l s

/-- The landing at the head of the queue starts (R147). -/
def startLanding (e : LandEntry) (l : Landing) (s : State) : State :=
  toPayload e l (planBursts (payloadOffsets e.length)) s

/-- The queue's head comes to its turn: refusals are disposed of one after another, and a waiting landing starts
(R122, R146, R147). The list is the queue that is left. -/
def runQueue : List LandEntry → State → State
  | [], s => { s with land := { s.land with queue := [] } }
  | e :: rest, s =>
    match e.verdict with
    | .refusal r => runQueue rest (dispose e (some r) { s with land := { s.land with queue := e :: rest } })
    | .landing l =>
      let s := { s with land := { s.land with queue := e :: rest } }
      if l.phase = .waiting then startLanding e l s else s

/-! ### Acceptance (R119, R120, R145, R146) -/

/-- The refusal that the verdict of R145 gives for channel `c` and a length, if it is one. -/
def refusalOf? (c : Chan) (len : Nat) (s : State) : Option Reason :=
  match s.wm.chans[c].state with
  | .active cfg =>
    if cfg.isInbound then
      if cfg.capacity < len then some .tooLong
      else
        match s.land.slot? c s.land.rings[c].landCursor with
        | some x => if x.state = .posted then none else some .noSlot
        | none => some .noSlot
    else some .closed
  | .off => some .closed
  | .stopping _ => some .closed

/-- The land cursor slot becomes LANDING, and the cursor moves on (R145). -/
def InRing.assign (r : InRing) : InRing :=
  { r.setState r.landCursor .landing with landCursor := nextSlot r.slots.length r.landCursor }

/-- An entry joins the queue; alone in it, it is at the head (R146, R147). -/
def enqueue (e : LandEntry) (s : State) : State :=
  match s.land.queue with
  | [] => runQueue [e] s
  | q => { s with land := { s.land with queue := q ++ [e] } }

/-- The frame with the expected sequence is accepted (R120, R145, R146). -/
def accept (c : Chan) (q : Seq) (user : Word) (payload : List Byte) (s : State) : State :=
  let s := { s with land := { s.land with expected := s.land.expected + 1, nakFlag := false } }
  match refusalOf? c payload.length s with
  | some r =>
    let s := if r = .noSlot then count Counters.creditViolation s else s
    enqueue ⟨q, s.link.localEpoch, c, payload.length, .refusal r⟩ s
  | none =>
    let i := s.land.rings[c].landCursor
    enqueue ⟨q, s.link.localEpoch, c, payload.length,
        .landing ⟨i, user, payload, .waiting, false, false, false⟩⟩
      { s with land := s.land.onRing c InRing.assign }

/-- A good DATA frame is placed against the expected sequence (R119, R120, R121, R124). -/
def takeData (c : Chan) (q : Seq) (user : Word) (payload : List Byte) (s : State) : State :=
  let e := s.land.expected
  if q = e then
    if s.land.queue.length < Config.landingPlaces then accept c q user payload s else askNak s
  else if seqBefore e q then askNak s
  else if seqIn32Before q e = true ∧ s.land.disposed.isSome = true then requestCtl .ack s
  else count Counters.stale s

/-- A damaged data arrival is reported to the Landing Engine, which takes it at once, or, behind arrivals that it has
not taken yet, in its turn (R88, R121; log 35). -/
def reportDamage (s : State) : State :=
  if s.land.inbox.isEmpty then askNak s else { s with land := { s.land with inbox := s.land.inbox ++ [.damage] } }

/-- A received frame is damaged: counted, and in UP a damaged data arrival is reported (R88). -/
def takeDamage (framing kindData : Bool) (s : State) : State :=
  let s := count (if framing then Counters.framing else Counters.crc) s
  if (framing || kindData) && s.link.isUp then reportDamage s else s

/-- The Landing Engine takes an arrival (R90, R119, R121). -/
def takeArrival (a : LandArrival) (s : State) : State :=
  match a with
  | .data c q user payload => takeData c q user payload s
  | .damage => askNak s

/-! ### Read guard (R153, R154, R155) -/

/-- A slot leaves LANDING: it leaves the holding list of the held read; when the list is empty the read is released
clear and goes to WAITING (R6, R154). -/
def leaveLanding (c : Chan) (i : Nat) (s : State) : State :=
  match s.land.heldRead with
  | some h =>
    if (c, i) ∈ h.slots then
      let rest := h.slots.filter (fun x => decide (x ≠ (c, i)))
      { s with
        land := { s.land with heldRead := if rest.isEmpty then none else some { h with slots := rest } }
        host := match s.host with
          | .held a => if rest.isEmpty then .waiting a else .held a
          | other => other }
    else s
  | none => s

/-- The guard timer expires: released expired, counted, TORN_READ posted (R6, R155). -/
def guardExpires (h : HeldRead) (s : State) : State :=
  let s := { s with
    land := { s.land with heldRead := none }
    host := match s.host with
      | .held a => .waiting a
      | other => other }
  let s := count Counters.tornRead s
  match h.slots with
  | (c, i) :: _ => post .tornRead c (BitVec.ofNat 32 i) 0#32 s
  | [] => s

/-! ### Drain of an inbound channel (R157, R159) -/

/-- No slot of a STOPPING inbound channel is LANDING: its drain is complete (R159). -/
def inDrained (c : Chan) (s : State) : Bool :=
  s.wm.isStopping c && s.wm.isInbound c && s.land.rings[c].slots.all (fun x => decide (x.state ≠ .landing))

/-- The end of an inbound drain: OFF, STOP_CHANNEL ends DONE, records discarded (R159). -/
def finishInDrain (c : Chan) (s : State) : State :=
  if inDrained c s then
    let s := endCommand .done 0#32 (setChan c .off s)
    { s with land := s.land.onRing c (fun _ => InRing.empty) }
  else s

/-- STOP_CHANNEL starts on an ACTIVE inbound channel (R132, R157). -/
def stopInbound (c : Chan) (cfg : ChanCfg) (s : State) : State :=
  finishInDrain c (requestCredit c (setChan c (.stopping cfg) s))

/-! ### Ends of landing writes (R148 to R151, R161) -/

/-- The landing at the head of the queue. -/
def LandingEngine.head? (u : LandingEngine) : Option (LandEntry × Landing) :=
  match u.queue with
  | e :: _ =>
    match e.verdict with
    | .landing l => some (e, l)
    | .refusal _ => none
  | [] => none

/-- A landing after the end of one of its writes: its fault is set by a FAULT (R151). -/
def Landing.afterWrite (e : AccessEnd) (l : Landing) : Landing := { l with fault := l.fault || !accessOk e }

/-- The bursts left after the one in progress; none after a FAULT (R148, R151). -/
def Landing.restBursts (e : AccessEnd) (l : Landing) : List Burst :=
  match l.phase with
  | .payload bursts => if accessOk e then bursts.tail else []
  | .waiting => []
  | .header => []
  | .control => []

/-- A payload burst ended (R148, R151). -/
def endLandPayload (e : AccessEnd) (r : DevReq) (s : State) : State :=
  match s.land.head? with
  | some (x, l) => toPayload x (l.afterWrite e) (l.restBursts e) (postFaultIf e x.chan .landing r.addr s)
  | none => s

/-- The burst of header words 1 to 3 ended (R149, R151). -/
def endLandHeader (e : AccessEnd) (r : DevReq) (s : State) : State :=
  match s.land.head? with
  | some (x, l) => toControl x (l.afterWrite e) (postFaultIf e x.chan .landing r.addr s)
  | none => s

/-- A landing that is not kept is disposed of: a landing if no write of it faulted, else a refusal (R122, R150, R151).
-/
def disposeLanding (x : LandEntry) (l : Landing) (s : State) : State :=
  if l.kept then s else dispose x (if l.fault then some .landingFault else none) s

/-- The event and counter of a returned slot: by the status written in word 0 (R150; log 16). -/
def returnSlot (x : LandEntry) (l : Landing) (st : Status) (s : State) : State :=
  let s := if st = .delivered then count (Counters.deliver x.chan) s else s
  if s.land.notify x.chan l.slot then
    post .slotLanded x.chan (BitVec.ofNat 32 l.slot) (BitVec.ofNat 32 st.code) s
  else s

/-- The word 0 write of a landing ended, whether accepted or with FAULT (R150, R151, R159, R161). -/
def endLandWord0 (e : AccessEnd) (r : DevReq) (s : State) : State :=
  match s.land.head? with
  | some (x, l) =>
    let s := postFaultIf e x.chan .landing r.addr s
    let s := leaveLanding x.chan l.slot (setInState x.chan l.slot .host s)
    let s := returnSlot x l l.status (disposeLanding x (l.afterWrite e) s)
    finishInDrain x.chan (runQueue s.land.queue.tail s)
  | none => s

/-! ### Link reset (R127, R160) -/

/-- The entry is a landing that has begun (R147). -/
def LandEntry.begun (e : LandEntry) : Bool :=
  match e.verdict with
  | .landing l => l.begun
  | .refusal _ => false

/-- The entry with its kept flag set (R160). -/
def LandEntry.keep (e : LandEntry) : LandEntry :=
  match e.verdict with
  | .landing l => { e with verdict := .landing { l with kept := true } }
  | .refusal _ => e

/-- What a link reset keeps of the landing queue: a head landing that has begun (R160). -/
def keptEntries : List LandEntry → List LandEntry
  | [] => []
  | e :: _ => if e.begun then [e.keep] else []

/-- What a link reset discards of the landing queue (R160). -/
def discardedEntries : List LandEntry → List LandEntry
  | [] => []
  | e :: rest => if e.begun then rest else e :: rest

/-- A discarded landing's slot is POSTED again, and the land cursor is at it (R160). -/
def InRing.returnPosted (i : Nat) (r : InRing) : InRing := { r.setState i .posted with landCursor := i }

/-- The Landing Engine returns a discarded landing's slot (R160). -/
def returnPosted (c : Chan) (i : Nat) (s : State) : State :=
  { s with land := s.land.onRing c (InRing.returnPosted i) }

/-- The landing at the head of the queue has begun (R147). -/
def headBegun : List LandEntry → Bool
  | [] => false
  | e :: _ => e.begun

/-- A discarded landing's slot returns to POSTED, is reported, and leaves the holding list; the land cursor moves back
to it. Applied from the youngest to the oldest entry, it leaves the cursor at the oldest (R154, R160). -/
def discardEntry (s : State) (e : LandEntry) : State :=
  match e.verdict with
  | .landing l => leaveLanding e.chan l.slot (reportPosted e.chan (returnPosted e.chan l.slot s))
  | .refusal _ => s

/-- The Landing Engine's part of a link reset; an arrival that it has not taken is discarded (R90, R127, R160). -/
def landingReset (s : State) : State :=
  let out := discardedEntries s.land.queue
  let s := { s with
    land := { s.land with
      expected := 0#12, disposed := none, refusals := [], nakFlag := false, batch := 0, ackDelay := none
      queue := keptEntries s.land.queue, inbox := [] }
    reqs := { s.reqs with landing := if headBegun s.land.queue then s.reqs.landing else none } }
  allChans.foldl (fun s c => finishInDrain c s) (out.reverse.foldl discardEntry s)

end Sys2Proof.Machine
end

