-- ==== Sys2Proof/Machine/Matcher.lean ====
section
/-! DEFINITION. The Window Matcher and the Command Unit (Chapters 2 and 3): the class of a word, the latches, slot
words, command arrival and start, LOAD_CHANNEL, the verdict of a host read, the taking of a completed-write record. -/

namespace Sys2Proof.Machine

/-! ### Classes of words (R19, R45) -/

/-- The six CONTROL words (R19). -/
inductive ControlWord where
  | command
  | arg1
  | arg2
  | arg3
  | consumer
  | intEnable
deriving DecidableEq, Repr

/-- The class of a word of a host access, with its channel, slot index and word offset (R45). -/
inductive WordClass where
  | control (w : ControlWord)
  | header0 (c : Chan) (i : Nat)
  | slot (c : Chan) (i off : Nat)
  | plain
deriving DecidableEq, Repr

/-- The CONTROL word at a byte address (R19, section 2.2). -/
def Matcher.control? (m : Matcher) (a : Nat) : Option ControlWord :=
  if a = m.base then some .command
  else if a = m.base + 0x4 then some .arg1
  else if a = m.base + 0x8 then some .arg2
  else if a = m.base + 0xC then some .arg3
  else if a = m.base + 0x20 then some .consumer
  else if a = m.base + 0x24 then some .intEnable
  else none

/-- The slot index of an address in a channel's area (R45). -/
def ChanCfg.slotIndex (cfg : ChanCfg) (a : Nat) : Nat := (a - cfg.base) / cfg.size

/-- The slot word offset of an address in a channel's area (R42). -/
def ChanCfg.wordOffset (cfg : ChanCfg) (a : Nat) : Nat := (a - cfg.base) % cfg.size / 4

/-- The channel, ACTIVE or STOPPING, whose area contains the address, with its installed fields. -/
def Matcher.owner? (m : Matcher) (a : Nat) : Option (Chan × ChanCfg) :=
  allChans.findSome? (fun c =>
    match m.cfg? c with
    | some cfg => if cfg.contains a then some (c, cfg) else none
    | none => none)

/-- The class of the word at a byte address (R45). -/
def Matcher.classify (m : Matcher) (a : Nat) : WordClass :=
  match m.control? a with
  | some w => .control w
  | none =>
    match m.owner? a with
    | some (c, cfg) =>
      if cfg.wordOffset a = 0 then .header0 c (cfg.slotIndex a) else .slot c (cfg.slotIndex a) (cfg.wordOffset a)
    | none => .plain

/-! ### Latches (R20, R22) -/

/-- A latch after a write: the enabled bytes are taken, the others kept (R20). -/
def mergeWord (old : Word) (be : BitVec 4) (d : Word) : Word := answerWord be d old

/-- The latch of a CONTROL word takes a write; the command word has no latch (R20, R23). -/
def Matcher.latch (w : ControlWord) (be : BitVec 4) (d : Word) (m : Matcher) : Matcher :=
  match w with
  | .command => m
  | .arg1 => { m with arg1 := mergeWord m.arg1 be d }
  | .arg2 => { m with arg2 := mergeWord m.arg2 be d }
  | .arg3 => { m with arg3 := mergeWord m.arg3 be d }
  | .consumer => { m with consumer := mergeWord m.consumer be d }
  | .intEnable => { m with intEnable := mergeWord m.intEnable be d }

/-- What follows a latch update: the Event Unit is handed its two latches at once (R21, R168, R171, R175; log 17). -/
def afterLatch (w : ControlWord) (be : BitVec 4) (s : State) : State :=
  match w with
  | .consumer => if be = 0#4 then s else consumerChanged s
  | .intEnable => driveInt s
  | .command => s
  | .arg1 => s
  | .arg2 => s
  | .arg3 => s

/-- One word of a record in the first step of R22. -/
def latchRecordWord (s : State) (w : RecordWord) : State :=
  match s.wm.classify w.addr with
  | .control k => afterLatch k w.be { s with wm := s.wm.latch k w.be w.data }
  | .header0 _ _ => s
  | .slot _ _ _ => s
  | .plain => s

/-! ### Slot words (R44, R47 to R52) -/

/-- The slot is host-owned, by the block that owns it (R44). -/
def hostOwns (c : Chan) (i : Nat) (s : State) : Bool :=
  if s.wm.isInbound c then
    match s.land.slot? c i with
    | some x => x.state.hostOwned
    | none => false
  else
    match s.cap.slot? c i with
    | some x => x.state.hostOwned
    | none => false

/-- A qualifying write: all four byte enables and the owner bit (R48). -/
def RecordWord.qualifies (w : RecordWord) : Bool := decide (w.be = 15#4) && w.data.getLsbD 31

/-- A handover: a commit on an OUTBOUND channel, a release on an INBOUND one (R48). -/
def handover (c : Chan) (i : Nat) (d : Word) (s : State) : State :=
  if s.wm.isInbound c then takeRelease c i (d.getLsbD 15) s
  else takeCommit c i (bits d 0 10) (d.getLsbD 15) s

/-- A duplicate: the event and nothing else (R49). -/
def duplicate (c : Chan) (i : Nat) (s : State) : State :=
  post (if s.wm.isInbound c then .duplicateRelease else .duplicateCommit) c (BitVec.ofNat 32 i) 0#32 s

/-- An ownership violation: the counter and the event (R52). -/
def violation (c : Chan) (i off : Nat) (s : State) : State :=
  post .ownershipViolation c (BitVec.ofNat 32 i) (BitVec.ofNat 32 off) (count (Counters.violate c) s)

/-- Capture is on for channel `c`. -/
def Matcher.captureOn (m : Matcher) (c : Chan) : Bool :=
  match m.cfg? c with
  | some cfg => cfg.captureOn
  | none => false

/-- A word written to a host-owned slot, other than a handover (R50, R51). -/
def plainSlotWord (c : Chan) (i off : Nat) (w : RecordWord) (s : State) : State :=
  if 3 ≤ off ∧ s.wm.captureOn c = true then captureWord c i off w.be w.data s else s

/-- The state while a record's slot words are applied, with the slots whose violation has been recorded (R52). -/
structure SlotPass where
  state : State
  seen : List (Chan × Nat)

/-- A violating word: recorded once for each slot of the record (R52). -/
def SlotPass.violate (c : Chan) (i off : Nat) (p : SlotPass) : SlotPass :=
  if (c, i) ∈ p.seen then p else ⟨violation c i off p.state, (c, i) :: p.seen⟩

/-- A word at offset `off` of slot `i` of channel `c` is applied (R47 to R52). -/
def SlotPass.word (c : Chan) (i off : Nat) (w : RecordWord) (p : SlotPass) : SlotPass :=
  if w.be = 0#4 then p
  else if off = 0 ∧ w.qualifies = true then
    { p with state := if hostOwns c i p.state then handover c i w.data p.state else duplicate c i p.state }
  else if hostOwns c i p.state then { p with state := plainSlotWord c i off w p.state }
  else p.violate c i off

/-- One word of a record is applied if it is a HEADER0 or SLOT word (R47). -/
def slotRecordWord (p : SlotPass) (w : RecordWord) : SlotPass :=
  match p.state.wm.classify w.addr with
  | .header0 c i => p.word c i 0 w
  | .slot c i off => p.word c i off w
  | .control _ => p
  | .plain => p

/-! ### LOAD_CHANNEL (R33 to R38) -/

/-- The table read of LOAD_CHANNEL (R33). -/
def channelRecordReq (wm : Matcher) (n : Chan) : DevReq :=
  ⟨.channelRecord n, false, wm.base + 0x100 + 32 * n.val, List.replicate 8 readWord⟩

/-- The start of LOAD_CHANNEL (R35). -/
def startLoad (cmd : Command) (s : State) : State :=
  match s.wm.chans[cmd.chan].state with
  | .off => present (channelRecordReq s.wm cmd.chan) s
  | .active _ => endCommand .channelActive 0#32 s
  | .stopping _ => endCommand .channelActive 0#32 s

/-- The first four words of a channel record (section 3.1). -/
structure RecordFields where
  w0 : Word
  w1 : Word
  w2 : Word
  w3 : Word

/-- The words of an accepted table read. -/
def RecordFields.ofWords (ws : List Word) : RecordFields :=
  ⟨ws.getD 0 0#32, ws.getD 1 0#32, ws.getD 2 0#32, ws.getD 3 0#32⟩

/-- direction -/
def RecordFields.direction (f : RecordFields) : Nat := bits f.w0 0 2
/-- slot size code -/
def RecordFields.sizeCode (f : RecordFields) : Nat := bits f.w0 8 3
/-- slot size in bytes: 64 for code 0, doubled with each code -/
def RecordFields.size (f : RecordFields) : Nat := 64 * 2 ^ f.sizeCode
/-- slot count -/
def RecordFields.count (f : RecordFields) : Nat := bits f.w0 16 9
/-- base -/
def RecordFields.base (f : RecordFields) : Nat := f.w1.toNat
/-- initial posted -/
def RecordFields.posted (f : RecordFields) : Nat := bits f.w3 16 9

/-- The installed fields of a record (R33). -/
def RecordFields.cfg (f : RecordFields) : ChanCfg where
  dir := if f.direction = 2 then .inbound (bits f.w3 0 8) f.posted else .outbound (chanOfBits f.w2 0) (f.w2.getLsbD 8)
  size := f.size
  count := f.count
  base := f.base

/-- The first geometry check that fails (R36). -/
def RecordFields.geometry (f : RecordFields) : Option Nat :=
  if f.direction = 0 ∨ f.direction = 3 then some 1
  else if 4 < f.sizeCode then some 2
  else if f.count < 2 ∨ 256 < f.count then some 3
  else if bits f.w1 28 4 ≠ 0 ∨ f.base % f.size ≠ 0 then some 4
  else if 0xFFFFFFF < f.base + f.size * f.count - 1 then some 5
  else if f.direction = 2 ∧ f.count < f.posted then some 6
  else none

/-- The area meets the event ring in use (R37). -/
def meetsRing (cfg : ChanCfg) (ev : EventUnit) : Bool :=
  match ev.ringCfg with
  | some r => decide (ev.run ≠ .stopped) && rangesMeet cfg.base cfg.bytes r.base (16 * r.size)
  | none => false

/-- Channel `m` is OUTBOUND, not OFF, with the destination. -/
def Matcher.usesDest (wm : Matcher) (d : Option Chan) (m : Chan) : Bool :=
  match wm.cfg? m with
  | some cfg => d.isSome && decide (cfg.dest? = d)
  | none => false

/-- The first check of R37 that fails for channel `n`, with the result and detail it gives. -/
def overlapCheck (n : Chan) (cfg : ChanCfg) (s : State) : Option (Result × Word) :=
  if rangesMeet cfg.base cfg.bytes s.wm.base 0x1000 then some (.overlap, 16#32)
  else
    match allChans.find? (fun m => decide (m ≠ n) && meetsChannel s.wm cfg.base cfg.bytes m) with
    | some m => some (.overlap, BitVec.ofNat 32 m.val)
    | none =>
      if meetsRing cfg s.ev then some (.overlap, 17#32)
      else
        (allChans.find? (fun m => decide (m ≠ n) && s.wm.usesDest cfg.dest? m)).map
          (fun m => (.destInUse, BitVec.ofNat 32 m.val))

/-- The result and detail of a record that is refused (R36, R37). -/
def refuseRecord (n : Chan) (f : RecordFields) (s : State) : Option (Result × Word) :=
  match f.geometry with
  | some k => some (.badGeometry, BitVec.ofNat 32 k)
  | none => overlapCheck n f.cfg s

/-- The slot records of an outbound channel at its activation (R54). -/
def OutRing.fresh (n : Nat) : OutRing := ⟨List.replicate n OutSlot.fresh, 0, 0⟩

/-- The slot records and cursors of an inbound channel at its activation (R141). DESIGN CHOICE: R141's table gives the
slots that are HOST at load no recorded notify bit, and the model fills in 0; the release overwrites it (R143) before
anything reads it (log 40). -/
def InRing.fresh (n k : Nat) : InRing :=
  ⟨List.replicate k ⟨.posted, false⟩ ++ List.replicate (n - k) ⟨.host, false⟩, k % n, 0⟩

/-- The activation of an OUTBOUND record (R38). -/
def activateOut (n : Chan) (cfg : ChanCfg) (s : State) : State :=
  let s := setChan n (.active cfg) s
  endCommand .done 0#32 { s with cap := s.cap.onRing n (fun _ => OutRing.fresh cfg.count) }

/-- Channel `n` is ACTIVE with a raised generation (R38). -/
def activateChan (n : Chan) (cfg : ChanCfg) (s : State) : State :=
  { s with wm := { s.wm with chans := s.wm.chans.set n ⟨.active cfg, s.wm.chans[n].generation + 1⟩ } }

/-- The activation of an INBOUND record with `k` slots posted (R38, R132, R141). -/
def activateIn (n : Chan) (cfg : ChanCfg) (k : Nat) (s : State) : State :=
  let g := s.wm.chans[n].generation + 1
  let s := activateChan n cfg s
  endCommand .done (g.zeroExtend 32)
    (creditLoaded n g k { s with land := s.land.onRing n (fun _ => InRing.fresh cfg.count k) })

/-- A record that passes every check is activated (R38). -/
def activate (n : Chan) (cfg : ChanCfg) (s : State) : State :=
  match cfg.dir with
  | .outbound _ _ => activateOut n cfg s
  | .inbound _ k => activateIn n cfg k s

/-- An accepted table read: the checks, and the activation (R35). -/
def judgeRecord (n : Chan) (f : RecordFields) (s : State) : State :=
  match refuseRecord n f s with
  | some (r, d) => endCommand r d s
  | none => activate n f.cfg s

/-- The table read of LOAD_CHANNEL for channel `n` ended (R35). -/
def endLoad (n : Chan) (e : AccessEnd) (r : DevReq) (s : State) : State :=
  if accessOk e then judgeRecord n (RecordFields.ofWords (memReadBurst s.mem r.addr r.words.length)) s
  else endCommand .memoryFault (BitVec.ofNat 32 r.addr) (postFault n .table r.addr s)

/-! ### Command start and arrival (R23 to R26, R40) -/

/-- The start of STOP_CHANNEL (R40, R78, R157). -/
def startStop (cmd : Command) (s : State) : State :=
  match s.wm.chans[cmd.chan].state with
  | .off => endCommand .channelIdle 0#32 s
  | .active cfg => if cfg.isInbound then stopInbound cmd.chan cfg s else stopOutbound cmd.chan cfg s
  | .stopping _ => s

/-- A command starts: its code says what it does (R26, section 2.7). -/
def startCommand (cmd : Command) (s : State) : State :=
  match cmd.code.toNat with
  | 1 => endCommand .done Config.partIdentification s
  | 2 => startLoad cmd s
  | 3 => startStop cmd s
  | 4 => startEnable s
  | 5 => startDisable s
  | 6 => startEvents cmd s
  | 7 => stopEvents s
  | 8 => startSnapshot cmd s
  | _ => endCommand .badCommand 0#32 s

/-- The code, tag and channel fields of a command word, with the latches as argument copies (R23, R25). -/
def commandOf (w : Word) (wm : Matcher) : Command :=
  ⟨BitVec.ofNat 8 (bits w 0 8), BitVec.ofNat 8 (bits w 8 8), chanOfBits w 16, wm.arg1, wm.arg2, wm.arg3⟩

/-- A command enters the executing place and starts (R24, R26). -/
def execute (cmd : Command) (s : State) : State :=
  startCommand cmd { s with cmd := { s.cmd with executing := some ⟨cmd, .running⟩ } }

/-- A command arrives (R24). -/
def commandArrival (cmd : Command) (s : State) : State :=
  match s.cmd.executing, s.cmd.waiting with
  | none, none => execute cmd s
  | some _, none => { s with cmd := { s.cmd with waiting := some cmd } }
  | _, some _ => post .commandOverrun cmd.chan (cmd.tag.zeroExtend 32) (cmd.code.zeroExtend 32) s

/-- The command word of a record that is a command arrival: all four byte enables set (R23). -/
def WriteRecord.command? (r : WriteRecord) (wm : Matcher) : Option Word :=
  (r.words.find? (fun w => decide (wm.control? w.addr = some .command) && decide (w.be = 15#4))).map (·.data)

/-! ### The response of a command (R27, R28) -/

/-- The response detail write ended: phase RESPONSE, and the response word write is requested (R27, R28). -/
def endDetail (e : AccessEnd) (r : DevReq) (s : State) : State :=
  let s := postFaultIf e 0 .record r.addr s
  match s.cmd.executing with
  | some ⟨cmd, .detail res d⟩ =>
    present (responseReq s.wm cmd res) { s with cmd := { s.cmd with executing := some ⟨cmd, .response res d⟩ } }
  | some ⟨_, .running⟩ => s
  | some ⟨_, .response _ _⟩ => s
  | none => s

/-- The response word write ended: the executing place empties, and a waiting command moves up and starts (R27, R28). -/
def endResponse (e : AccessEnd) (r : DevReq) (s : State) : State :=
  let s := postFaultIf e 0 .record r.addr s
  match s.cmd.waiting with
  | some cmd => execute cmd { s with cmd := ⟨none, none⟩ }
  | none => { s with cmd := ⟨none, none⟩ }

/-! ### Host accesses (R3, R5, R8, R46, R153) -/

/-- The slot a read word makes a holding slot, with its channel's guard limit (R46, R153; log 21). -/
def holdingSlot? (s : State) (w : RecordWord) : Option ((Chan × Nat) × Nat) :=
  let guarded (c : Chan) (i : Nat) : Option ((Chan × Nat) × Nat) :=
    match s.wm.cfg? c, s.land.slot? c i with
    | some cfg, some x =>
      if w.be ≠ 0#4 ∧ cfg.isInbound = true ∧ 0 < cfg.guardLimit ∧ x.state = .landing then some ((c, i), cfg.guardLimit)
      else none
    | _, _ => none
  match s.wm.classify w.addr with
  | .header0 c i => guarded c i
  | .slot c i _ => guarded c i
  | .control _ => none
  | .plain => none

/-- The smallest of a limit and those that follow. -/
def smallest (n : Nat) (l : List ((Chan × Nat) × Nat)) : Nat := l.foldl (fun m x => min m x.2) n

/-- The held read that the read guard records, none when the verdict is pass (R153). -/
def guardVerdict (ws : List RecordWord) (s : State) : Option HeldRead :=
  match ws.filterMap (holdingSlot? s) with
  | [] => none
  | x :: rest => some ⟨((x :: rest).map (·.1)).eraseDups, smallest x.2 rest⟩

/-- The arrival of an access in IDLE: a write goes to WAITING, a read is put to the read guard (R3, R5). -/
def arrive (a : HostAccess) (s : State) : State :=
  match if a.write then none else guardVerdict (recordWords a.start a.words) s with
  | some h => { s with host := .held a, land := { s.land with heldRead := some h } }
  | none => { s with host := .waiting a }

/-- The Host Port takes no access: the host's select is left without ready (R3, R8). The host presents one access at a
time, so a second one cannot come while one is presented (section 1.2; log 2). -/
def leaveSelect (a : HostAccess) (s : State) : State := { s with presented := s.presented.or (some a) }

/-- The host presents an access: it arrives in IDLE with RESET_N high; in every other state it stays presented (R3,
R8). -/
def presentAccess (a : HostAccess) (s : State) : State :=
  if s.resetLow then leaveSelect a s
  else
    match s.host with
    | .idle => arrive a s
    | .held _ => leaveSelect a s
    | .waiting _ => leaveSelect a s
    | .transfer _ => leaveSelect a s
    | .handoff _ => leaveSelect a s

/-- The Host Port is in IDLE, just entered or just released from reset: a presented access arrives (R3, R8). -/
def arriveNext (s : State) : State :=
  match s.host, s.presented with
  | .idle, some a => arrive a { s with presented := none }
  | .idle, none => s
  | .held _, _ => s
  | .waiting _, _ => s
  | .transfer _, _ => s
  | .handoff _, _ => s

/-! ### Completed-write records (R7, R22, R47) -/

/-- The latch updates of a record (R22, first step). -/
def applyLatches (ws : List RecordWord) (s : State) : State := ws.foldl latchRecordWord s

/-- The slot words of a record, in burst order (R47). -/
def applySlots (ws : List RecordWord) (s : State) : State := (ws.foldl slotRecordWord ⟨s, []⟩).state

/-- The command arrival of a record, if it holds one (R22, second step). -/
def applyCommand (r : WriteRecord) (s : State) : State :=
  match r.command? s.wm with
  | some w => commandArrival (commandOf w s.wm) s
  | none => s

/-- The effects of a record: all of them if it ended OK, none if it ended with FAULT (R7, R14; log 10). -/
def applyRecord (r : WriteRecord) (s : State) : State :=
  if r.ok then applyCommand r (applySlots r.words (applyLatches r.words s)) else s

/-- The Window Matcher takes the record in HANDOFF if it is one that `mine` recognises, and the Host Port enters IDLE;
an access that the host presents then arrives when the record's effects are in place (R3, R7; log 9). -/
def takeRecord (mine : Matcher → WriteRecord → Bool) (s : State) : State :=
  match s.host with
  | .handoff r => if mine s.wm r then arriveNext (applyRecord r { s with host := .idle }) else s
  | .idle => s
  | .held _ => s
  | .waiting _ => s
  | .transfer _ => s

/-- The record ended OK and one of its words writes, with a byte enabled, a CONTROL word that `p` accepts. -/
def WriteRecord.writes (p : ControlWord → Bool) (wm : Matcher) (r : WriteRecord) : Bool :=
  r.ok && r.words.any (fun w => (wm.control? w.addr).any p && decide (w.be ≠ 0#4))

/-- The record ended OK and holds a command arrival whose code `p` accepts (R23). -/
def WriteRecord.commands (p : Nat → Bool) (wm : Matcher) (r : WriteRecord) : Bool :=
  r.ok && (r.command? wm).any (fun w => p (bits w 0 8))

end Sys2Proof.Machine
end

