-- ==== Sys2Proof/Machine/Ends.lean ====
section
/-! DEFINITION. The end of a granted device access, told to its owner by what the access is for (R13, R15, R16): one
operation for the response timer, which ends any of them. -/

namespace Sys2Proof.Machine

/-- The owner of an ended device access goes on (R16). -/
def ownerGoesOn (e : AccessEnd) (r : DevReq) (s : State) : State :=
  match r.purpose with
  | .landPayload => endLandPayload e r s
  | .landHeader => endLandHeader e r s
  | .landWord0 => endLandWord0 e r s
  | .staging b => endStagingRead b e r s
  | .refetch b => endRefetchRead b e r s
  | .wbHeader => endWbHeader e r s
  | .wbWord0 => endWbWord0 e r s
  | .respDetail => endDetail e r s
  | .respWord => endResponse e r s
  | .ring k => endRingWrite k e r s
  | .snapshot => endSnapBurst e r s
  | .linkStatus => statusEnd e r s
  | .channelRecord n => endLoad n e r s
  | .linkRecord => linkRecordEnd e r s

/-- The end of the granted device access, if it is one that `mine` recognises: memory takes what it takes, the port is
free, and the owner goes on (R9, R16). -/
def deviceEnd (mine : Purpose → Bool) (e : AccessEnd) (s : State) : State := atDeviceEnd mine (ownerGoesOn e) e s

end Sys2Proof.Machine
end

