-- ==== Sys2Proof/WellFormed.lean ====
section
/-! DEFINITION. Which commands the part's ports can present at all: burst lengths (R1), at most eight words in a
FAULT end, fewer answered words than a burst in a timeout (R13), a lane report that holds a word. -/

namespace Sys2Proof

/-- The burst lengths of R1. -/
def burstLengthOk (n : Nat) : Bool := n == 1 || n == 2 || n == 4 || n == 8

/-- An access end speaks of at most the eight words of the longest burst (R1). -/
def AccessEnd.wf : AccessEnd → Bool
  | .ok => true
  | .fault kept data => decide (kept.length ≤ 8) && decide (data.length ≤ 8)

/-- A lane report holds a word. -/
def Receipt.wf : Receipt → Bool
  | .handed lane => !lane.isEmpty
  | .taken => true

/-- A command that the ports of the part can present. -/
def Instr.wf : Instr → Bool
  | .pinReset kept => decide (kept.length ≤ 8)
  | .hostReadArrival _ enables => burstLengthOk enables.length
  | .hostWriteArrival _ words => burstLengthOk words.length
  | .hostAccessEnd e => e.wf
  | .memoryResponseTimeout kept answered => decide (kept.length ≤ 8) && decide (answered.length < 8)
  | .responseDetailWriteEnd e => e.wf
  | .responseWordWriteEnd e => e.wf
  | .channelRecordReadEnd e => e.wf
  | .linkRecordReadEnd e => e.wf
  | .stagingReadEnd e => e.wf
  | .refetchReadEnd e => e.wf
  | .writebackHeaderBurstEnd e => e.wf
  | .writebackWord0End e => e.wf
  | .ackReceived how => how.wf
  | .nakReceived how => how.wf
  | .lockAcquired lane => !lane.isEmpty
  | .lockLost lane => !lane.isEmpty
  | .damagedFrame lane => !lane.isEmpty
  | .initReceived lane => !lane.isEmpty
  | .linkStatusWriteEnd e => e.wf
  | .dataReceived how => how.wf
  | .landingPayloadWriteEnd e => e.wf
  | .landingHeaderWriteEnd e => e.wf
  | .landingWord0WriteEnd e => e.wf
  | .creditReceived how => how.wf
  | .eventRecordWriteEnd e => e.wf
  | .eventsLostWriteEnd e => e.wf
  | .producerWriteEnd e => e.wf
  | .startProducerWriteEnd e => e.wf
  | .snapshotBurstEnd e => e.wf
  | .resetNRelease _ => true
  | .memoryGrant => true
  | .completedWriteRecord => true
  | .argumentWordWrite => true
  | .consumerIndexWrite => true
  | .interruptControlWrite => true
  | .echo => true
  | .loadChannel => true
  | .stopChannel => true
  | .linkEnable => true
  | .linkDisable => true
  | .eventsStart => true
  | .eventsStop => true
  | .snapshot => true
  | .badCommand => true
  | .stagingBegin _ => true
  | .refetchClaimGranted => true
  | .sendInit => true
  | .sendAck => true
  | .sendNak => true
  | .sendCredit => true
  | .resend => true
  | .firstSend => true
  | .frameSendEnd _ => true
  | .ackTimerExpiry => true
  | .initTimerExpiry => true
  | .syncTimerExpiry => true
  | .transmitLinkReset => true
  | .captureLinkReset => true
  | .landingLinkReset => true
  | .creditLinkReset => true
  | .ackDelayExpiry => true
  | .guardTimerExpiry => true
  | .refreshTimerExpiry => true

end Sys2Proof
end

