-- ==== Sys2Proof/Machine/BusSteps.lean ====
section
/-! DEFINITION. The commands of the reset pin, the host port and the memory port (Chapter 1). -/

namespace Sys2Proof.Machine

/-- Memory when pin reset abandons the access in TRANSFER: the operand says which words of a write it holds (R8, R17;
log 6). -/
def abandonedMem (kept : List Bool) (s : State) : List Host.Cell :=
  match s.port.granted, s.host with
  | some (.device r), _ => if r.write then memWriteBurst s.mem r.addr r.words kept else s.mem
  | some .host, .transfer a => if a.write then memWriteBurst s.mem a.start a.words kept else s.mem
  | some .host, _ => s.mem
  | none, _ => s.mem

/-- PIN_RESET (R8, R17, R32, R82, R91, R156, R162, R180): every unit in its first state; memory keeps what it holds. The
host's bus is reset with the part, so it presents no access (log 36). -/
def execPinReset (kept : List Bool) (s : State) : Host.Outcome State Fault Refusal :=
  .next { State.reset with mem := abandonedMem kept s, free := s.free, pending := s.pending }

/-- RESET_N_RELEASE (R8, R17, R18): the straps are sampled, the Timebase starts at 0, and a select that the host
presents is taken as the arrival of a new access. -/
def execResetNRelease (straps : BitVec 4) (s : State) : Host.Outcome State Fault Refusal :=
  .next (if s.resetLow then
    arriveNext { s with resetLow := false, timebase := 0#32, wm := { s.wm with anchor := straps } }
  else s)

/-- The access a host read presents (R1). -/
def readAccess (addr : BitVec 26) (enables : List (BitVec 4)) : HostAccess :=
  ⟨false, addr, enables.map (fun be => ⟨be, 0#32⟩)⟩

/-- HOST_READ_ARRIVAL (R3, R5, R8, R46, R153; log 22). -/
def execHostReadArrival (addr : BitVec 26) (enables : List (BitVec 4)) (s : State) :
    Host.Outcome State Fault Refusal :=
  if burstLengthOk enables.length then .next (presentAccess (readAccess addr enables) s) else .fault .burstLength

/-- HOST_WRITE_ARRIVAL (R3, R5, R8; log 22). -/
def execHostWriteArrival (addr : BitVec 26) (words : List BusWord) (s : State) : Host.Outcome State Fault Refusal :=
  if burstLengthOk words.length then .next (presentAccess ⟨true, addr, words⟩ s) else .fault .burstLength

/-- MEMORY_GRANT (R3, R9, R11, R12, R13, R147): one decision of the arbiter. -/
def execMemoryGrant (s : State) : Host.Outcome State Fault Refusal := live arbitrate s

/-- The granted host access ends: HANDOFF for a write; for a read IDLE, where a presented access arrives (R3, R7). -/
def endTransfer (a : HostAccess) (e : AccessEnd) (data : List Word) (s : State) : State :=
  arriveNext (endHost a e data s)

/-- The end of the host access in TRANSFER (R3, R4, R7, R14). -/
def hostEnd (e : AccessEnd) (s : State) : State :=
  match s.port.granted, s.host with
  | some .host, .transfer a => endTransfer a e (hostData a e s) s
  | _, _ => s

/-- HOST_ACCESS_END (R3, R4, R7, R14). -/
def execHostAccessEnd (e : AccessEnd) (s : State) : Host.Outcome State Fault Refusal := live (hostEnd e) s

/-- The memory response timer ends the access in progress with FAULT (R13, R14, R15). -/
def responseTimeout (kept : List Bool) (answered : List Word) (s : State) : State :=
  if timerDue s.port.timer then
    match s.port.granted, s.host with
    | some .host, .transfer a => endTransfer a (.fault kept answered) (timeoutData a answered s) s
    | some (.device _), _ => deviceEnd (fun _ => true) (.fault kept answered) s
    | _, _ => s
  else s

/-- MEMORY_RESPONSE_TIMEOUT (R13 to R16; log 12). -/
def execMemoryResponseTimeout (kept : List Bool) (answered : List Word) (s : State) :
    Host.Outcome State Fault Refusal :=
  live (responseTimeout kept answered) s

/-- COMPLETED_WRITE_RECORD (R7, R20, R22, R23, R44 to R53, R56, R57, R62, R143): any record in HANDOFF. -/
def execCompletedWriteRecord (s : State) : Host.Outcome State Fault Refusal :=
  live (takeRecord (fun _ _ => true)) s

end Sys2Proof.Machine
end

