-- ==== Sys2Proof/Machine/CaptureSteps.lean ====
section
/-! DEFINITION. The commands of the Capture Unit and the staging pool (Chapter 4). -/

namespace Sys2Proof.Machine

/-- STAGING_BEGIN on a channel (R59, R60, R64, R65; log 31). -/
def execStagingBegin (c : Chan) (s : State) : Host.Outcome State Fault Refusal := live (beginStaging c) s

/-- A staging read. -/
def Purpose.isStaging : Purpose → Bool
  | .staging _ => true
  | _ => false

/-- STAGING_READ_END (R65 to R67, R69). -/
def execStagingReadEnd (e : AccessEnd) (s : State) : Host.Outcome State Fault Refusal :=
  live (deviceEnd Purpose.isStaging e) s

/-- REFETCH_CLAIM_GRANTED (R59 to R61, R73). -/
def execRefetchClaimGranted (s : State) : Host.Outcome State Fault Refusal := live grantRefetch s

/-- A refetch read. -/
def Purpose.isRefetch : Purpose → Bool
  | .refetch _ => true
  | _ => false

/-- REFETCH_READ_END (R66, R73, R74, R117). -/
def execRefetchReadEnd (e : AccessEnd) (s : State) : Host.Outcome State Fault Refusal :=
  live (deviceEnd Purpose.isRefetch e) s

/-- WRITEBACK_HEADER_BURST_END (R76, R77). -/
def execWritebackHeaderBurstEnd (e : AccessEnd) (s : State) : Host.Outcome State Fault Refusal :=
  live (deviceEnd (fun p => decide (p = .wbHeader)) e) s

/-- WRITEBACK_WORD0_END (R76, R77, R80). -/
def execWritebackWord0End (e : AccessEnd) (s : State) : Host.Outcome State Fault Refusal :=
  live (deviceEnd (fun p => decide (p = .wbWord0)) e) s

/-- The Capture Unit takes its notice of a link reset, does its part and acknowledges (R81, R94, R95, R101). -/
def captureNotice (s : State) : State :=
  if s.link.capNotices = 0 then s
  else acknowledge (captureReset { s with link := { s.link with capNotices := s.link.capNotices - 1 } })

/-- CAPTURE_LINK_RESET (R81, R101). -/
def execCaptureLinkReset (s : State) : Host.Outcome State Fault Refusal := live captureNotice s

end Sys2Proof.Machine
end

