-- ==== Sys2Proof/Machine/CreditSteps.lean ====
section
/-! DEFINITION. The commands of the Credit Unit (Chapter 7). -/

namespace Sys2Proof.Machine

/-- The Capture Unit is told of destination `d`'s record: a CLOSED peer completes waiting slots (R69, R135). -/
def settleDest (d : Chan) (s : State) : State :=
  allChans.foldl (fun s c => if s.wm.usesDest (some d) c then settleClosed c s else s) s

/-- The peer state that a CREDIT carries (R130, R135). -/
def peerStateOf (isOpen : Bool) : PeerState := if isOpen then .open else .closed

/-- A good CREDIT is taken into the send record of its destination, or ignored whole (R134, R135). -/
def takeCredit (d : Chan) (isOpen : Bool) (g : BitVec 8) (v : BitVec 16) (s : State) : State :=
  let r := s.cred.send[d].credited g v (peerStateOf isOpen)
  if r.bounded then settleDest d { s with cred := s.cred.onSend d (fun _ => r) } else count Counters.stale s

/-- A CREDIT is handed to the Credit Unit in UP, and discarded otherwise (R90). -/
def handCredit (a : CreditArrival) (s : State) : State :=
  { s with cred := { s.cred with inbox := if s.link.isUp then s.cred.inbox ++ [a] else s.cred.inbox } }

/-- The oldest CREDIT leaves the Credit Unit's inbox (R90, R134). -/
def popCredit (s : State) : State := { s with cred := { s.cred with inbox := s.cred.inbox.tail } }

/-- A good CREDIT arrives (R90). -/
def creditArrives (ws : List LinkWord) (s : State) : State :=
  match goodFrame s ws with
  | some (rx, .credit d isOpen g v) => handCredit ⟨d, isOpen, g, v⟩ (setRx rx s)
  | _ => s

/-- The Credit Unit takes the oldest CREDIT handed to it (R90, R134). -/
def creditTaken (s : State) : State :=
  match s.cred.inbox with
  | a :: _ => takeCredit a.chan a.isOpen a.generation a.total (popCredit s)
  | [] => s

/-- CREDIT_RECEIVED (R69, R90, R134, R135; log 11). -/
def execCreditReceived (how : Receipt) (s : State) : Host.Outcome State Fault Refusal :=
  match how with
  | .handed lane => live (creditArrives lane) s
  | .taken => live creditTaken s

/-- The refresh timer expires: the CREDIT requests, which are made only in UP, and the restart (R131; log 26). -/
def refreshExpires (s : State) : State :=
  if timerDue s.cred.refresh then
    let s := refreshCredits s
    { s with cred := { s.cred with refresh := some s.link.refreshInterval } }
  else s

/-- REFRESH_TIMER_EXPIRY (R129, R131; log 12). -/
def execRefreshTimerExpiry (s : State) : Host.Outcome State Fault Refusal := live refreshExpires s

/-- The Credit Unit takes its notice of a link reset, does its part and acknowledges (R94, R95, R101, R139). -/
def creditNotice (s : State) : State :=
  if s.link.credNotices = 0 then s
  else acknowledge { s with
    cred := s.cred.linkReset, link := { s.link with credNotices := s.link.credNotices - 1 } }

/-- CREDIT_LINK_RESET (R101, R139). -/
def execCreditLinkReset (s : State) : Host.Outcome State Fault Refusal := live creditNotice s

end Sys2Proof.Machine
end

