-- ==== Sys2Proof/Machine/EventSteps.lean ====
section
/-! DEFINITION. The commands of the Event Unit (Chapter 9). -/

namespace Sys2Proof.Machine

/-- EVENT_RECORD_WRITE_END (R169, R171). -/
def execEventRecordWriteEnd (e : AccessEnd) (s : State) : Host.Outcome State Fault Refusal :=
  live (deviceEnd (fun p => decide (p = .ring .event)) e) s

/-- The write of an EVENTS_LOST record. -/
def Purpose.isLostRecord : Purpose → Bool
  | .ring (.lost _) => true
  | _ => false

/-- EVENTS_LOST_WRITE_END (R170, R171). -/
def execEventsLostWriteEnd (e : AccessEnd) (s : State) : Host.Outcome State Fault Refusal :=
  live (deviceEnd Purpose.isLostRecord e) s

/-- PRODUCER_WRITE_END (R169, R171, R174, R175). -/
def execProducerWriteEnd (e : AccessEnd) (s : State) : Host.Outcome State Fault Refusal :=
  live (deviceEnd (fun p => decide (p = .ring .producer)) e) s

/-- START_PRODUCER_WRITE_END (R173). -/
def execStartProducerWriteEnd (e : AccessEnd) (s : State) : Host.Outcome State Fault Refusal :=
  live (deviceEnd (fun p => decide (p = .ring .start)) e) s

/-- SNAPSHOT_BURST_END (R172, R179, R180). -/
def execSnapshotBurstEnd (e : AccessEnd) (s : State) : Host.Outcome State Fault Refusal :=
  live (deviceEnd (fun p => decide (p = .snapshot)) e) s

end Sys2Proof.Machine
end

