-- ==== Sys2Proof/Machine/LandingSteps.lean ====
section
/-! DEFINITION. The commands of the Landing Engine (Chapters 6 and 8). -/

namespace Sys2Proof.Machine

/-- A DATA frame is handed to the Landing Engine in UP, and discarded otherwise (R90). -/
def handLanding (a : LandArrival) (s : State) : State :=
  { s with land := { s.land with inbox := if s.link.isUp then s.land.inbox ++ [a] else s.land.inbox } }

/-- The oldest arrival leaves the Landing Engine's inbox (R90). -/
def popLanding (s : State) : State := { s with land := { s.land with inbox := s.land.inbox.tail } }

/-- A good DATA frame arrives (R90). -/
def dataArrives (ws : List LinkWord) (s : State) : State :=
  match goodFrame s ws with
  | some (rx, .data c q user payload) => handLanding (.data c q user payload) (setRx rx s)
  | _ => s

/-- The Landing Engine takes the oldest arrival (R90, R119, R121; log 35). -/
def dataTaken (s : State) : State :=
  match s.land.inbox with
  | a :: _ => takeArrival a (popLanding s)
  | [] => s

/-- DATA_RECEIVED (R90, R119 to R121, R124, R145 to R147; log 11). -/
def execDataReceived (how : Receipt) (s : State) : Host.Outcome State Fault Refusal :=
  match how with
  | .handed lane => live (dataArrives lane) s
  | .taken => live dataTaken s

/-- LANDING_PAYLOAD_WRITE_END (R148, R151). -/
def execLandingPayloadWriteEnd (e : AccessEnd) (s : State) : Host.Outcome State Fault Refusal :=
  live (deviceEnd (fun p => decide (p = .landPayload)) e) s

/-- LANDING_HEADER_WRITE_END (R149, R151). -/
def execLandingHeaderWriteEnd (e : AccessEnd) (s : State) : Host.Outcome State Fault Refusal :=
  live (deviceEnd (fun p => decide (p = .landHeader)) e) s

/-- LANDING_WORD0_WRITE_END (R122, R150, R151, R154, R159, R161). -/
def execLandingWord0WriteEnd (e : AccessEnd) (s : State) : Host.Outcome State Fault Refusal :=
  live (deviceEnd (fun p => decide (p = .landWord0)) e) s

/-- The ack delay timer expires; it does not restart (R124). -/
def ackDelayExpires (s : State) : State :=
  if timerDue s.land.ackDelay then requestCtl .ack { s with land := { s.land with ackDelay := none } } else s

/-- ACK_DELAY_EXPIRY (R124; log 12). -/
def execAckDelayExpiry (s : State) : Host.Outcome State Fault Refusal := live ackDelayExpires s

/-- The guard timer of the held read expires (R155). -/
def guardTurn (s : State) : State :=
  match s.land.heldRead with
  | some h => if h.timer = 0 then guardExpires h s else s
  | none => s

/-- GUARD_TIMER_EXPIRY (R6, R155; log 12). -/
def execGuardTimerExpiry (s : State) : Host.Outcome State Fault Refusal := live guardTurn s

/-- The Landing Engine takes its notice of a link reset, does its part and acknowledges (R94, R95, R101, R127, R160). -/
def landingNotice (s : State) : State :=
  if s.link.landNotices = 0 then s
  else acknowledge (landingReset { s with link := { s.link with landNotices := s.link.landNotices - 1 } })

/-- LANDING_LINK_RESET (R101, R127, R160). -/
def execLandingLinkReset (s : State) : Host.Outcome State Fault Refusal := live landingNotice s

end Sys2Proof.Machine
end

