-- ==== Sys2Proof/Machine/LinkSteps.lean ====
section
/-! DEFINITION. The commands of the Link Controller (Chapter 5). -/

namespace Sys2Proof.Machine

/-- LINK_RECORD_READ_END (R92, R93). -/
def execLinkRecordReadEnd (e : AccessEnd) (s : State) : Host.Outcome State Fault Refusal :=
  live (deviceEnd (fun p => decide (p = .linkRecord)) e) s

/-- The INIT timer expires in SYNC (R96). -/
def initTimerExpires (s : State) : State :=
  if timerDue s.link.initTimer && decide (s.link.state = .sync) then
    { s with link := { s.link with initRequest := true, initTimer := some Config.initInterval } }
  else s

/-- INIT_TIMER_EXPIRY (R96; log 12). -/
def execInitTimerExpiry (s : State) : Host.Outcome State Fault Refusal := live initTimerExpires s

/-- LOCK_ACQUIRED (R84, R95). -/
def execLockAcquired (lane : List LinkWord) (s : State) : Host.Outcome State Fault Refusal := live (lockFound lane) s

/-- LOCK_LOST (R84, R101). -/
def execLockLost (lane : List LinkWord) (s : State) : Host.Outcome State Fault Refusal := live (lockLost lane) s

/-- A lane report that ends in a framing error or in a frame that the check of R88 does not pass. -/
def damaged (ws : List LinkWord) (s : State) : State :=
  match listen s ws with
  | some (rx, .framing) => takeDamage true false (setRx rx s)
  | some (rx, .frameEnd body) =>
    match judgeFrame body with
    | .framingError => takeDamage true false (setRx rx s)
    | .crcError kindData => takeDamage false kindData (setRx rx s)
    | .good _ => s
  | some (_, .lockFound) => s
  | some (_, .lockLost) => s
  | none => s

/-- DAMAGED_FRAME (R86, R88, R89, R121). -/
def execDamagedFrame (lane : List LinkWord) (s : State) : Host.Outcome State Fault Refusal := live (damaged lane) s

/-- A good INIT arrives (R90, R97, R99). -/
def initArrives (ws : List LinkWord) (s : State) : State :=
  match goodFrame s ws with
  | some (rx, .init epoch heard) => takeInit epoch heard (setRx rx s)
  | _ => s

/-- INIT_RECEIVED (R90, R97, R98, R99). -/
def execInitReceived (lane : List LinkWord) (s : State) : Host.Outcome State Fault Refusal := live (initArrives lane) s

/-- The sync timer expires in SYNC (R100). -/
def syncTimerExpires (s : State) : State :=
  if timerDue s.link.syncTimer && decide (s.link.state = .sync) then linkReset .syncTimeout s else s

/-- SYNC_TIMER_EXPIRY (R100, R101; log 12). -/
def execSyncTimerExpiry (s : State) : Host.Outcome State Fault Refusal := live syncTimerExpires s

/-- LINK_STATUS_WRITE_END (R102). -/
def execLinkStatusWriteEnd (e : AccessEnd) (s : State) : Host.Outcome State Fault Refusal :=
  live (deviceEnd (fun p => decide (p = .linkStatus)) e) s

end Sys2Proof.Machine
end

