-- ==== Sys2Proof/Machine/MailboxSteps.lean ====
section
/-! DEFINITION. The commands that are host writes to the control block, and the ends of the Command Unit's and the
table's accesses (Chapters 2 and 3). A row of a latch or of a mailbox command is the taking of the record in HANDOFF
that holds such a write (log 9). -/

namespace Sys2Proof.Machine

/-- The three argument words. -/
def ControlWord.isArgument : ControlWord → Bool
  | .arg1 => true
  | .arg2 => true
  | .arg3 => true
  | .command => false
  | .consumer => false
  | .intEnable => false

/-- ARGUMENT_WORD_WRITE (R20, R22). -/
def execArgumentWordWrite (s : State) : Host.Outcome State Fault Refusal :=
  live (takeRecord (WriteRecord.writes ControlWord.isArgument)) s

/-- CONSUMER_INDEX_WRITE (R20, R21, R168, R171, R175). -/
def execConsumerIndexWrite (s : State) : Host.Outcome State Fault Refusal :=
  live (takeRecord (WriteRecord.writes (fun k => decide (k = .consumer)))) s

/-- INTERRUPT_CONTROL_WRITE (R20, R21, R175). -/
def execInterruptControlWrite (s : State) : Host.Outcome State Fault Refusal :=
  live (takeRecord (WriteRecord.writes (fun k => decide (k = .intEnable)))) s

/-- ECHO, code 1 (R22 to R26, R31): accepted or dropped; its start is `startCommand`. -/
def execEcho (s : State) : Host.Outcome State Fault Refusal :=
  live (takeRecord (WriteRecord.commands (fun k => k == 1))) s

/-- LOAD_CHANNEL, code 2 (R22 to R26, R33, R35): accepted or dropped; its start is `startCommand`. -/
def execLoadChannel (s : State) : Host.Outcome State Fault Refusal :=
  live (takeRecord (WriteRecord.commands (fun k => k == 2))) s

/-- STOP_CHANNEL, code 3 (R22 to R26, R40, R78, R157): accepted or dropped; its start is `startCommand`. -/
def execStopChannel (s : State) : Host.Outcome State Fault Refusal :=
  live (takeRecord (WriteRecord.commands (fun k => k == 3))) s

/-- LINK_ENABLE, code 4 (R22 to R26, R92): accepted or dropped; its start is `startCommand`. -/
def execLinkEnable (s : State) : Host.Outcome State Fault Refusal :=
  live (takeRecord (WriteRecord.commands (fun k => k == 4))) s

/-- LINK_DISABLE, code 5 (R22 to R26, R94): accepted or dropped; its start is `startCommand`. -/
def execLinkDisable (s : State) : Host.Outcome State Fault Refusal :=
  live (takeRecord (WriteRecord.commands (fun k => k == 5))) s

/-- EVENTS_START, code 6 (R22 to R26, R173): accepted or dropped; its start is `startCommand`. -/
def execEventsStart (s : State) : Host.Outcome State Fault Refusal :=
  live (takeRecord (WriteRecord.commands (fun k => k == 6))) s

/-- EVENTS_STOP, code 7 (R22 to R26, R174): accepted or dropped; its start is `startCommand`. -/
def execEventsStop (s : State) : Host.Outcome State Fault Refusal :=
  live (takeRecord (WriteRecord.commands (fun k => k == 7))) s

/-- SNAPSHOT, code 8 (R22 to R26, R178): accepted or dropped; its start is `startCommand`. -/
def execSnapshot (s : State) : Host.Outcome State Fault Refusal :=
  live (takeRecord (WriteRecord.commands (fun k => k == 8))) s

/-- BAD_COMMAND (R22 to R26): a code that names no command. -/
def execBadCommand (s : State) : Host.Outcome State Fault Refusal :=
  live (takeRecord (WriteRecord.commands (fun k => decide (k = 0 ∨ 8 < k)))) s

/-- RESPONSE_DETAIL_WRITE_END (R27, R28). -/
def execResponseDetailWriteEnd (e : AccessEnd) (s : State) : Host.Outcome State Fault Refusal :=
  live (deviceEnd (fun p => decide (p = .respDetail)) e) s

/-- RESPONSE_WORD_WRITE_END (R27, R28). -/
def execResponseWordWriteEnd (e : AccessEnd) (s : State) : Host.Outcome State Fault Refusal :=
  live (deviceEnd (fun p => decide (p = .respWord)) e) s

/-- The table read of LOAD_CHANNEL. -/
def Purpose.isChannelRecord : Purpose → Bool
  | .channelRecord _ => true
  | _ => false

/-- CHANNEL_RECORD_READ_END (R33 to R39). -/
def execChannelRecordReadEnd (e : AccessEnd) (s : State) : Host.Outcome State Fault Refusal :=
  live (deviceEnd Purpose.isChannelRecord e) s

end Sys2Proof.Machine
end

