-- ==== Sys2Proof/Machine/TransmitSteps.lean ====
section
/-! DEFINITION. The commands of the Transmit Engine (Chapter 6). -/

namespace Sys2Proof.Machine

/-- An INIT goes out when it is its turn (R96, R104). -/
def sendInitFrame (s : State) : State :=
  if initTurn s then transmit (initFrame s.link) none { s with link := { s.link with initRequest := false } } else s

/-- SEND_INIT (R96, R104). -/
def execSendInit (s : State) : Host.Outcome State Fault Refusal := live sendInitFrame s

/-- An ACK goes out when it is the oldest control frame request (R104, R105, R124, R125). -/
def sendAckFrame (s : State) : State :=
  if ctlTurn? s = some .ack then resetBatch (transmit (ackFrame s.land) none (popCtl s)) else s

/-- SEND_ACK (R104, R105, R124, R125). -/
def execSendAck (s : State) : Host.Outcome State Fault Refusal := live sendAckFrame s

/-- A NAK goes out when it is the oldest control frame request (R104, R105). -/
def sendNakFrame (s : State) : State :=
  if ctlTurn? s = some .nak then count Counters.nakSent (transmit (.nak s.land.expected) none (popCtl s)) else s

/-- SEND_NAK (R104, R105). -/
def execSendNak (s : State) : Host.Outcome State Fault Refusal := live sendNakFrame s

/-- The queued flag of channel `c` is cleared (R130). -/
def clearQueued (c : Chan) (s : State) : State :=
  { s with cred := s.cred.onRecv c (fun r => { r with queued := false }) }

/-- A CREDIT goes out when it is the oldest control frame request; it is not formed while P is no number (R104, R105,
R130; log 28). -/
def sendCreditFrame (s : State) : State :=
  match ctlTurn? s with
  | some (.credit c) =>
    match s.cred.recv[c].posted with
    | .total n =>
      clearQueued c (transmit (.credit c (creditOpen c s) (creditGeneration c s) n) none (popCtl s))
    | .none => s
    | .unknown => s
  | some .ack => s
  | some .nak => s
  | none => s

/-- SEND_CREDIT (R104, R105, R130). -/
def execSendCredit (s : State) : Host.Outcome State Fault Refusal := live sendCreditFrame s

/-- The refetched frame at the pass position goes out when it is its turn (R104, R114). -/
def resendFrame (s : State) : State :=
  match resendTurn? s with
  | some (x, b) => sendAgain x b s
  | none => s

/-- RESEND (R104, R114, R116). -/
def execResend (s : State) : Host.Outcome State Fault Refusal := live resendFrame s

/-- A READY new frame goes out when it is its turn (R104, R107). -/
def firstSendFrame (s : State) : State :=
  match firstTurn? s with
  | some (c, b) => sendNew c b s
  | none => s

/-- FIRST_SEND (R71, R104, R107, R137). -/
def execFirstSend (s : State) : Host.Outcome State Fault Refusal := live firstSendFrame s

/-- FRAME_SEND_END (R72, R83, R106; log 20). -/
def execFrameSendEnd (how : SendEnd) (s : State) : Host.Outcome State Fault Refusal := live (endSend how) s

/-- An ACK or NAK is handed to the Transmit Engine in UP, and discarded otherwise (R90). -/
def handTransmit (a : TxArrival) (s : State) : State :=
  { s with tx := { s.tx with inbox := if s.link.isUp then s.tx.inbox ++ [a] else s.tx.inbox } }

/-- The oldest frame leaves the Transmit Engine's inbox (R90). -/
def popTransmit (s : State) : State := { s with tx := { s.tx with inbox := s.tx.inbox.tail } }

/-- A good ACK arrives (R90). -/
def ackArrives (ws : List LinkWord) (s : State) : State :=
  match goodFrame s ws with
  | some (rx, .ack d rs) => handTransmit (.ack d rs) (setRx rx s)
  | _ => s

/-- The Transmit Engine takes the oldest frame handed to it, if that is an ACK (R90, R110). -/
def ackTaken (s : State) : State :=
  match s.tx.inbox with
  | .ack d rs :: _ => takeAck d rs (popTransmit s)
  | .nak _ :: _ => s
  | [] => s

/-- ACK_RECEIVED (R90, R110, R111, R115; log 11). -/
def execAckReceived (how : Receipt) (s : State) : Host.Outcome State Fault Refusal :=
  match how with
  | .handed lane => live (ackArrives lane) s
  | .taken => live ackTaken s

/-- A good NAK arrives (R90). -/
def nakArrives (ws : List LinkWord) (s : State) : State :=
  match goodFrame s ws with
  | some (rx, .nak q) => handTransmit (.nak q) (setRx rx s)
  | _ => s

/-- The Transmit Engine takes the oldest frame handed to it, if that is a NAK (R90, R112). -/
def nakTaken (s : State) : State :=
  match s.tx.inbox with
  | .nak q :: _ => takeNak q (popTransmit s)
  | .ack _ _ :: _ => s
  | [] => s

/-- NAK_RECEIVED (R90, R112, R115; log 11). -/
def execNakReceived (how : Receipt) (s : State) : Host.Outcome State Fault Refusal :=
  match how with
  | .handed lane => live (nakArrives lane) s
  | .taken => live nakTaken s

/-- The ack timer reaches its interval (R113). -/
def ackTimerTurn (s : State) : State := if timerDue s.tx.ackTimer then ackTimerExpires s else s

/-- ACK_TIMER_EXPIRY (R109, R113; log 12). -/
def execAckTimerExpiry (s : State) : Host.Outcome State Fault Refusal := live ackTimerTurn s

/-- The Transmit Engine takes its notice of a link reset, does its part and acknowledges (R94, R95, R101, R126). -/
def transmitNotice (s : State) : State :=
  if s.link.txNotices = 0 then s
  else acknowledge (transmitReset { s with link := { s.link with txNotices := s.link.txNotices - 1 } })

/-- TRANSMIT_LINK_RESET (R101, R126). -/
def execTransmitLinkReset (s : State) : Host.Outcome State Fault Refusal := live transmitNotice s

end Sys2Proof.Machine
end

