-- ==== Sys2Proof/Machine/Dispatch.lean ====
section
/-! DEFINITION. One arm for each command. -/

namespace Sys2Proof.Machine

def exec (i : Instr) (s : State) : Host.Outcome State Fault Refusal :=
  match i with
  | .pinReset kept => Sys2Proof.Machine.execPinReset kept s
  | .resetNRelease straps => Sys2Proof.Machine.execResetNRelease straps s
  | .hostReadArrival addr enables => Sys2Proof.Machine.execHostReadArrival addr enables s
  | .hostWriteArrival addr words => Sys2Proof.Machine.execHostWriteArrival addr words s
  | .memoryGrant => Sys2Proof.Machine.execMemoryGrant s
  | .hostAccessEnd e => Sys2Proof.Machine.execHostAccessEnd e s
  | .memoryResponseTimeout kept answered => Sys2Proof.Machine.execMemoryResponseTimeout kept answered s
  | .completedWriteRecord => Sys2Proof.Machine.execCompletedWriteRecord s
  | .argumentWordWrite => Sys2Proof.Machine.execArgumentWordWrite s
  | .consumerIndexWrite => Sys2Proof.Machine.execConsumerIndexWrite s
  | .interruptControlWrite => Sys2Proof.Machine.execInterruptControlWrite s
  | .echo => Sys2Proof.Machine.execEcho s
  | .loadChannel => Sys2Proof.Machine.execLoadChannel s
  | .stopChannel => Sys2Proof.Machine.execStopChannel s
  | .linkEnable => Sys2Proof.Machine.execLinkEnable s
  | .linkDisable => Sys2Proof.Machine.execLinkDisable s
  | .eventsStart => Sys2Proof.Machine.execEventsStart s
  | .eventsStop => Sys2Proof.Machine.execEventsStop s
  | .snapshot => Sys2Proof.Machine.execSnapshot s
  | .badCommand => Sys2Proof.Machine.execBadCommand s
  | .responseDetailWriteEnd e => Sys2Proof.Machine.execResponseDetailWriteEnd e s
  | .responseWordWriteEnd e => Sys2Proof.Machine.execResponseWordWriteEnd e s
  | .channelRecordReadEnd e => Sys2Proof.Machine.execChannelRecordReadEnd e s
  | .linkRecordReadEnd e => Sys2Proof.Machine.execLinkRecordReadEnd e s
  | .stagingBegin c => Sys2Proof.Machine.execStagingBegin c s
  | .stagingReadEnd e => Sys2Proof.Machine.execStagingReadEnd e s
  | .refetchClaimGranted => Sys2Proof.Machine.execRefetchClaimGranted s
  | .refetchReadEnd e => Sys2Proof.Machine.execRefetchReadEnd e s
  | .writebackHeaderBurstEnd e => Sys2Proof.Machine.execWritebackHeaderBurstEnd e s
  | .writebackWord0End e => Sys2Proof.Machine.execWritebackWord0End e s
  | .sendInit => Sys2Proof.Machine.execSendInit s
  | .sendAck => Sys2Proof.Machine.execSendAck s
  | .sendNak => Sys2Proof.Machine.execSendNak s
  | .sendCredit => Sys2Proof.Machine.execSendCredit s
  | .resend => Sys2Proof.Machine.execResend s
  | .firstSend => Sys2Proof.Machine.execFirstSend s
  | .frameSendEnd how => Sys2Proof.Machine.execFrameSendEnd how s
  | .ackReceived how => Sys2Proof.Machine.execAckReceived how s
  | .nakReceived how => Sys2Proof.Machine.execNakReceived how s
  | .ackTimerExpiry => Sys2Proof.Machine.execAckTimerExpiry s
  | .initTimerExpiry => Sys2Proof.Machine.execInitTimerExpiry s
  | .lockAcquired lane => Sys2Proof.Machine.execLockAcquired lane s
  | .lockLost lane => Sys2Proof.Machine.execLockLost lane s
  | .damagedFrame lane => Sys2Proof.Machine.execDamagedFrame lane s
  | .initReceived lane => Sys2Proof.Machine.execInitReceived lane s
  | .syncTimerExpiry => Sys2Proof.Machine.execSyncTimerExpiry s
  | .linkStatusWriteEnd e => Sys2Proof.Machine.execLinkStatusWriteEnd e s
  | .transmitLinkReset => Sys2Proof.Machine.execTransmitLinkReset s
  | .captureLinkReset => Sys2Proof.Machine.execCaptureLinkReset s
  | .landingLinkReset => Sys2Proof.Machine.execLandingLinkReset s
  | .creditLinkReset => Sys2Proof.Machine.execCreditLinkReset s
  | .dataReceived how => Sys2Proof.Machine.execDataReceived how s
  | .landingPayloadWriteEnd e => Sys2Proof.Machine.execLandingPayloadWriteEnd e s
  | .landingHeaderWriteEnd e => Sys2Proof.Machine.execLandingHeaderWriteEnd e s
  | .landingWord0WriteEnd e => Sys2Proof.Machine.execLandingWord0WriteEnd e s
  | .ackDelayExpiry => Sys2Proof.Machine.execAckDelayExpiry s
  | .guardTimerExpiry => Sys2Proof.Machine.execGuardTimerExpiry s
  | .creditReceived how => Sys2Proof.Machine.execCreditReceived how s
  | .refreshTimerExpiry => Sys2Proof.Machine.execRefreshTimerExpiry s
  | .eventRecordWriteEnd e => Sys2Proof.Machine.execEventRecordWriteEnd e s
  | .eventsLostWriteEnd e => Sys2Proof.Machine.execEventsLostWriteEnd e s
  | .producerWriteEnd e => Sys2Proof.Machine.execProducerWriteEnd e s
  | .startProducerWriteEnd e => Sys2Proof.Machine.execStartProducerWriteEnd e s
  | .snapshotBurstEnd e => Sys2Proof.Machine.execSnapshotBurstEnd e s

end Sys2Proof.Machine
end

