-- ==== Sys2Proof/Machine/Step.lean ====
section
/-! DEFINITION. One step: the command at the front of the queue, or, with none waiting, one microsecond (log 1). -/

namespace Sys2Proof.Machine

/-- The state with the queue's rest, as `exec` is given it. -/
def State.withQueue (s : State) (q : List Instr) : State := { s with pending := q }

/-- One step of the part. -/
def step (s : State) : Host.Outcome State Fault Refusal :=
  match s.pending with
  | [] => .next (tick s)
  | c :: rest => exec c (s.withQueue rest)

/-- The command that a table word spells is put at the front of the queue; no word spells one (log 25). -/
def State.withFetchWord (s : State) (nbits w : Nat) : State :=
  match decodeTableWord nbits w with
  | some c => s.withQueue (c :: s.pending)
  | none => s

end Sys2Proof.Machine
end

