-- ==== Sys2Proof/Safety.lean ====
section
/-! DEFINITION. What counts as a safe state: the laws the manual states of the machine as a whole, each as a predicate
of one state, and the words that the statements use. -/

namespace Sys2Proof.Machine

/-! ### Words of the statements -/

/-- RESET_N is high (R8, R17). -/
def State.on (s : State) : Prop := s.resetLow = false

/-- RESET_N is high, and the device access `r`, which is for `p`, is in progress at memory (R9). -/
def State.serves (s : State) (p : Purpose) (r : DevReq) : Prop :=
  s.resetLow = false ∧ s.port.granted = some (.device r) ∧ r.purpose = p

/-- RESET_N is high, and the Host Port holds the record `r` of a write that ended OK (R7). -/
def State.offers (s : State) (r : WriteRecord) : Prop := s.resetLow = false ∧ s.host = .handoff r ∧ r.ok = true

/-- The state when the latch and slot words of the record have been applied, before its command arrives (R22, R47). -/
def State.wordsTaken (s : State) (r : WriteRecord) : State :=
  applySlots r.words (applyLatches r.words { s with host := .idle })

/-- RESET_N is high, and the lane report `ws` ends with the good frame `f` (R86, R88); `rx` is the receiver after it. -/
def State.hears (s : State) (ws : List LinkWord) (rx : LaneRx) (f : Frame) : Prop :=
  s.resetLow = false ∧ goodFrame s ws = some (rx, f)

/-- The row of the opcode table for a command code (section 2.7). -/
def commandRow : Nat → Instr
  | 1 => .echo
  | 2 => .loadChannel
  | 3 => .stopChannel
  | 4 => .linkEnable
  | 5 => .linkDisable
  | 6 => .eventsStart
  | 7 => .eventsStop
  | 8 => .snapshot
  | _ => .badCommand

/-- The code of a command word (section 2.4). -/
def commandCode (w : Word) : Nat := bits w 0 8

/-- The record in HANDOFF brings the command `c`, with command word `w`, to two empty places; `s2` is the state as it
starts (R22, R24, R26). -/
def State.starts (s : State) (r : WriteRecord) (w : Word) (c : Command) (s2 : State) : Prop :=
  s.offers r ∧ r.command? s.wm = some w ∧ (s.wordsTaken r).cmd = ⟨none, none⟩ ∧ c = commandOf w (s.wordsTaken r).wm
    ∧ s2 = { s.wordsTaken r with cmd := ⟨some ⟨c, .running⟩, none⟩ }

/-- The executing command `c` has ended RUNNING with a result and a detail: phase DETAIL, and the detail word's write is
requested (R26, R27). -/
def State.answers (s : State) (c : Command) (res : Result) (d : Word) : State :=
  { s with cmd := { s.cmd with executing := some ⟨c, .detail res d⟩ },
           reqs := { s.reqs with command := some ⟨.respDetail, true, s.wm.base + 0x14, [⟨15#4, d⟩]⟩ } }

/-- The record in HANDOFF is one word with an enabled byte, at word offset `off` of slot `i` of channel `c` (R45). -/
def State.slotWrite (s : State) (w : RecordWord) (c : Chan) (i off : Nat) : Prop :=
  w.be ≠ 0#4 ∧ (∃ a, s.offers ⟨a, [w], true⟩)
    ∧ s.wm.classify w.addr = (if off = 0 then WordClass.header0 c i else WordClass.slot c i off)

/-- The word writes a byte at word offset `off` of slot `i` of channel `c` (R45). -/
def State.writesSlot (s : State) (w : RecordWord) (c : Chan) (i off : Nat) : Prop :=
  w.be ≠ 0#4 ∧ s.wm.classify w.addr = (if off = 0 then WordClass.header0 c i else WordClass.slot c i off)

/-- The word is an ownership violation of slot `i` of channel `c`: the slot is device-owned, and the word is no
qualifying write to its header word 0 (R52). -/
def State.violates (s : State) (w : RecordWord) (c : Chan) (i : Nat) : Prop :=
  hostOwns c i s = false ∧
    ∃ off, s.writesSlot w c i off ∧ ¬ (off = 0 ∧ w.be = 15#4 ∧ w.data.getLsbD 31 = true)

/-- The rows that take the record in HANDOFF (log 9). -/
def recordRows : List Instr :=
  [.completedWriteRecord, .argumentWordWrite, .consumerIndexWrite, .interruptControlWrite, .echo, .loadChannel,
    .stopChannel, .linkEnable, .linkDisable, .eventsStart, .eventsStop, .snapshot, .badCommand]

/-- The slot record `i` of outbound channel `c` after its commit's length and notify bit have been recorded and the
channel's handovers taken counter raised (R54, R56). -/
def State.committing (s : State) (c : Chan) (i len : Nat) (notify : Bool) : State :=
  { s with
    cap := s.cap.onSlot c i (fun x => { x with length := len, notify := notify })
    ev := { s.ev with counters := s.ev.counters.handover c } }

/-- The row that ends a device access, by what it is for. -/
def Purpose.endRow (p : Purpose) (e : AccessEnd) : Instr :=
  match p with
  | .landPayload => .landingPayloadWriteEnd e
  | .landHeader => .landingHeaderWriteEnd e
  | .landWord0 => .landingWord0WriteEnd e
  | .staging _ => .stagingReadEnd e
  | .refetch _ => .refetchReadEnd e
  | .wbHeader => .writebackHeaderBurstEnd e
  | .wbWord0 => .writebackWord0End e
  | .respDetail => .responseDetailWriteEnd e
  | .respWord => .responseWordWriteEnd e
  | .ring .event => .eventRecordWriteEnd e
  | .ring (.lost _) => .eventsLostWriteEnd e
  | .ring .producer => .producerWriteEnd e
  | .ring .start => .startProducerWriteEnd e
  | .snapshot => .snapshotBurstEnd e
  | .linkStatus => .linkStatusWriteEnd e
  | .channelRecord _ => .channelRecordReadEnd e
  | .linkRecord => .linkRecordReadEnd e

/-- The write in progress at memory: its start address and words (R9). -/
def State.writeInHand (s : State) : Option (Nat × List BusWord) :=
  match s.port.granted, s.host with
  | some (.device r), _ => if r.write then some (r.addr, r.words) else none
  | some .host, .transfer a => if a.write then some (a.start, a.words) else none
  | _, _ => none

/-- Byte address `x` is an enabled byte of the write `w` (R1). -/
def enabledByte (w : Nat × List BusWord) (x : Nat) : Prop :=
  ∃ k ∈ recordWords w.1 w.2, ∃ j, j < 4 ∧ k.be.getLsbD j = true ∧ x = k.addr + j

/-- Every slot state of outbound channel `c`, in ring order from slot 0. -/
def State.outStates (s : State) (c : Chan) : List OutState := s.cap.rings[c].slots.map (·.state)

/-- The state after the entry to SYNC from `s` (R95). -/
def State.entersSync (s : State) : State :=
  callStatus { s with link := { s.link with
    state := .sync, changes := s.link.changes + 1, localEpoch := s.link.localEpoch + 1, heard := none
    syncTimer := some s.link.syncInterval, initTimer := some 100, initRequest := true } }

/-- The frame has the fields that section 5.2 allows. -/
def Frame.inRange : Frame → Prop
  | .data _ _ _ payload => 1 ≤ payload.length ∧ payload.length ≤ 1008
  | .ack _ refusals => refusals.length ≤ 32
  | .nak _ => True
  | .credit _ _ _ _ => True
  | .init _ _ => True

/-- The link words that put the frame with the given data words on the lane, and an idle word after it (R83). -/
def sendWords (ws : List Word) : List (Option LinkWord) :=
  (LinkWord.startMark :: ws.map LinkWord.data ++ [LinkWord.endMark, LinkWord.idle]).map some

/-- The frame `f` is on the outgoing lane, sent from a buffer if it is a DATA frame (R83, R87, R104). -/
def State.sends (s : State) (f : Frame) (b : Option Buf) : State :=
  { s with
    tx := { s.tx with sending := some ⟨f.body ++ [crcWords f.body], b⟩ }
    laneOut := if s.link.state = .off then [none] else sendWords (f.body ++ [crcWords f.body]) }

/-- The refusal mark of a replay entry after an ACK with the refusal entries `rs`: the last one for its sequence
(R110). -/
def ReplayEntry.markedBy (rs : List RefusalEntry) (x : ReplayEntry) : ReplayEntry :=
  { x with mark := ((rs.filter (fun r => decide (r.seq = x.seq))).getLast?.map (·.reason)).or x.mark }

/-- The landing queue's head is `e` with the landing `l`, with `rest` behind it (R146). -/
def State.lands (s : State) (e : LandEntry) (l : Landing) (rest : List LandEntry) : Prop :=
  s.land.queue = e :: rest ∧ e.verdict = .landing l

/-! ### Laws -/

/-- Every step from a state with the property leads to a state with it. -/
def StepKeeps (P : State → Prop) : Prop := ∀ s t : State, P s → step s = .next t → P t

/-- Memory is in its canonical form. -/
def MemoryLaw (s : State) : Prop := memWf s.mem = true

/-- The law of the interrupt line (R175). -/
def InterruptLaw (s : State) : Prop := s.intOut = intLevel s.ev s.wm

/-- The outgoing lane (R83): silent in OFF; otherwise the frame being sent and an idle word after it, or idle words. -/
def LaneOutLaw (s : State) : Prop :=
  (s.link.state = .off → s.laneOut = [none])
  ∧ (s.link.state ≠ .off →
    (s.tx.sending = none → s.laneOut = [some .idle])
    ∧ ∀ x, s.tx.sending = some x → s.laneOut = sendWords x.words)

/-- The part of the pool's law that bounds capture (R59): at most 14 buffers are bound for capture. -/
def CaptureLaw (s : State) : Prop := s.cap.captureCount ≤ Config.captureBindLimit

/-- The credit law (R136): once the advertised total of a destination is known, the sent total is never ahead of it,
and available credit stays within the bound of R135. -/
def CreditLaw (s : State) : Prop := ∀ d : Chan, (s.cred.send[d]).available ≤ 32767

/-- The mailbox: a command waits only behind an executing one (R24, R29). -/
def MailboxLaw (s : State) : Prop := s.cmd.executing = none → s.cmd.waiting = none

/-- The Host Port is in TRANSFER. -/
def HostPort.inTransfer : HostPort → Bool
  | .transfer _ => true
  | .idle => false
  | .held _ => false
  | .waiting _ => false
  | .handoff _ => false

/-- The Host Port is in HELD. -/
def HostPort.isHeld : HostPort → Bool
  | .held _ => true
  | .idle => false
  | .transfer _ => false
  | .waiting _ => false
  | .handoff _ => false

/-- The Host Port is in TRANSFER exactly while its access is granted, and the response timer runs exactly while an
access is granted (R3, R9, R13). -/
def PortLaw (s : State) : Prop :=
  (s.port.granted = some .host ↔ s.host.inTransfer = true) ∧ s.port.timer.isSome = s.port.granted.isSome

/-- With RESET_N high no access stays presented in IDLE (R3). -/
def PresentedLaw (s : State) : Prop := s.resetLow = false → s.host = .idle → s.presented = none

/-- The Landing Engine holds a read, with at least one holding slot, exactly while the Host Port is in HELD (R6, R153,
R154). -/
def HeldLaw (s : State) : Prop :=
  s.land.heldRead.isSome = s.host.isHeld ∧ ∀ h, s.land.heldRead = some h → h.slots ≠ []

/-- The control frame queue holds no two requests of one kind, nor two CREDIT requests for one channel (R105). -/
def ControlQueueLaw (s : State) : Prop := s.tx.queue.Nodup

/-- The bounds of the internal event queue, the landing queue and the replay list (R108, R146, R163). -/
def QueueLaw (s : State) : Prop :=
  s.ev.queue.length ≤ Config.eventPlaces ∧ s.land.queue.length ≤ Config.landingPlaces
    ∧ s.tx.replay.length ≤ Config.replayLimit

/-- The entries have consecutive sequences in list order, and the last one has the sequence before `next` (R108). -/
def consecutive : List ReplayEntry → Seq → Prop
  | [], _ => True
  | x :: rest, next => x.seq + BitVec.ofNat 12 (rest.length + 1) = next ∧ consecutive rest next

/-- The order law of the replay list (R108). -/
def ReplayOrderLaw (s : State) : Prop := consecutive s.tx.replay s.tx.nextSeq

/-- The receive record's generation is the Window Matcher's (R34, R128). -/
def GenerationLaw (s : State) : Prop := ∀ c : Chan, (s.cred.recv[c]).generation = (s.wm.chans[c]).generation

/-- The ring of the Event Unit: installed exactly while the unit is not STOPPED, 16 to 1024 records, the producer index
below the size (R163, R173, R174). -/
def EventRingLaw (s : State) : Prop :=
  match s.ev.ringCfg with
  | some r => s.ev.run ≠ .stopped ∧ 16 ≤ r.size ∧ r.size ≤ 1024 ∧ s.ev.producer < r.size
  | none => s.ev.run = .stopped

/-- The area of a channel shares no byte with another range of `n` bytes from `a`. -/
def ChanCfg.clearOf (cfg : ChanCfg) (a n : Nat) : Prop := rangesMeet cfg.base cfg.bytes a n = false

/-- Channels that are not OFF are apart (R37, R173): no area meets the control block, another channel's area or the
installed event ring, and no two outbound channels have one destination. Before the straps are sampled every channel is
OFF. -/
def AreasLaw (s : State) : Prop :=
  (s.resetLow = true → ∀ c, s.wm.cfg? c = none) ∧
  ∀ c cfg, s.wm.cfg? c = some cfg →
    cfg.clearOf s.wm.base 0x1000
    ∧ (∀ r, s.ev.ringCfg = some r → cfg.clearOf r.base (16 * r.size))
    ∧ ∀ d cfg', d ≠ c → s.wm.cfg? d = some cfg' →
        cfg.clearOf cfg'.base cfg'.bytes ∧ (cfg.dest? = none ∨ cfg.dest? ≠ cfg'.dest?)

end Sys2Proof.Machine
end

