-- ==== Sys2Proof/Certificates/Slice0/Obligations.lean ====
section
/-! DEFINITION. The statements for the provers. "Log n" names a row of the assumption log. -/

open Sys2Proof Sys2Proof.Machine

/-! ### Steps, reset, time -/

/-- A step runs the command at the front of the queue on the state with the queue's rest; on an empty queue it is one
tick (the model's choice: log 1). -/
def Obligations.StepTakesFront : Prop :=
  (∀ (s : State) (c : Instr) (rest : List Instr), s.pending = c :: rest → step s = exec c { s with pending := rest })
  ∧ ∀ s : State, s.pending = [] → step s = .next (tick s)

/-- One microsecond: the Timebase advances, every running timer counts it, nothing else changes; none passes while
RESET_N is low or a timer is due (the model's choice: log 1, log 12). -/
def Obligations.IdleMicrosecond : Prop := ∀ s : State, s.pending = [] →
  ((s.resetLow = true ∨ anyTimerDue s = true) → step s = .next s) ∧
  (s.on → anyTimerDue s = false → step s = .next { s with
    timebase := s.timebase + 1
    port := { s.port with timer := s.port.timer.map (· - 1) }
    link := { s.link with syncTimer := s.link.syncTimer.map (· - 1), initTimer := s.link.initTimer.map (· - 1) }
    tx := { s.tx with ackTimer := s.tx.ackTimer.map (· - 1) }
    land := { s.land with
      ackDelay := s.land.ackDelay.map (· - 1)
      heldRead := s.land.heldRead.map (fun h => { h with timer := h.timer - 1 }) }
    cred := { s.cred with refresh := s.cred.refresh.map (· - 1) } })

/-- The values the manual gives for pin reset, unit by unit; the one among them that is the model's choice is that no
host access stays presented (log 36).

PIN_RESET: every unit in its first state; memory keeps what it holds, but a write in TRANSFER that is abandoned may
have reached it in part, and the operand says which of its words did (log 6). The outgoing lane is silent (R83). The
model's choices in the state it leaves: no access presented (log 36); no slots and both cursors 0 in the rings of the
channels, which are not loaded (log 40); `State.reset` with RESET_N low and the anchor 0
until the straps are sampled (log 3); no answer kept of an earlier access (log 27); the count of free values (log 7) and
the queue of waiting commands kept. -/
def Obligations.ResetValues : Prop :=
  (let s := State.reset
  (s.host = .idle ∧ s.presented = none ∧ s.port.granted = none ∧ s.port.timer = none ∧ s.port.lastSide = .device
    ∧ s.port.last3 = .link
    ∧ s.port.last4 = .link ∧ s.reqs = ⟨none, none, none, none, none, none, none, none⟩)
  ∧ (s.wm.arg1 = 0#32 ∧ s.wm.arg2 = 0#32 ∧ s.wm.arg3 = 0#32 ∧ s.wm.consumer = 0#32 ∧ s.wm.intEnable = 0#32
    ∧ ∀ c : Chan, s.wm.chans[c] = ⟨.off, 0#8⟩)
  ∧ (s.cmd.executing = none ∧ s.cmd.waiting = none)
  ∧ ((∀ b : Buf, s.cap.bufs[b] = ⟨.free, none, none, []⟩) ∧ (∀ c : Chan, s.cap.rings[c].slots = [])
    ∧ s.cap.lastGranted = 15 ∧ s.cap.jobs = [] ∧ s.cap.wbQueue = [])
  ∧ (s.link.state = .off ∧ s.link.localEpoch = 0#8 ∧ s.link.heard = none ∧ s.link.params = none
    ∧ s.link.lastCause = .none ∧ s.link.syncTimer = none ∧ s.link.initTimer = none ∧ s.link.initRequest = false
    ∧ s.link.acks = 0 ∧ s.link.changes = 0#8 ∧ s.link.rx.lock = false)
  ∧ s.tx = ⟨[], 0#12, none, none, none, [], 15, none, [], []⟩
  ∧ (s.land.expected = 0#12 ∧ s.land.queue = [] ∧ s.land.disposed = none ∧ s.land.refusals = []
    ∧ s.land.nakFlag = false ∧ s.land.batch = 0 ∧ s.land.ackDelay = none ∧ s.land.heldRead = none ∧ s.land.inbox = []
    ∧ ∀ c : Chan, s.land.rings[c].slots = [])
  ∧ ((∀ c : Chan, s.cred.recv[c] = ⟨0#8, .none, false⟩) ∧ (∀ d : Chan, s.cred.send[d] = ⟨0#16, none, none, .unknown⟩)
    ∧ s.cred.refresh = none ∧ s.cred.inbox = [])
  ∧ (s.ev.run = .stopped ∧ s.ev.ringCfg = none ∧ s.ev.producer = 0 ∧ s.ev.queue = [] ∧ s.ev.lostCount = 0#32
    ∧ s.ev.lostHold = false ∧ s.ev.ring = none ∧ s.ev.snap = none ∧ s.ev.lastAccess = .snapshot
    ∧ s.ev.counters = ⟨Vector.replicate 16 ⟨0#32, 0#32, 0#32, 0#32⟩, 0#32, 0#32, 0#32, 0#32, 0#32, 0#32, 0#32, 0#32,
        0#32, 0#32, 0#32⟩ ∧ s.intOut = false ∧ s.laneOut = [none]))
  ∧ (∀ (kept : List Bool) (s : State),
  ∃ m, exec (.pinReset kept) s = .next { State.reset with mem := m, free := s.free, pending := s.pending }
    ∧ (∀ w, s.writeInHand = some w → m = memWriteBurst s.mem w.1 w.2 kept)
    ∧ (s.writeInHand = none → m = s.mem))

/-- The anchor is ANCHOR × 0x100_0000 of the straps as RESET_N is released, and no command but PIN_RESET and
RESET_N_RELEASE changes it (R18). A select that the host presents at the release is then taken as an arrival (R8;
`arriveNext` is opened in HostArrivals). -/
def Obligations.AnchorFromStraps : Prop :=
  (∀ (straps : BitVec 4) (s : State), s.resetLow = true →
    ∃ t, exec (.resetNRelease straps) s = .next t ∧ t.wm.base = straps.toNat * 0x1000000
      ∧ t = arriveNext { s with resetLow := false, timebase := 0#32, wm := { s.wm with anchor := straps } })
  ∧ (∀ (straps : BitVec 4) (s : State), s.on → exec (.resetNRelease straps) s = .next s)
  ∧ ∀ (c : Instr) (s t : State), (∀ kept, c ≠ .pinReset kept) → (∀ straps, c ≠ .resetNRelease straps) →
      exec c s = .next t → t.wm.anchor = s.wm.anchor

/-- While RESET_N is low no command but PIN_RESET and RESET_N_RELEASE has an effect, but that an access the host
presents stays presented (R8, R17). The model's choices: every command that the ports can present completes in every
state, a step that cannot take place leaving the state as it is (log 2); an arrival with a burst length other than 1,
2, 4 or 8 stops by name (log 22). -/
def Obligations.LowAndStops : Prop :=
  (∀ (c : Instr) (s : State), s.resetLow = true → c.wf = true → (∀ kept, c ≠ .pinReset kept) →
    (∀ straps, c ≠ .resetNRelease straps) →
      ((∀ a es, c ≠ .hostReadArrival a es) → (∀ a ws, c ≠ .hostWriteArrival a ws) → exec c s = .next s)
      ∧ ∃ p, exec c s = .next { s with presented := p })
  ∧ (∀ (c : Instr) (s : State), c.wf = true → ∃ t, exec c s = .next t)
  ∧ (∀ (a : BitVec 26) (es : List (BitVec 4)) (s : State), burstLengthOk es.length = false →
      exec (.hostReadArrival a es) s = .fault .burstLength)
  ∧ ∀ (a : BitVec 26) (ws : List BusWord) (s : State), burstLengthOk ws.length = false →
      exec (.hostWriteArrival a ws) s = .fault .burstLength

/-! ### Bus -/

/-- A host access presented in IDLE is taken: a write goes to WAITING, a read to WAITING or, held, to HELD. In any other
Host Port state, and while RESET_N is low, nothing is taken: the access stays presented (one at a time: log 2). It
arrives by `arriveNext` when the Host Port next enters IDLE: at the end of a host read (HostAccessEnds,
MemoryResponseLimit), when a record has been taken (RecordTaken), at RESET_N_RELEASE (R3, R5, R8).

The read guard: a word with an enabled byte in a LANDING slot of an INBOUND channel that is not OFF and has a guard
limit above 0 makes that slot a holding slot; the verdict is pass exactly when there is none; the holding list has no
repeats and is in burst order, each slot at its first word; the timer is the smallest guard limit among the holding
slots (R46, R153; log 21 for a word whose enables are clear). -/
def Obligations.HostArrivals : Prop :=
  (∀ (a : BitVec 26) (s : State),
    let free := s.on ∧ s.host = .idle
    (∀ ws : List BusWord, burstLengthOk ws.length = true →
      let x : HostAccess := ⟨true, a, ws⟩
      (free → exec (.hostWriteArrival a ws) s = .next { s with host := .waiting x })
      ∧ (¬ free → exec (.hostWriteArrival a ws) s = .next { s with presented := s.presented.or (some x) }))
    ∧ ∀ es : List (BitVec 4), burstLengthOk es.length = true →
      let x : HostAccess := ⟨false, a, es.map (fun be => ⟨be, 0#32⟩)⟩
      (free → guardVerdict (recordWords x.start x.words) s = none →
        exec (.hostReadArrival a es) s = .next { s with host := .waiting x })
      ∧ (∀ h, free → guardVerdict (recordWords x.start x.words) s = some h →
        exec (.hostReadArrival a es) s = .next { s with host := .held x, land := { s.land with heldRead := some h } })
      ∧ (¬ free → exec (.hostReadArrival a es) s = .next { s with presented := s.presented.or (some x) }))
  ∧ (∀ s : State, ((s.host ≠ .idle ∨ s.presented = none) → arriveNext s = s)
    ∧ ∀ x, s.host = .idle → s.presented = some x →
      let verdict := guardVerdict (recordWords x.start x.words) s
      ((x.write = true ∨ verdict = none) → arriveNext s = { s with presented := none, host := .waiting x })
      ∧ ∀ h, x.write = false → verdict = some h →
        arriveNext s = { s with presented := none, host := .held x, land := { s.land with heldRead := some h } })
  ∧ ((∀ (s : State) (w : RecordWord) (c : Chan) (i g : Nat),
    holdingSlot? s w = some ((c, i), g) ↔
      ∃ cfg x, (s.wm.classify w.addr = .header0 c i ∨ ∃ off, s.wm.classify w.addr = .slot c i off)
        ∧ s.wm.cfg? c = some cfg ∧ cfg.isInbound = true ∧ g = cfg.guardLimit ∧ 0 < g
        ∧ s.land.slot? c i = some x ∧ x.state = .landing ∧ w.be ≠ 0#4)
  ∧ ∀ (ws : List RecordWord) (s : State),
    (guardVerdict ws s = none ↔ ∀ w ∈ ws, holdingSlot? s w = none)
    ∧ ∀ h, guardVerdict ws s = some h →
      h.slots.Nodup
      ∧ (∀ p, p ∈ h.slots ↔ ∃ w ∈ ws, ∃ g, holdingSlot? s w = some (p, g))
      ∧ (∀ w ∈ ws, ∀ p g, holdingSlot? s w = some (p, g) → h.timer ≤ g)
      ∧ (∃ w ∈ ws, ∃ p, holdingSlot? s w = some (p, h.timer))
      ∧ ∀ w front, ws = front ++ [w] →
        let before := (guardVerdict front s).elim [] (·.slots)
        (∀ p g, holdingSlot? s w = some (p, g) → p ∉ before → h.slots = before ++ [p])
        ∧ ((∀ p g, holdingSlot? s w = some (p, g) → p ∈ before) → h.slots = before))

/-- One decision of the arbiter at a free port: the only side that waits is granted, and when both wait the side that
did not have the last grant; that side becomes the last one (R11). The grant starts the response timer (R13), and a
device grant takes the request of its class and owner, who becomes the last one granted in it. A port that is not free,
or that nobody waits for, is left alone. After pin reset the last side is device and the last owners are the last listed
(R11, R12).

The device request that goes first: the lowest class; within classes 3 and 4 the first owner, going round from the
one after the last granted, that has a request waiting (R12); the orders are written out owner by owner. -/
def Obligations.Arbitration : Prop :=
  ((State.reset.port.lastSide = .device ∧ State.reset.port.last3 = .link ∧ State.reset.port.last4 = .link)
  ∧ ∀ s : State, s.on →
  let dev := pickDevice s.reqs s.port.last3 s.port.last4
  (s.port.granted ≠ none → exec .memoryGrant s = .next s)
  ∧ (s.port.granted = none →
    (s.host.request? = none → dev = none → exec .memoryGrant s = .next s)
    ∧ (∀ a, s.host.request? = some a → (dev = none ∨ s.port.lastSide = .device) →
        exec .memoryGrant s = .next { s with
          host := .transfer a
          port := { s.port with granted := some .host, lastSide := .host, timer := some 100 } })
    ∧ ∀ r, dev = some r → (s.host.request? = none ∨ s.port.lastSide = .host) →
        exec .memoryGrant s = .next { s with
          port := ⟨some (.device r), .device, r.purpose.recordOwner?.getD s.port.last3,
            r.purpose.tableOwner?.getD s.port.last4, some 100⟩
          reqs := s.reqs.clear r.purpose
          land := { s.land with
            queue := if r.purpose = .landPayload then markBegun s.land.queue else s.land.queue } }))
  ∧ (∀ (q : Requests) (l3 : RecordOwner) (l4 : TableOwner),
  (∀ r, q.landing = some r → pickDevice q l3 l4 = some r)
  ∧ (∀ r, q.landing = none → q.captureRead = some r → pickDevice q l3 l4 = some r)
  ∧ (q.landing = none → q.captureRead = none →
    (∀ o r first rest, recordOrder l3 = first ++ o :: rest → (∀ p ∈ first, q.ofRecordOwner p = none) →
      q.ofRecordOwner o = some r → pickDevice q l3 l4 = some r)
    ∧ ((∀ o, q.ofRecordOwner o = none) →
      (∀ o r first rest, tableOrder l4 = first ++ o :: rest → (∀ p ∈ first, q.ofTableOwner p = none) →
        q.ofTableOwner o = some r → pickDevice q l3 l4 = some r)
      ∧ ((∀ o, q.ofTableOwner o = none) → pickDevice q l3 l4 = none))))
  ∧ (recordOrder .capture = [.command, .event, .link, .capture]
    ∧ recordOrder .command = [.event, .link, .capture, .command]
    ∧ recordOrder .event = [.link, .capture, .command, .event]
    ∧ recordOrder .link = [.capture, .command, .event, .link]
    ∧ tableOrder .matcher = [.link, .matcher] ∧ tableOrder .link = [.matcher, .link])

/-- The end of the host access in TRANSFER: a read returns memory's words and the Host Port enters IDLE, where a
presented access arrives (`arriveNext`, opened in HostArrivals); a write reaches memory, and
the Host Port enters HANDOFF with its record, which carries the end status; the port is free (R3, R4, R7, R13, R14). On
FAULT the operand says which words of a write memory kept and what a read returned (log 6, log 8);
memory takes a write when it ends (log 4), and lanes with a clear enable read a free value (log 7). -/
def Obligations.HostAccessEnds : Prop := ∀ (s : State) (a : HostAccess), s.on → s.port.granted = some .host →
  s.host = .transfer a →
  let free (h : HostPort) (m : List Host.Cell) (x : HostAnswer) : State :=
    { s with host := h, mem := m, answer := some x, port := { s.port with granted := none, timer := none },
             free := s.free + a.words.length }
  (a.write = false →
    exec (.hostAccessEnd .ok) s = .next
      (arriveNext (free .idle s.mem
        ⟨false, answerWords s.free a.words (memReadBurst s.mem a.start a.words.length), true⟩))
    ∧ ∀ kept data, exec (.hostAccessEnd (.fault kept data)) s = .next
        (arriveNext (free .idle s.mem ⟨false, answerWords s.free a.words data, false⟩)))
  ∧ (a.write = true →
    exec (.hostAccessEnd .ok) s = .next
      (free (.handoff ⟨a.start, recordWords a.start a.words, true⟩)
        (memWriteBurst s.mem a.start a.words (List.replicate a.words.length true)) ⟨true, [], true⟩)
    ∧ ∀ kept data, exec (.hostAccessEnd (.fault kept data)) s = .next
        (free (.handoff ⟨a.start, recordWords a.start a.words, false⟩) (memWriteBurst s.mem a.start a.words kept)
          ⟨true, [], false⟩))

/-- What a host access ended OK does byte by byte, for word `i`, lane `j` with its enable set: a read returns the byte
memory holds at the word's address plus `j`; after a write memory holds lane `j` of the word there. Word `i` has the
byte address of the start plus 4 × i modulo 256 MiB (R1, R4). `MemoryLaw` is an invariant, stated below.

No command changes a byte of memory but the enabled bytes of the write in progress at memory (R1, R4, R9, R17). -/
def Obligations.MemoryBytes : Prop :=
  (∀ (s : State) (a : HostAccess) (i j : Nat) (b : BusWord), MemoryLaw s → s.on →
  s.port.granted = some .host → s.host = .transfer a → a.words.length ≤ 8 → a.words[i]? = some b → j < 4 →
  b.be.getLsbD j = true →
  let x := (a.start + 4 * i) % 268435456 + j
  ∃ t, exec (.hostAccessEnd .ok) s = .next t
    ∧ (a.write = false → ∃ ans w, t.answer = some ans ∧ ans.data[i]? = some w ∧ lane w j = memRead s.mem x)
    ∧ (a.write = true → memRead t.mem x = lane b.data j))
  ∧ (∀ (c : Instr) (s t : State) (x : Nat), exec c s = .next t →
  (∀ w, s.writeInHand = some w → ¬ enabledByte w x) → memRead t.mem x = memRead s.mem x)

/-- The memory response limit: a due timer ends the access with FAULT. A host read is answered with memory's words and
zeros for those it did not answer, and a presented access then arrives (R3); a host write goes through HANDOFF with
FAULT, and a device access ends as its row with FAULT does; a timer that is not due ends nothing (R13, R14, R15; log
12). -/
def Obligations.MemoryResponseLimit : Prop := ∀ (kept : List Bool) (answered : List Word) (s : State), s.on →
  (s.port.timer ≠ some 0 → exec (.memoryResponseTimeout kept answered) s = .next s)
  ∧ (s.port.timer = some 0 →
    (∀ a, s.port.granted = some .host → s.host = .transfer a →
      exec (.memoryResponseTimeout kept answered) s = .next (arriveNext { s with
        host := if a.write then .handoff ⟨a.start, recordWords a.start a.words, false⟩ else .idle
        answer := some ⟨a.write, if a.write then [] else
          (answerWords s.free a.words answered).take (min answered.length a.words.length)
            ++ List.replicate (a.words.length - answered.length) 0#32, false⟩
        port := { s.port with granted := none, timer := none }
        mem := if a.write then memWriteBurst s.mem a.start a.words kept else s.mem
        free := s.free + a.words.length }))
    ∧ ∀ r, s.port.granted = some (.device r) →
      exec (.memoryResponseTimeout kept answered) s = exec (r.purpose.endRow (.fault kept answered)) s)

/-! ### Mailbox (Chapter 2) -/

/-- The Window Matcher takes the record in HANDOFF whole and the Host Port enters IDLE: a record that ended with FAULT
has no effect, one that ended OK has its latch words, its slot words and its command applied (R7, R14, R22, R47). The
row of a latch word or of a command that the record holds is that same taking (the model's choice: log 9, log 10). The
command of a record is its word at the anchor with all four byte enables set; without one no command arrives (R23).
Last, with the record's effects in place, an access that the host presents arrives (R3, R7; `arriveNext`:
HostArrivals). -/
def Obligations.RecordTaken : Prop := ∀ s : State, s.on →
  (∀ r, s.host = .handoff r → r.ok = false → exec .completedWriteRecord s =
    .next (arriveNext { s with host := .idle }))
  ∧ ((∀ r, s.host ≠ .handoff r) → exec .completedWriteRecord s = .next s)
  ∧ (∀ (r : WriteRecord) (m : Matcher),
    let arrives (w : RecordWord) := w.addr = m.base ∧ w.be = 15#4
    ((∀ w ∈ r.words, ¬ arrives w) → r.command? m = none)
    ∧ ∀ front w back, r.words = front ++ w :: back → arrives w → (∀ v ∈ front, ¬ arrives v) →
      r.command? m = some w.data)
  ∧ ∀ r, s.offers r →
    let t := arriveNext (applyCommand r (applySlots r.words (applyLatches r.words { s with host := .idle })))
    (r.command? s.wm = none → t = arriveNext (s.wordsTaken r))
    ∧ exec .completedWriteRecord s = .next t
    ∧ (r.writes ControlWord.isArgument s.wm = true → exec .argumentWordWrite s = .next t)
    ∧ (r.writes (fun k => decide (k = .consumer)) s.wm = true → exec .consumerIndexWrite s = .next t)
    ∧ (r.writes (fun k => decide (k = .intEnable)) s.wm = true → exec .interruptControlWrite s = .next t)
    ∧ ∀ w, r.command? s.wm = some w → exec (commandRow (commandCode w)) s = .next t

/-- A latch takes the enabled bytes of every write to its word that ends OK, in burst order, and keeps its others. Only
the taking of a record changes a latch, but for PIN_RESET and the start of a waiting EVENTS_START at the end of a
response word write, which clears the consumer latch (R20, R21, R22, R28, R173).

A record of one latch word: what it changes, and that nothing else changes but that a presented access arrives
(`arriveNext`, opened in HostArrivals). An argument word changes its latch; interrupt control its latch and INT_OUT;
the consumer index its latch and what the Event Unit does at its change (a write with any byte enabled is a change:
log 17): in RUNNING the hold clears; a record write that waits ungranted and finds no room any more is withdrawn;
INT_OUT follows; the unit chooses, and a drain with nothing left ends (R20, R21, R168, R171, R175). -/
def Obligations.LatchWrites : Prop :=
  ((∀ (old d : Word) (be : BitVec 4) (j : Nat), j < 4 →
    lane (mergeWord old be d) j = if be.getLsbD j then lane d j else lane old j)
  ∧ ∀ (s t : State) (r : WriteRecord), s.offers r → exec .completedWriteRecord s = .next t →
    let taken (off : Nat) (old : Word) : Word :=
      (r.words.filter (fun w => decide (w.addr = s.wm.base + off))).foldl (fun v w => mergeWord v w.be w.data) old
    t.wm.arg1 = taken 0x4 s.wm.arg1 ∧ t.wm.arg2 = taken 0x8 s.wm.arg2 ∧ t.wm.arg3 = taken 0xC s.wm.arg3
    ∧ t.wm.intEnable = taken 0x24 s.wm.intEnable
    ∧ (t.wm.consumer = taken 0x20 s.wm.consumer ∨ t.wm.consumer = 0#32)
    ∧ ((∀ w, r.command? s.wm = some w → commandCode w ≠ 6) → t.wm.consumer = taken 0x20 s.wm.consumer))
  ∧ (∀ (c : Instr) (s t : State), (∀ kept, c ≠ .pinReset kept) → c ∉ recordRows → exec c s = .next t →
    t.wm.arg1 = s.wm.arg1 ∧ t.wm.arg2 = s.wm.arg2 ∧ t.wm.arg3 = s.wm.arg3 ∧ t.wm.intEnable = s.wm.intEnable
    ∧ (t.wm.consumer = s.wm.consumer ∨ (t.wm.consumer = 0#32 ∧ (∃ w, s.cmd.waiting = some w ∧ w.code = 6#8)
      ∧ ((∃ e, c = .responseWordWriteEnd e) ∨ ∃ kept answered, c = .memoryResponseTimeout kept answered))))
  ∧ (∀ u : State,
    let waits := ∃ w, u.ev.ring = some w ∧ (w.kind = .event ∨ ∃ n, w.kind = .lost n)
    let granted := ∃ q k, u.port.granted = some (.device q) ∧ q.purpose = .ring k
    let full := ∀ r, u.ev.ringCfg = some r → (u.ev.producer + 1) % r.size = u.wm.consumer.toNat
    let held := u.ev.lostHold && decide (u.ev.run ≠ .running)
    let level :=
      decide (u.ev.run = .running) && u.wm.intEnable.getLsbD 0 && decide (u.ev.producer ≠ u.wm.consumer.toNat)
    let left := u.reqs.event.bind (fun q => match q.purpose with
      | .ring _ => none
      | _ => some q)
    (waits → ¬ granted → full → consumerChanged u = finishDrain (runRing { u with
      intOut := level, ev := { u.ev with lostHold := held, ring := none }, reqs := { u.reqs with event := left } }))
    ∧ ((¬ waits ∨ granted ∨ ¬ full) → consumerChanged u = finishDrain (runRing { u with
      intOut := level, ev := { u.ev with lostHold := held } })))
  ∧ (∀ (s : State) (w : RecordWord) (a : Nat), w.be ≠ 0#4 →
  s.offers ⟨a, [w], true⟩ →
  (w.addr = s.wm.base + 0x4 → exec .argumentWordWrite s = .next (arriveNext
    { s with host := .idle, wm := { s.wm with arg1 := mergeWord s.wm.arg1 w.be w.data } }))
  ∧ (w.addr = s.wm.base + 0x8 → exec .argumentWordWrite s = .next (arriveNext
    { s with host := .idle, wm := { s.wm with arg2 := mergeWord s.wm.arg2 w.be w.data } }))
  ∧ (w.addr = s.wm.base + 0xC → exec .argumentWordWrite s = .next (arriveNext
    { s with host := .idle, wm := { s.wm with arg3 := mergeWord s.wm.arg3 w.be w.data } }))
  ∧ (w.addr = s.wm.base + 0x24 →
    let wm := { s.wm with intEnable := mergeWord s.wm.intEnable w.be w.data }
    exec .interruptControlWrite s = .next (arriveNext { s with host := .idle, wm := wm, intOut := intLevel s.ev wm }))
  ∧ (w.addr = s.wm.base + 0x20 → exec .consumerIndexWrite s = .next (arriveNext (consumerChanged
    { s with host := .idle, wm := { s.wm with consumer := mergeWord s.wm.consumer w.be w.data } }))))

/-- A command that meets a full executing place waits, with the latches of that moment as its copies, and one that
meets two full places is dropped with a COMMAND_OVERRUN event (R22, R23, R24, R25); a presented host access then arrives
(`arriveNext`, opened in HostArrivals). -/
def Obligations.CommandWaitsOrOverruns : Prop := ∀ (s : State) (r : WriteRecord) (w : Word), s.offers r →
  r.command? s.wm = some w →
  let s1 := s.wordsTaken r
  let c : Command := ⟨BitVec.ofNat 8 w.toNat, BitVec.ofNat 8 (w.toNat / 2 ^ 8), Fin.ofNat 16 (w.toNat / 2 ^ 16),
    s1.wm.arg1, s1.wm.arg2, s1.wm.arg3⟩
  (∀ x, s1.cmd.executing = some x → s1.cmd.waiting = none →
    exec (commandRow (commandCode w)) s = .next (arriveNext { s1 with cmd := ⟨some x, some c⟩ }))
  ∧ ∀ x y, s1.cmd.executing = some x → s1.cmd.waiting = some y →
    exec (commandRow (commandCode w)) s =
      .next (arriveNext (post .commandOverrun c.chan (c.tag.zeroExtend 32) (c.code.zeroExtend 32) s1))

/-- ECHO, started at its arrival, ends at once with DONE and detail 0x0416_0001, and a code that names no command with
BAD_COMMAND and detail 0; neither changes anything else (R26, R31), but that a presented host access arrives
(`arriveNext`, opened in HostArrivals). -/
def Obligations.EchoAndBadCommand : Prop := ∀ (s : State) (r : WriteRecord) (w : Word) (c : Command) (s2 : State),
  s.starts r w c s2 →
  (commandCode w = 1 → exec .echo s = .next (arriveNext (s2.answers c .done 0x04160001#32)))
  ∧ ((commandCode w = 0 ∨ 8 < commandCode w) → exec .badCommand s =
    .next (arriveNext (s2.answers c .badCommand 0#32)))

/-- LOAD_CHANNEL at its start: on a channel that is OFF the 8-word table read is requested and nothing else changes; on
any other it ends with CHANNEL_ACTIVE and detail 0 (R33, R35).

LINK_ENABLE and LINK_DISABLE at their start: in OFF the one requests the 8-word link record read and the other ends
DONE; otherwise the one ends LINK_ACTIVE and the other takes a link reset with cause LINK_DISABLE (R92, R94). After each
a presented host access arrives (`arriveNext`, opened in HostArrivals). -/
def Obligations.TableCommandsStart : Prop :=
  (∀ (s : State) (r : WriteRecord) (w : Word) (c : Command) (s2 : State),
  s.starts r w c s2 → commandCode w = 2 →
  (s2.wm.chans[c.chan].state = .off → exec .loadChannel s = .next (arriveNext { s2 with reqs := { s2.reqs with
    channelRecord := some ⟨.channelRecord c.chan, false, s2.wm.base + 0x100 + 32 * c.chan.val,
      List.replicate 8 ⟨15#4, 0#32⟩⟩ } }))
  ∧ (s2.wm.chans[c.chan].state ≠ .off →
    exec .loadChannel s = .next (arriveNext (s2.answers c .channelActive 0#32))))
  ∧ (∀ (s : State) (r : WriteRecord) (w : Word) (c : Command) (s2 : State),
  s.starts r w c s2 →
  (commandCode w = 4 →
    (s2.link.state = .off → exec .linkEnable s = .next (arriveNext { s2 with reqs := { s2.reqs with
      linkRecord := some ⟨.linkRecord, false, s2.wm.base + 0x300, List.replicate 8 ⟨15#4, 0#32⟩⟩ } }))
    ∧ (s2.link.state ≠ .off → exec .linkEnable s = .next (arriveNext (s2.answers c .linkActive 0#32))))
  ∧ (commandCode w = 5 →
    (s2.link.state = .off → exec .linkDisable s = .next (arriveNext (s2.answers c .done 0#32)))
    ∧ (s2.link.state ≠ .off → exec .linkDisable s = .next (arriveNext (linkReset .linkDisable s2)))))

/-- EVENTS_START at its start: EVENTS_ACTIVE when not STOPPED; the four checks in order, with the number of the first
that fails as detail of BAD_PARAMETER; and with arguments that pass the ring installed, both indexes 0, the hold clear,
RUNNING, the producer write of 0 the ring access, INT_OUT low (R173, R175). A presented host access then arrives
(`arriveNext`, opened in HostArrivals). -/
def Obligations.EventsStartStart : Prop := ∀ (s : State) (r : WriteRecord) (w : Word) (c : Command) (s2 : State),
  s.starts r w c s2 → commandCode w = 6 →
  let a := c.arg1.toNat
  let n := c.arg2.toNat
  let meets := ∃ ch cfg, s2.wm.cfg? ch = some cfg ∧ rangesMeet a (16 * n) cfg.base cfg.bytes = true
  let bad1 := a % 16 ≠ 0 ∨ 0x10000000 ≤ a
  let bad2 := n < 16 ∨ 1024 < n
  let bad3 := 0xFFFFFFF < a + 16 * n - 1
  let answer (k : Nat) := exec .eventsStart s = .next (arriveNext (s2.answers c .badParameter (BitVec.ofNat 32 k)))
  (s2.ev.run ≠ .stopped → exec .eventsStart s = .next (arriveNext (s2.answers c .eventsActive 0#32)))
  ∧ (s2.ev.run = .stopped →
    (bad1 → answer 1)
    ∧ (¬ bad1 → bad2 → answer 2)
    ∧ (¬ bad1 → ¬ bad2 → bad3 → answer 3)
    ∧ (¬ bad1 → ¬ bad2 → ¬ bad3 → meets → answer 4)
    ∧ (¬ bad1 → ¬ bad2 → ¬ bad3 → ¬ meets →
      let ev := { s2.ev with
        ringCfg := some ⟨a, n⟩, producer := 0, lostHold := false, run := .running
        ring := some ⟨.start, s2.wm.base + 0x28, [0#32]⟩ }
      let wm := { s2.wm with consumer := 0#32 }
      exec .eventsStart s = .next (arriveNext { s2 with
        wm := wm, ev := ev, intOut := false
        reqs := { s2.reqs with event := eventSlot ev s2.port wm s2.reqs.event } })))

/-- EVENTS_STOP at its start: EVENTS_IDLE in STOPPED; in RUNNING the run state is DRAINING and INT_OUT low, and with no
queued event and no ring access the unit is STOPPED at once, the ring discarded, DONE with the lost count. An
EVENTS_LOST record requested in RUNNING that still waits ungranted is kept, and is written in DRAINING before the
drain ends (the model's choice: log 34). SNAPSHOT at its start: the image holds every counter and the Timebase, the
counters are 0 if bit 0 of copy 1 is set, and the first of its bursts waits its turn (R172, R174, R175, R178). A
presented host access then arrives (`arriveNext`, opened in HostArrivals). -/
def Obligations.EventsStopAndSnapshotStart : Prop :=
  ∀ (s : State) (r : WriteRecord) (w : Word) (c : Command) (s2 : State), s.starts r w c s2 →
  (commandCode w = 7 →
    let d := { s2 with ev := { s2.ev with run := .draining }, intOut := false }
    (s2.ev.run = .stopped → exec .eventsStop s = .next (arriveNext (s2.answers c .eventsIdle 0#32)))
    ∧ (s2.ev.run = .running → exec .eventsStop s = .next (arriveNext (finishDrain (runRing d))))
    ∧ (∀ n at_ ws, s2.ev.run = .running → s2.ev.ring = some ⟨.lost n, at_, ws⟩ → s2.reqs.event ≠ none →
      exec .eventsStop s = .next (arriveNext d))
    ∧ (s2.ev.run = .running → s2.ev.queue = [] → s2.ev.ring = none →
      exec .eventsStop s = .next (arriveNext (State.answers
        { runRing d with ev := { s2.ev with run := .stopped, ringCfg := none } } c .done s2.ev.lostCount))))
  ∧ (commandCode w = 8 →
    let ev := { s2.ev with
      snap := some ⟨s2.ev.counters, s2.timebase, 0, none⟩
      counters := if c.arg1.getLsbD 0 then Counters.zero else s2.ev.counters }
    exec .snapshot s = .next (arriveNext (runRing { s2 with ev := ev })))

/-- The response detail write ended: phase RESPONSE, the response word's write requested, with a MEMORY_FAULT event
first if it faulted. The response word write ended: the executing place empties, and a waiting command moves up and
starts (R27, R28). -/
def Obligations.ResponseWritesEnd : Prop := ∀ (s : State) (r : DevReq) (e : AccessEnd),
  let s1 := postFaultIf e 0 .record r.addr (endDevice r e s)
  (∀ c res d, s.serves .respDetail r → s.cmd.executing = some ⟨c, .detail res d⟩ →
    exec (.responseDetailWriteEnd e) s = .next { s1 with
      cmd := { s.cmd with executing := some ⟨c, .response res d⟩ }
      reqs := { s1.reqs with
        command := some ⟨.respWord, true, s.wm.base + 0x10, [⟨15#4, responseWord c res⟩]⟩ } })
  ∧ (s.serves .respWord r →
    (s.cmd.waiting = none → exec (.responseWordWriteEnd e) s = .next { s1 with cmd := ⟨none, none⟩ })
    ∧ ∀ c, s.cmd.waiting = some c → exec (.responseWordWriteEnd e) s =
        .next (startCommand c { s1 with cmd := ⟨some ⟨c, .running⟩, none⟩ }))

/-- The fields of the words that the part writes for software: the response word (R27), header word 0 and header word
1 (R41, R76, R149), word 0 of an event record (R164). Every bit no field names is 0. The codes of results (R30),
statuses (R43), event kinds and origins (R165), refusal reasons (section 5.2), link reset causes (R101) and link
states (R102). -/
def Obligations.WrittenFields : Prop :=
  (∀ (c : Command) (res : Result), (responseWord c res).toNat =
    c.code.toNat + c.tag.toNat * 2 ^ 8 + res.code * 2 ^ 16 + c.chan.val * 2 ^ 24)
  ∧ (∀ (len : Nat) (notify : Bool) (st : Status), len < 1024 → (headerWord0 len notify st).toNat =
    len + notify.toNat * 2 ^ 15 + st.code * 2 ^ 16)
  ∧ (∀ (q : Seq) (ep : Epoch) (n : Nat), n < 16 → (headerWord1 q ep n).toNat =
    q.toNat + ep.toNat * 2 ^ 16 + n * 2 ^ 24)
  ∧ (∀ (k : EventKind) (c : Chan) (d1 d2 time : Word), ∃ w0, recordOf k.code c d1 d2 time = [w0, d1, d2, time]
    ∧ w0.toNat = k.code + c.val * 2 ^ 8)
  ∧ ([Result.done, .badCommand, .badChannel, .channelActive, .channelIdle, .badGeometry, .overlap, .destInUse,
      .linkActive, .badParameter, .eventsActive, .eventsIdle, .memoryFault].map Result.code
        = [1, 2, 3, 4, 5, 6, 7, 8, 9, 10, 11, 12, 13]
    ∧ [Status.none, .delivered, .refusedClosed, .refusedNoSlot, .refusedTooLong, .refusedFault, .linkLost, .badLength,
      .stopped, .memoryFault, .peerClosed].map Status.code = [0, 1, 2, 3, 4, 5, 6, 7, 8, 9, 10]
    ∧ [EventKind.linkUp, .linkDown, .commitRejected, .duplicateCommit, .duplicateRelease, .ownershipViolation,
      .tornRead, .slotDone, .slotLanded, .frameRefused, .commandOverrun, .memoryFault].map EventKind.code
        = [1, 2, 3, 4, 5, 6, 7, 8, 9, 10, 11, 12]
    ∧ [Origin.table, .staging, .refetch, .landing, .record, .snapshot].map Origin.code = [0, 1, 2, 3, 4, 5]
    ∧ [Reason.closed, .noSlot, .tooLong, .landingFault].map Reason.code = [0, 1, 2, 3]
    ∧ [Cause.none, .linkDisable, .lockLost, .syncTimeout, .retryLimit, .peerRestart, .replayFault].map Cause.code
        = [0, 1, 2, 3, 4, 5, 6]
    ∧ [LinkState.off, .down, .sync, .up].map LinkState.code = [0, 1, 2, 3])

/-! ### Channels (Chapter 3) -/

/-- The checks of a channel record, on its words: geometry checks 1 to 6 in order (R36), then OVERLAP with the control
block (16), OVERLAP with the lowest channel, OVERLAP with the event ring in use (17), DEST_IN_USE (R37). Two ranges that
are not empty meet exactly when they share a byte (R37, R173). -/
def Obligations.ChannelRecordChecks : Prop :=
  (∀ a la b lb : Nat, 0 < la → 0 < lb →
    (rangesMeet a la b lb = true ↔ ∃ x, a ≤ x ∧ x < a + la ∧ b ≤ x ∧ x < b + lb))
  ∧ (∀ f : RecordFields,
    let dir := f.w0.toNat % 4
    let code := f.w0.toNat / 2 ^ 8 % 8
    let n := f.w0.toNat / 2 ^ 16 % 512
    let base := f.w1.toNat
    let size := 64 * 2 ^ code
    let bad1 := dir = 0 ∨ dir = 3
    let bad2 := 5 ≤ code
    let bad3 := n < 2 ∨ 256 < n
    let bad4 := 2 ^ 28 ≤ base ∨ base % size ≠ 0
    let bad5 := 0xFFFFFFF < base + size * n - 1
    let bad6 := dir = 2 ∧ n < f.w3.toNat / 2 ^ 16 % 512
    (bad1 → f.geometry = some 1) ∧ (¬ bad1 → bad2 → f.geometry = some 2)
    ∧ (¬ bad1 → ¬ bad2 → bad3 → f.geometry = some 3) ∧ (¬ bad1 → ¬ bad2 → ¬ bad3 → bad4 → f.geometry = some 4)
    ∧ (¬ bad1 → ¬ bad2 → ¬ bad3 → ¬ bad4 → bad5 → f.geometry = some 5)
    ∧ (¬ bad1 → ¬ bad2 → ¬ bad3 → ¬ bad4 → ¬ bad5 → bad6 → f.geometry = some 6)
    ∧ (¬ bad1 → ¬ bad2 → ¬ bad3 → ¬ bad4 → ¬ bad5 → ¬ bad6 → f.geometry = none))
  ∧ ∀ (n : Chan) (cfg : ChanCfg) (s : State),
    let meets (m : Chan) := m ≠ n ∧ ∃ o, s.wm.cfg? m = some o ∧ rangesMeet cfg.base cfg.bytes o.base o.bytes = true
    let ring := s.ev.run ≠ .stopped ∧
      ∃ x, s.ev.ringCfg = some x ∧ rangesMeet cfg.base cfg.bytes x.base (16 * x.size) = true
    let taken (m : Chan) := m ≠ n ∧ ∃ o d, s.wm.cfg? m = some o ∧ cfg.dest? = some d ∧ o.dest? = some d
    if rangesMeet cfg.base cfg.bytes s.wm.base 0x1000 then overlapCheck n cfg s = some (.overlap, 16#32)
    else
      (∀ m, meets m → (∀ k, k < m → ¬ meets k) → overlapCheck n cfg s = some (.overlap, BitVec.ofNat 32 m.val))
      ∧ ((∀ m, ¬ meets m) →
        (ring → overlapCheck n cfg s = some (.overlap, 17#32))
        ∧ (¬ ring →
          (∀ m, taken m → (∀ k, k < m → ¬ taken k) →
            overlapCheck n cfg s = some (.destInUse, BitVec.ofNat 32 m.val))
          ∧ ((∀ m, ¬ taken m) → overlapCheck n cfg s = none)))

/-- The table read of LOAD_CHANNEL ended: MEMORY_FAULT with the record's address; or the first check that fails; or the
activation as one step: the fields installed, ACTIVE, the slots made, and for an INBOUND record the generation raised,
the posted total set and, in UP, a CREDIT requested (R35, R38, R54, R132, R141). The notify bit 0 of a slot HOST at
load, and the length 0 and notify bit 0 of an OPEN slot, are the model's choice (log 40). The words the record is made of, and
the fields they hold: slot size, slot count, base; INBOUND the guard limit and the initial posted count, OUTBOUND the
destination and capture (R33, section 3.1). -/
def Obligations.ChannelRecordReadEnds : Prop :=
  (∀ (m : List Host.Cell) (a : Nat), RecordFields.ofWords (memReadBurst m a 8) = ⟨memReadWord m a,
    memReadWord m ((a + 4) % 268435456), memReadWord m ((a + 8) % 268435456), memReadWord m ((a + 12) % 268435456)⟩)
  ∧ (∀ f : RecordFields,
    f.cfg.size = 64 * 2 ^ (f.w0.toNat / 2 ^ 8 % 8) ∧ f.cfg.count = f.w0.toNat / 2 ^ 16 % 512 ∧ f.cfg.base = f.w1.toNat
    ∧ (f.w0.toNat % 4 = 2 → f.cfg.dir = .inbound (f.w3.toNat % 256) (f.w3.toNat / 2 ^ 16 % 512))
    ∧ (f.w0.toNat % 4 ≠ 2 → f.cfg.dir = .outbound (Fin.ofNat 16 (f.w2.toNat % 16)) (f.w2.getLsbD 8)))
  ∧ ∀ (s : State) (n : Chan) (r : DevReq), s.serves (.channelRecord n) r → r.write = false →
  (∀ kept data, exec (.channelRecordReadEnd (.fault kept data)) s = .next (endCommand .memoryFault
    (BitVec.ofNat 32 r.addr) (post .memoryFault n 0#32 (BitVec.ofNat 32 r.addr) (endDevice r (.fault kept data) s))))
  ∧ (let s1 := endDevice r .ok s
     let f := RecordFields.ofWords (memReadBurst s.mem r.addr r.words.length)
     let cfg := f.cfg
     (∀ k, f.geometry = some k →
       exec (.channelRecordReadEnd .ok) s = .next (endCommand .badGeometry (BitVec.ofNat 32 k) s1))
     ∧ (∀ res d, f.geometry = none → overlapCheck n cfg s1 = some (res, d) →
       exec (.channelRecordReadEnd .ok) s = .next (endCommand res d s1))
     ∧ (f.geometry = none → overlapCheck n cfg s1 = none →
       let wm (g : BitVec 8) := { s.wm with chans := s.wm.chans.set n ⟨.active cfg, g⟩ }
       let outSlots : OutRing := ⟨List.replicate cfg.count ⟨.open, none, 0, false, none⟩, 0, 0⟩
       (∀ d on, cfg.dir = .outbound d on →
         exec (.channelRecordReadEnd .ok) s = .next (endCommand .done 0#32 { s1 with
           wm := wm s.wm.chans[n].generation
           cap := { s.cap with rings := s.cap.rings.set n outSlots } }))
       ∧ ∀ g0 k, cfg.dir = .inbound g0 k →
         let g := s.wm.chans[n].generation + 1
         let inSlots : InRing :=
           ⟨List.replicate k ⟨.posted, false⟩ ++ List.replicate (cfg.count - k) ⟨.host, false⟩, k % cfg.count, 0⟩
         let record : RecvRecord :=
           ⟨g, if s.link.isUp then .total (BitVec.ofNat 16 k) else .unknown, s.cred.recv[n].queued⟩
         exec (.channelRecordReadEnd .ok) s = .next (endCommand .done (g.zeroExtend 32) (requestCredit n { s1 with
           wm := wm g
           land := { s.land with rings := s.land.rings.set n inSlots }
           cred := { s.cred with recv := s.cred.recv.set n record } }))))

/-- A commit, a full-word write of header word 0 with owner 1 to a host-owned outbound slot: counted, recorded, and
then on an ACTIVE channel rejected with BAD_LENGTH for a length of 0 or above capacity, or accepted; on a STOPPING one
completed STOPPED (R48, R56, R57, R79). `freeze`: the buffer of the slot, if it has one, becomes FROZEN, with its
bytes, purpose and binding kept, and nothing else changes (R57, R58, R63); `accept` is opened in HandoversInTurn. A
presented host access then arrives (`arriveNext`, opened in HostArrivals). -/
def Obligations.CommitTaken : Prop :=
  (∀ (u : CaptureUnit) (c : Chan) (i : Nat),
    ((∀ x, u.slot? c i = some x → x.buf = none) → u.freeze c i = u)
    ∧ ∀ x b, u.slot? c i = some x → x.buf = some b →
      let frozen : Buffer := ⟨.frozen, u.bufs[b].purpose, u.bufs[b].binding, u.bufs[b].bytes⟩
      u.freeze c i = { u with bufs := u.bufs.set b frozen })
  ∧ ∀ (s : State) (w : RecordWord) (c : Chan) (i : Nat), s.slotWrite w c i 0 →
  w.be = 15#4 → w.data.getLsbD 31 = true → s.wm.isInbound c = false → hostOwns c i s = true →
  let len := w.data.toNat % 1024
  let s1 := { s with host := .idle }.committing c i len (w.data.getLsbD 15)
  (∀ cfg, s.wm.chans[c].state = .active cfg → (len = 0 ∨ cfg.capacity < len) →
    exec .completedWriteRecord s = .next (arriveNext (completeSlot c i .badLength none
      (post .commitRejected c (BitVec.ofNat 32 i) (BitVec.ofNat 32 len) s1))))
  ∧ (∀ cfg, s.wm.chans[c].state = .active cfg → len ≠ 0 → len ≤ cfg.capacity →
    exec .completedWriteRecord s = .next (arriveNext (settleClosed c { s1 with
      cap := (s1.cap.freeze c i).onRing c (OutRing.accept i) })))
  ∧ ∀ cfg, s.wm.chans[c].state = .stopping cfg →
    exec .completedWriteRecord s = .next (arriveNext (completeSlot c i .stopped none s1))

/-- An accepted commit or release at its cursor: the slot and the run of HELD slots right after it are COMMITTED
(POSTED), the cursor rests on the first slot past them, which is not HELD, and no other slot changes. Away from the
cursor the slot is HELD and nothing else changes (R57, R143). -/
def Obligations.HandoversInTurn : Prop :=
  (∀ (r : OutRing) (i : Nat), i < r.slots.length →
    let n := r.slots.length
    let q := r.accept i
    (i ≠ r.commitCursor → q = { r with slots := r.slots.modify i (fun x => { x with state := .held }) })
    ∧ (i = r.commitCursor → ∃ k, k < n ∧ q.commitCursor = (i + k + 1) % n ∧ q.transmitCursor = r.transmitCursor
      ∧ (∀ j x, r.slots[j]? = some x → q.slots[j]? = some
          (if (j + n - i) % n ≤ k then { x with state := .committed } else x))
      ∧ (∀ j x, r.slots[j]? = some x → 1 ≤ (j + n - i) % n → (j + n - i) % n ≤ k → x.state = .held)
      ∧ ∀ x, q.slots[q.commitCursor]? = some x → x.state ≠ .held))
  ∧ ∀ (r : InRing) (i : Nat), i < r.slots.length →
    let n := r.slots.length
    let q := (r.release i).1
    (i ≠ r.releaseCursor →
      r.release i = ({ r with slots := r.slots.modify i (fun x => { x with state := .held }) }, 0))
    ∧ (i = r.releaseCursor → ∃ k, k < n ∧ (r.release i).2 = k + 1 ∧ q.releaseCursor = (i + k + 1) % n
      ∧ q.landCursor = r.landCursor
      ∧ (∀ j x, r.slots[j]? = some x → q.slots[j]? = some
          (if (j + n - i) % n ≤ k then { x with state := .posted } else x))
      ∧ (∀ j x, r.slots[j]? = some x → 1 ≤ (j + n - i) % n → (j + n - i) % n ≤ k → x.state = .held)
      ∧ ∀ x, q.slots[q.releaseCursor]? = some x → x.state ≠ .held)

/-- A release on an INBOUND channel: counted, its notify bit recorded, the ring as R143 says, and one report to the
Credit Unit for each slot that became POSTED (R48, R143, R144).

A qualifying write to a device-owned slot: DUPLICATE_COMMIT or DUPLICATE_RELEASE with the channel and the slot
index, and nothing else but the write itself, which memory has taken (R49). Any other word written to a device-owned
slot: the violations counter and an OWNERSHIP_VIOLATION with the word offset (R50, R52).

A record of several words: each takes its effect as a record of it alone would, in burst order, on the state that the
words before it left (R47); but of the violations of one slot only the first of the record is recorded (R52).

Host-owned are OPEN and FILLING slots of an OUTBOUND channel and HOST slots of an INBOUND one, and no other (R44). The
class of a byte address: one of the six CONTROL words; else, in the area of a channel that is not OFF, header word 0
or another word of a slot, with slot index and word offset; else PLAIN (R42, R45; of areas that meet, which no run
reaches, the lowest channel's). A slot's address is the base plus the size times its index. After a record a presented
host access arrives (`arriveNext`, opened in HostArrivals). -/
def Obligations.ReleasesAndDuplicates : Prop :=
  (∀ (s : State) (c : Chan) (i : Nat), hostOwns c i s = true ↔
    (s.wm.isInbound c = true ∧ ∃ x, s.land.slot? c i = some x ∧ x.state = .host)
    ∨ (s.wm.isInbound c = false ∧ ∃ x, s.cap.slot? c i = some x ∧ (x.state = .open ∨ x.state = .filling)))
  ∧ (∀ (m : Matcher) (a : Nat),
    let control : List (Nat × ControlWord) :=
      [(0x0, .command), (0x4, .arg1), (0x8, .arg2), (0xC, .arg3), (0x20, .consumer), (0x24, .intEnable)]
    let inArea (c : Chan) (k : ChanCfg) := m.cfg? c = some k ∧ k.base ≤ a ∧ a < k.base + k.size * k.count
    (∀ p ∈ control, a = m.base + p.1 → m.classify a = .control p.2)
    ∧ ((∀ p ∈ control, a ≠ m.base + p.1) →
      (∀ c k, inArea c k → (∀ d l, d < c → ¬ inArea d l) →
        let i := (a - k.base) / k.size
        let off := (a - k.base) % k.size / 4
        m.classify a = (if off = 0 then .header0 c i else .slot c i off))
      ∧ ((∀ c k, ¬ inArea c k) → m.classify a = .plain))
    ∧ ∀ c k i, m.cfg? c = some k → m.slotAddr c i = k.base + k.size * i)
  ∧ (∀ (s : State) (w : RecordWord) (c : Chan) (i : Nat), s.slotWrite w c i 0 →
  w.be = 15#4 → w.data.getLsbD 31 = true → s.wm.isInbound c = true → hostOwns c i s = true →
  let ring := s.land.rings[c]
  let r := { ring with slots := ring.slots.modify i (fun x => { x with notify := w.data.getLsbD 15 }) }
  exec .completedWriteRecord s = .next (arriveNext (reportPostedTimes c (r.release i).2 { s with
    host := .idle
    land := { s.land with rings := s.land.rings.set c (r.release i).1 }
    ev := { s.ev with counters := s.ev.counters.handover c } })))
  ∧ (∀ (s : State) (w : RecordWord) (c : Chan) (i off : Nat),
  s.slotWrite w c i off → hostOwns c i s = false →
  let s0 := { s with host := .idle }
  (off = 0 → w.be = 15#4 → w.data.getLsbD 31 = true →
    (s.wm.isInbound c = false →
      exec .completedWriteRecord s = .next (arriveNext (post .duplicateCommit c (BitVec.ofNat 32 i) 0#32 s0)))
    ∧ (s.wm.isInbound c = true →
      exec .completedWriteRecord s = .next (arriveNext (post .duplicateRelease c (BitVec.ofNat 32 i) 0#32 s0))))
  ∧ (¬ (off = 0 ∧ w.be = 15#4 ∧ w.data.getLsbD 31 = true) →
    exec .completedWriteRecord s = .next (arriveNext (post .ownershipViolation c (BitVec.ofNat 32 i)
      (BitVec.ofNat 32 off) { s0 with ev := { s.ev with counters := s.ev.counters.violate c } }))))
  ∧ (∀ (t : State) (w : RecordWord) (c : Chan) (i off a : Nat), t.resetLow = false → t.host = .idle →
    t.writesSlot w c i off →
    exec .completedWriteRecord { t with host := .handoff ⟨a, [w], true⟩ } = .next (arriveNext (applySlots [w] t)))
  ∧ ∀ (s : State) (ws : List RecordWord) (w : RecordWord),
    let t := applySlots ws s
    let again := ∃ c i, t.violates w c i ∧ ∃ front v back, ws = front ++ v :: back ∧ (applySlots front s).violates v c i
    applySlots [] s = s ∧ (again → applySlots (ws ++ [w]) s = t) ∧ (¬ again → applySlots (ws ++ [w]) s = applySlots [w] t)

/-- A word at offset 3 or above written to a host-owned slot of an ACTIVE channel with capture on: in an OPEN slot it
takes the lowest FREE buffer if fewer than 14 are bound for capture, and the slot is FILLING; in a FILLING slot it is
stored in its buffer; an OPEN slot that gets no buffer stays OPEN. Exactly the enabled bytes are stored, slot byte j at
buffer byte j − 12 (R51, R59, R62; the lowest buffer is the model's choice: log 13). Any other word on a host-owned slot
that is no handover has no effect but on memory: offsets 0 to 2, capture off, a channel that is not ACTIVE (R50, R51,
R79). After each a presented host access arrives (`arriveNext`, opened in HostArrivals). -/
def Obligations.CaptureStores : Prop :=
  (∀ (off : Nat) (be : BitVec 4) (d : Word) (m : List (Nat × Byte)) (k : Nat), 3 ≤ off →
    mapLookup (storeLanes off be d m) k =
      if 4 * off ≤ k + 12 ∧ k + 12 < 4 * off + 4 ∧ be.getLsbD (k + 12 - 4 * off) = true
      then some (lane d (k + 12 - 4 * off)) else mapLookup m k)
  ∧ (∀ (s : State) (w : RecordWord) (c : Chan) (i off : Nat) (cfg : ChanCfg) (x : OutSlot), s.slotWrite w c i off →
    3 ≤ off → s.wm.chans[c].state = .active cfg → cfg.captureOn = true → s.cap.slot? c i = some x →
    let put (b : Buf) (y : Buffer) (z : OutSlot) : State := { s with
      host := .idle
      cap := { s.cap with
        bufs := s.cap.bufs.set b { y with bytes := storeLanes off w.be w.data y.bytes }
        rings := s.cap.rings.set c { s.cap.rings[c] with slots := s.cap.rings[c].slots.modify i (fun _ => z) } } }
    (x.state = .open → ∀ b, s.cap.captureCount < 14 → s.cap.freeBuf? = some b →
      exec .completedWriteRecord s =
        .next (arriveNext
          (put b ⟨.capturing, some .capture, some (c, i), []⟩ { x with state := .filling, buf := some b })))
    ∧ (x.state = .open → (14 ≤ s.cap.captureCount ∨ s.cap.freeBuf? = none) →
      exec .completedWriteRecord s = .next (arriveNext { s with host := .idle }))
    ∧ ∀ b, x.state = .filling → x.buf = some b →
      exec .completedWriteRecord s = .next (arriveNext (put b s.cap.bufs[b] x)))
  ∧ ∀ (s : State) (w : RecordWord) (c : Chan) (i off : Nat), s.slotWrite w c i off → hostOwns c i s = true →
    ¬ (off = 0 ∧ w.be = 15#4 ∧ w.data.getLsbD 31 = true) →
    (off < 3 ∨ ∀ cfg, s.wm.chans[c].state = .active cfg → cfg.captureOn = false) →
    exec .completedWriteRecord s = .next (arriveNext { s with host := .idle })

/-- STOP_CHANNEL at its start: CHANNEL_IDLE on a channel that is OFF (R40). On an ACTIVE INBOUND channel: STOPPING, the
CREDIT requested, and, when no slot is LANDING, OFF at once with DONE and the slots and cursors discarded (R132, R157,
R159; no slots and both cursors 0 in State: log 40).

STOP_CHANNEL at its start on an ACTIVE OUTBOUND channel: each FILLING slot becomes OPEN, each HELD, COMMITTED,
STAGING and READY slot is COMPLETING with status STOPPED and the Timebase of that moment, IN_FLIGHT, COMPLETING and OPEN
slots stay, and the channel is STOPPING. The FILLING slots' buffers and those of the completed slots are FREE at once,
but one that a granted read fills when that read has ended; other buffers stay (of the buffer of such a slot that is
SENDING or FREE already, which no run reaches, nothing is said). The completed slots join the write-back queue
in ring order from the transmit cursor. A ring whose slots are then all OPEN is drained: the channel is OFF, its slots
are discarded and the command ends DONE. No other channel's slot states or record change (R78, R80). -/
def Obligations.StopsStart : Prop :=
  (∀ (s : State) (r : WriteRecord) (w : Word) (c : Command) (s2 : State),
  s.starts r w c s2 → commandCode w = 3 →
  (s2.wm.chans[c.chan].state = .off → exec .stopChannel s = .next (arriveNext (s2.answers c .channelIdle 0#32)))
  ∧ ∀ cfg, s2.wm.chans[c.chan].state = .active cfg → cfg.isInbound = true →
    let chan (st : ChanState) := { s2.wm with chans := s2.wm.chans.set c.chan ⟨st, s2.wm.chans[c.chan].generation⟩ }
    let s3 := requestCredit c.chan { s2 with wm := chan (.stopping cfg) }
    ((∃ x ∈ s2.land.rings[c.chan].slots, x.state = .landing) → exec .stopChannel s = .next (arriveNext s3))
    ∧ ((∀ x ∈ s2.land.rings[c.chan].slots, x.state ≠ .landing) →
      exec .stopChannel s = .next (arriveNext (State.answers { s3 with
        wm := chan .off, land := { s2.land with rings := s2.land.rings.set c.chan ⟨[], 0, 0⟩ } } c .done 0#32))))
  ∧ (∀ (s : State) (r : WriteRecord) (w : Word) (c : Command) (s2 : State)
  (cfg : ChanCfg), s.starts r w c s2 → commandCode w = 3 → s2.wm.chans[c.chan].state = .active cfg →
  cfg.isInbound = false →
  let after : OutState → OutState
    | .open => .open
    | .filling => .open
    | .inFlight => .inFlight
    | .held => .completing
    | .committed => .completing
    | .staging => .completing
    | .ready => .completing
    | .completing => .completing
  let drained := ∀ o ∈ s2.outStates c.chan, after o = .open
  let stops (x : OutSlot) : Bool := decide (after x.state = .completing) && decide (x.state ≠ .completing)
  let ring := s2.cap.rings[c.chan]
  let order := (List.range ring.slots.length).map (fun k => (ring.transmitCursor + k) % ring.slots.length)
  let gives (b : Buf) := ∃ i x, s2.cap.slot? c.chan i = some x ∧ x.buf = some b ∧ (x.state = .filling ∨ stops x = true)
  ∃ t, exec .stopChannel s = .next t
    ∧ (∀ d, d ≠ c.chan → t.outStates d = s2.outStates d ∧ t.wm.chans[d] = s2.wm.chans[d])
    ∧ t.cap.wbQueue = s2.cap.wbQueue ++
      (order.filter (fun i => (s2.cap.slot? c.chan i).any stops)).map (fun i => (c.chan, i))
    ∧ (∀ b, ¬ gives b → t.cap.bufs[b] = s2.cap.bufs[b])
    ∧ (∀ b, gives b → s2.cap.bufs[b].state ≠ .sending → s2.cap.bufs[b].state ≠ .free →
      let reading := s2.cap.bufs[b].state = .loading ∧ s2.port.readingInto b = true
      (¬ reading → t.cap.bufs[b] = ⟨.free, none, none, []⟩)
      ∧ (reading → t.cap.bufs[b] = s2.cap.bufs[b] ∧ ∀ j ∈ t.cap.jobs, j.buf = b → j.drop = some .free))
    ∧ (¬ drained → t.wm.chans[c.chan] = ⟨.stopping cfg, s2.wm.chans[c.chan].generation⟩
      ∧ t.cmd = s2.cmd
      ∧ t.outStates c.chan = (s2.outStates c.chan).map after
      ∧ ∀ i x, s2.cap.slot? c.chan i = some x →
        (stops x = true →
          ∃ y, t.cap.slot? c.chan i = some y ∧ y.buf = none ∧ y.done = some ⟨.stopped, s2.timebase, none⟩)
        ∧ (x.state = .filling → t.cap.slot? c.chan i = some { x with state := .open, buf := none }))
    ∧ (drained → t.wm.chans[c.chan] = ⟨.off, s2.wm.chans[c.chan].generation⟩ ∧ t.cap.rings[c.chan].slots = []
      ∧ t.cmd.executing = some ⟨c, .detail .done 0#32⟩))

/-! ### Shared effects -/

/-- The end of a RUNNING command stores its result and detail and requests the detail write (R26, R27); a block posts an
event: in RUNNING it joins the queue of at most 8 with the Timebase as its time, or is lost; in STOPPED and DRAINING
it is lost. A lost event raises the lost count, which saturates, and the events lost counter. In RUNNING the
EVENTS_LOST hold clears (R164, R166, R167, R171; only there by inference: log 17).

The Event Unit's choice when no ring write is in progress. RUNNING: none while the hold is set; with room an
EVENTS_LOST record if the lost count is not 0, else the head event's record; without room every queued event is lost.
DRAINING: none with an empty queue; with room as before, but the hold no longer keeps events back; without room the
same loss. The record goes to the producer index (R164, R168 to R171, R174). A ring write in progress stands. Having
chosen, the unit presents its next request if none of its requests waits and none is granted (R172; one request at a
time is the model's choice: log 19). An access that ended with FAULT posts MEMORY_FAULT with its origin and address
(R15, R165). -/
def Obligations.PostsAndRing : Prop :=
  ((∀ (s : State) (c : Command) (res : Result) (d : Word), s.cmd.executing = some ⟨c, .running⟩ →
    endCommand res d s = s.answers c res d)
  ∧ ∀ (k : EventKind) (c : Chan) (d1 d2 : Word) (s : State),
    let lost (hold : Bool) : State := { s with ev := { s.ev with
      lostCount := if s.ev.lostCount = 0xFFFFFFFF#32 then 0xFFFFFFFF#32 else s.ev.lostCount + 1
      counters := { s.ev.counters with eventsLost := s.ev.counters.eventsLost + 1 }
      lostHold := hold } }
    (s.ev.run = .running → s.ev.queue.length < 8 → post k c d1 d2 s = runRing
      { s with ev := { s.ev with queue := s.ev.queue ++ [⟨k, c, d1, d2, s.timebase⟩], lostHold := false } })
    ∧ (s.ev.run = .running → 8 ≤ s.ev.queue.length → post k c d1 d2 s = runRing (lost false))
    ∧ (s.ev.run ≠ .running → post k c d1 d2 s = runRing (lost s.ev.lostHold)))
  ∧ (∀ (ev : EventUnit) (consumer now : Word) (r : RingCfg),
  ev.ringCfg = some r → ev.ring = none →
  let room := (ev.producer + 1) % r.size ≠ consumer.toNat
  let at_ := r.base + 16 * ev.producer
  let lostRecord : RingWrite := ⟨.lost ev.lostCount, at_, [13#32, ev.lostCount, 0#32, now]⟩
  let record (e : Event) : RingWrite := ⟨.event, at_, recordOf e.kind.code e.chan e.detail1 e.detail2 e.time⟩
  let allLost := ∃ x, ev.choose consumer now = { x with queue := [] } ∧ x = ev.lose ev.queue.length
  (ev.run = .stopped → ev.choose consumer now = ev)
  ∧ (ev.run = .running →
    (ev.lostHold = true → ev.choose consumer now = ev)
    ∧ (ev.lostHold = false → room → ev.lostCount ≠ 0#32 → ev.choose consumer now = { ev with ring := some lostRecord })
    ∧ (∀ e rest, ev.lostHold = false → room → ev.lostCount = 0#32 → ev.queue = e :: rest →
        ev.choose consumer now = { ev with ring := some (record e) })
    ∧ (ev.lostHold = false → room → ev.lostCount = 0#32 → ev.queue = [] → ev.choose consumer now = ev)
    ∧ (ev.lostHold = false → ¬ room → allLost))
  ∧ (ev.run = .draining →
    (ev.queue = [] → ev.choose consumer now = ev)
    ∧ ∀ e rest, ev.queue = e :: rest →
      (room → ev.lostCount ≠ 0#32 → ev.lostHold = false → ev.choose consumer now = { ev with ring := some lostRecord })
      ∧ (room → (ev.lostCount = 0#32 ∨ ev.lostHold = true) →
          ev.choose consumer now = { ev with ring := some (record e) })
      ∧ (¬ room → allLost)))
  ∧ (∀ (ev : EventUnit) (consumer now : Word) (w : RingWrite), ev.ring = some w → ev.choose consumer now = ev)
  ∧ (∀ s : State,
    let ev := s.ev.choose s.wm.consumer s.timebase
    let granted := ∃ r, s.port.granted = some (.device r) ∧ r.purpose.recordOwner? = some .event
    ((s.reqs.event ≠ none ∨ granted) → runRing s = { s with ev := ev })
    ∧ (s.reqs.event = none → ¬ granted →
      runRing s = { s with ev := ev, reqs := { s.reqs with event := ev.nextReq s.wm } })
    ∧ ∀ (wm : Matcher) (slot : Option DevReq), ((slot ≠ none ∨ granted) → eventSlot ev s.port wm slot = slot)
      ∧ (slot = none → ¬ granted → eventSlot ev s.port wm slot = ev.nextReq wm))
  ∧ ∀ (c : Chan) (o : Origin) (a : Nat) (s : State), postFaultIf .ok c o a s = s
    ∧ ∀ kept data, postFaultIf (.fault kept data) c o a s
      = post .memoryFault c (BitVec.ofNat 32 o.code) (BitVec.ofNat 32 a) s

/-- An outbound slot's completion: COMPLETING, its status, the Timebase, the sent-frame fields; its buffer given up
(FREE, unbound if it is being sent, or, if it is being read, FREE when the granted read ends); the slot joins the
write-back queue's tail, and starts its write-back at once if it is alone there (R66, R72, R75, R76). No other slot's
state changes.

A CLOSED peer: the slot at the transmit cursor, COMMITTED or READY, is completed PEER_CLOSED and the cursor goes on, and
so for as many slots as then stand COMMITTED or READY at the cursor; with any other peer state, or another slot there,
nothing changes (R69; log 23 says when this is looked at). -/
def Obligations.SlotCompletion : Prop :=
  (∀ (s : State) (c : Chan),
    let ring := s.cap.rings[c]
    let n := ring.slots.length
    let pos (k : Nat) := (ring.transmitCursor + k) % n
    let waits (k : Nat) := ∃ x, s.cap.slot? c (pos k) = some x ∧ (x.state = .committed ∨ x.state = .ready)
    let close (u : State) (k : Nat) : State :=
      let v := completeSlot c (pos k) .peerClosed none u
      let moved : OutRing := { v.cap.rings[c] with transmitCursor := pos (k + 1) }
      { v with cap := { v.cap with rings := v.cap.rings.set c moved } }
    ((sendRecord s c).peer ≠ .closed → settleClosed c s = s)
    ∧ (ring.transmitCursor < n → (sendRecord s c).peer = .closed → ∀ k ≤ n, (∀ j < k, waits j) →
      (k = n ∨ ¬ waits k) → settleClosed c s = (List.range k).foldl close s))
  ∧ ∀ (s : State) (c : Chan) (i : Nat) (x : OutSlot) (st : Status) (sent : Option SentInfo), s.cap.slot? c i = some x →
  let t := completeSlot c i st sent s
  t.cap.slot? c i = some { x with state := .completing, buf := none, done := some ⟨st, s.timebase, sent⟩ }
  ∧ t.cap.wbQueue = s.cap.wbQueue ++ [(c, i)]
  ∧ (∀ d j, (d, j) ≠ (c, i) → (t.cap.slot? d j).map (·.state) = (s.cap.slot? d j).map (·.state))
  ∧ (s.cap.wbPhase = .idle → s.cap.wbQueue = [] →
    let word1 := match sent with
      | some q => headerWord1 q.seq q.epoch q.sends
      | none => 0#32
    t.cap.wbPhase = .header ∧ t.reqs.captureRecord = some ⟨.wbHeader, true, s.wm.slotAddr c i,
      [⟨0#4, 0#32⟩, ⟨15#4, word1⟩, ⟨15#4, s.timebase⟩, ⟨0#4, 0#32⟩]⟩)
  ∧ (s.cap.wbPhase ≠ .idle → t.cap.wbPhase = s.cap.wbPhase ∧ t.reqs.captureRecord = s.reqs.captureRecord)
  ∧ (x.buf = none → t.cap.bufs = s.cap.bufs ∧ t.cap.jobs = s.cap.jobs)
  ∧ ∀ b, x.buf = some b →
    (∀ k, k ≠ b → t.cap.bufs[k] = s.cap.bufs[k])
    ∧ ((s.cap.bufs[b].state = .capturing ∨ s.cap.bufs[b].state = .frozen ∨ s.cap.bufs[b].state = .ready) →
        t.cap.bufs[b] = ⟨.free, none, none, []⟩)
    ∧ (s.cap.bufs[b].state = .sending → t.cap.bufs[b] = { s.cap.bufs[b] with binding := none })
    ∧ (s.cap.bufs[b].state = .loading → s.port.readingInto b = false →
        t.cap.bufs[b] = ⟨.free, none, none, []⟩ ∧ ∀ j ∈ t.cap.jobs, j.buf ≠ b)
    ∧ (s.cap.bufs[b].state = .loading → s.port.readingInto b = true →
        t.cap.bufs[b] = s.cap.bufs[b] ∧ ∀ j ∈ t.cap.jobs, j.buf = b → j.drop = some .free)

/-! ### Staging, refetch and write-back (Chapter 4) -/

/-- The reads planned for needed word offsets: every needed word is covered; each burst is a naturally aligned burst of
1, 2, 4 or 8 words, the smallest that covers the needed words of its block of 8; blocks in rising order, one burst
each. A staging's needed words are those of the frame with a byte that is not yet valid, and the bytes of a read are
stored only where the frame's byte is not yet valid, so captured bytes stay (R42, R62, R65, R73, R148).

The planned reads of a LOADING buffer: none leaves the buffer, and for a staging the slot, READY; otherwise a job
joins the list. With no class 2 request waiting or granted, the first burst of the oldest refetch job, or else of the
oldest staging job, is requested with all byte enables set (R10, R65, R66, R73); while one waits or is granted nothing
is requested (one request at a time is the model's choice: log 19). -/
def Obligations.ReadPlans : Prop :=
  ((∀ needed : List Nat, needed.Pairwise (· < ·) → (∀ o ∈ needed, o < 256) →
    let p := planBursts needed
    (∀ o ∈ needed, ∃ x ∈ p, x.off ≤ o ∧ o < x.off + x.len)
    ∧ p.Pairwise (fun x y => x.off / 8 < y.off / 8)
    ∧ ∀ x ∈ p, x.len ∈ [1, 2, 4, 8] ∧ x.off % x.len = 0 ∧ (∃ o ∈ needed, x.off ≤ o ∧ o < x.off + x.len)
      ∧ ∀ y : Burst, y.len ∈ [1, 2, 4, 8] → y.off % y.len = 0 →
        (∀ o ∈ needed, o / 8 = x.off / 8 → y.off ≤ o ∧ o < y.off + y.len) → x.len ≤ y.len)
  ∧ (∀ (x : Buffer) (len : Nat), 1 ≤ len →
    x.plan len = planBursts ((List.range' 3 (2 + (len - 1) / 4)).filter (x.needs len))
    ∧ ∀ off, 3 ≤ off →
      (x.needs len off = true ↔ ∃ k, 4 * off ≤ k + 12 ∧ k + 12 < 4 * off + 4 ∧ k < 4 + len ∧ mapLookup x.bytes k = none))
  ∧ ∀ (len off : Nat) (ds : List Word) (m : List (Nat × Byte)) (k : Nat),
    mapLookup (storeRead len off ds m) k = (mapLookup m k).or
      (if 4 * off ≤ k + 12 ∧ k < 4 + len then ds[(k + 12) / 4 - off]?.map (fun w => lane w ((k + 12) % 4)) else none))
  ∧ ((∀ (s : State) (refetch : Bool) (c : Chan) (i len : Nat) (b : Buf),
    let ready : CaptureUnit := { s.cap with bufs := s.cap.bufs.set b { s.cap.bufs[b] with state := .ready } }
    let readyAll : CaptureUnit := if refetch then ready else ready.onSlot c i (fun z => { z with state := .ready })
    (s.cap.bufs[b].plan len = [] → planReads refetch c i len b s = { s with cap := readyAll })
    ∧ ∀ x rest, s.cap.bufs[b].plan len = x :: rest →
      let jobs : List ReadJob := s.cap.jobs ++ [⟨refetch, c, i, len, b, x :: rest, none⟩]
      planReads refetch c i len b s = presentRead { s with cap := { s.cap with jobs := jobs } })
  ∧ ∀ s : State,
    ((s.reqs.captureRead ≠ none ∨ s.port.readBusy = true) → presentRead s = s)
    ∧ (s.reqs.captureRead = none → s.port.readBusy = false →
        ∀ (j : ReadJob) (k : Burst) (rest : List Burst) (older younger : List ReadJob),
        s.cap.jobs = older ++ j :: younger → j.drop = none → j.bursts = k :: rest →
        (j.refetch = true ∧ (∀ x ∈ older, x.refetch = false ∨ x.drop ≠ none)
          ∨ (∀ x ∈ older, x.drop ≠ none) ∧ (∀ x ∈ younger, x.refetch = false ∨ x.drop ≠ none)) →
        let first : DevReq := ⟨if j.refetch then .refetch j.buf else .staging j.buf, false,
          s.wm.slotAddr j.chan j.slot + 4 * k.off, List.replicate k.len ⟨15#4, 0#32⟩⟩
        presentRead s = { s with reqs := { s.reqs with captureRead := some first } }))

/-- STAGING_BEGIN: nothing unless the slot at the transmit cursor is COMMITTED, the channel ACTIVE, its send record OPEN
with credit, and fewer than 32 frames are sent or staged. A slot with its own FROZEN buffer starts with it; a slot with
none starts when at least two buffers are FREE, no refetch claim waits, and it is its channel's turn. The slot is
STAGING, the buffer LOADING, and its reads are planned (R59, R60, R64, R65; the lowest
FREE buffer is the model's choice: log 13). -/
def Obligations.StagingBegins : Prop := ∀ (s : State) (c : Chan) (x : OutSlot), s.on →
  s.cap.slot? c s.cap.rings[c].transmitCursor = some x →
  let i := s.cap.rings[c].transmitCursor
  let wanted := x.state = .committed ∧ s.wm.isActive c = true ∧ (sendRecord s c).peer = .open
    ∧ 0 < (sendRecord s c).available ∧ s.tx.replay.length + s.cap.stagedCount < 32
  let turn := 2 ≤ s.cap.freeCount ∧ s.cap.refetchClaim? = none
    ∧ ∃ d : Chan, c = s.cap.lastGranted + 1 + d ∧ ∀ k, k < d → stagingClaim (s.cap.lastGranted + 1 + k) s = false
  let staged (b : Buf) (y : Buffer) (last : Chan) : State := { s with cap := { s.cap with
    lastGranted := last
    bufs := s.cap.bufs.set b y
    rings := s.cap.rings.set c { s.cap.rings[c] with
      slots := s.cap.rings[c].slots.modify i (fun z => { z with state := .staging, buf := some b }) } } }
  (¬ wanted → exec (.stagingBegin c) s = .next s)
  ∧ (∀ b, wanted → x.buf = some b → s.cap.bufs[b].state = .frozen → exec (.stagingBegin c) s = .next
      (planReads false c i x.length b (staged b { s.cap.bufs[b] with state := .loading } s.cap.lastGranted)))
  ∧ (∀ b, wanted → x.buf = none → turn → s.cap.freeBuf? = some b → exec (.stagingBegin c) s = .next
      (planReads false c i x.length b (staged b ⟨.loading, some .staging, some (c, i), []⟩ c)))
  ∧ (wanted → x.buf = none → ¬ turn → exec (.stagingBegin c) s = .next s)

/-- A staging or refetch read ended OK: its bytes are stored; with more bursts the next is requested; after the last the
job leaves the list and the buffer, and for a staging the slot, is READY (R65, R66, R69, R73).

A staging read ended with FAULT: the event, the slot completed MEMORY_FAULT, the transmit cursor on (R67). A refetch
read ended with FAULT: the event, the buffer FREE, the pass halted, the ack timer stopped, and in UP a link reset with
cause REPLAY_FAULT (R74, R117). A read whose job was ended while it was granted: its data discarded, no event, the
buffer FREE, or FROZEN with its bytes (R58, R66, R81; log 18). -/
def Obligations.ReadEnds : Prop :=
  (∀ (s : State) (b : Buf) (r : DevReq) (j : ReadJob) (k : Burst)
  (rest : List Burst) (refetch : Bool),
  s.serves (if refetch then .refetch b else .staging b) r → r.write = false → s.cap.job? b = some j → j.drop = none →
  j.refetch = refetch → j.bursts = k :: rest →
  let row : Instr := if refetch then .refetchReadEnd .ok else .stagingReadEnd .ok
  let after (t : State) : State := if refetch then presentRead t else settleClosed j.chan (presentRead t)
  let bytes := storeRead j.len k.off (memReadBurst s.mem r.addr r.words.length) s.cap.bufs[b].bytes
  let s1 := { s with port := { s.port with granted := none, timer := none } }
  (rest ≠ [] → exec row s = .next (after { s1 with cap := { s.cap with
    bufs := s.cap.bufs.set b { s.cap.bufs[b] with bytes := bytes }
    jobs := s.cap.jobs.map (fun x => if x.buf = b then { x with bursts := rest } else x) } }))
  ∧ (rest = [] →
    let done : CaptureUnit := { s.cap with
      bufs := s.cap.bufs.set b { s.cap.bufs[b] with bytes := bytes, state := .ready }
      jobs := s.cap.jobs.filter (fun x => decide (x.buf ≠ b)) }
    exec row s = .next (after { s1 with
      cap := if refetch then done else done.onSlot j.chan j.slot (fun z => { z with state := .ready })
      reqs := { s.reqs with captureRead := if s.reqs.readsInto b then none else s.reqs.captureRead } })))
  ∧ (∀ (s : State) (b : Buf) (r : DevReq) (j : ReadJob) (kept : List Bool)
  (data : List Word), s.cap.job? b = some j →
  let e : AccessEnd := .fault kept data
  let noJob (t : State) (u : CaptureUnit) : State := presentRead { t with
    cap := { u with jobs := u.jobs.filter (fun x => decide (x.buf ≠ b)) }
    reqs := { t.reqs with captureRead := if t.reqs.readsInto b then none else t.reqs.captureRead } }
  (s.serves (.staging b) r → j.drop = none → exec (.stagingReadEnd e) s = .next
    (settleClosed j.chan (passTransmit j.chan (completeSlot j.chan j.slot .memoryFault none
      (post .memoryFault j.chan 1#32 (BitVec.ofNat 32 r.addr) (endDevice r e s))))))
  ∧ (s.serves (.refetch b) r → j.drop = none →
    let s1 := post .memoryFault j.chan 2#32 (BitVec.ofNat 32 r.addr) (endDevice r e s)
    let s2 := noJob s1 { s1.cap.freeBuf b with refetch := none }
    let s3 := { s2 with tx := { s.tx with
      refetch := none, pass := s.tx.pass.map (fun p => { p with halted := true }), ackTimer := none } }
    exec (.refetchReadEnd e) s = .next (if s.link.state = .up then linkReset .replayFault s3 else s3))
  ∧ ∀ (end_ : AccessEnd) (d : Drop) (row : Instr), j.drop = some d →
    (s.serves (.staging b) r ∧ row = .stagingReadEnd end_ ∨ s.serves (.refetch b) r ∧ row = .refetchReadEnd end_) →
    let s1 := endDevice r end_ s
    exec row s = .next (noJob s1 (match d with
      | .free => s1.cap.freeBuf b
      | .freeze => { s1.cap with bufs := s1.cap.bufs.set b { s.cap.bufs[b] with state := .frozen } })))

/-- REFETCH_CLAIM_GRANTED: a waiting claim whose slot has no buffer takes the lowest FREE buffer; with none FREE, the
READY staging buffer of the lowest channel, whose slot is COMMITTED again; otherwise it waits. The buffer is LOADING for
the slot, and its reads are planned (R59, R60, R61, R73; log 13).

The refetch outstanding is cancelled: the Transmit Engine and the Capture Unit forget it, and its buffer, if it has one,
is FREE: at once when READY or when no read into it is granted, otherwise when that read ends (R66, R74). A job ended
before its reads are done leaves the list with its waiting request; its buffer is FREE, or FROZEN with its bytes. -/
def Obligations.RefetchGranted : Prop := (∀ (s : State), s.on →
  let claim (q : Refetch) := s.cap.refetch = some q ∧ q.buf = none ∧ (s.cap.slot? q.chan q.slot).bind (·.buf) = none
  let granted (q : Refetch) (b : Buf) (u : CaptureUnit) : State :=
    let v := (u.onSlot q.chan q.slot (fun z => { z with buf := some b }))
    planReads true q.chan q.slot q.len b { s with cap := { v with
      bufs := u.bufs.set b ⟨.loading, some .refetch, some (q.chan, q.slot), []⟩, refetch := some { q with buf := some b } } }
  let reclaimable (c : Chan) (b : Buf) := s.cap.bufs[b].state = .ready ∧ s.cap.bufs[b].purpose = some .staging
    ∧ ∃ x, s.cap.slot? c s.cap.rings[c].transmitCursor = some x ∧ x.state = .ready ∧ x.buf = some b
  ((∀ q, ¬ claim q) → exec .refetchClaimGranted s = .next s)
  ∧ ∀ q, claim q →
    (∀ b, s.cap.freeBuf? = some b → exec .refetchClaimGranted s = .next (granted q b s.cap))
    ∧ (∀ c b, s.cap.freeBuf? = none → reclaimable c b → (∀ d, d < c → ∀ k, ¬ reclaimable d k) →
      exec .refetchClaimGranted s = .next (granted q b (s.cap.onSlot c s.cap.rings[c].transmitCursor
        (fun z => { z with state := .committed, buf := none }))))
    ∧ (s.cap.freeBuf? = none → (∀ c b, ¬ reclaimable c b) → exec .refetchClaimGranted s = .next s))
  ∧ (∀ s : State,
    let s1 := { s with tx := { s.tx with refetch := none } }
    let s2 := { s1 with cap := { s.cap with refetch := none } }
    (s.tx.refetch = none → cancelRefetch s = s)
    ∧ (s.tx.refetch ≠ none → s.cap.refetch = none → cancelRefetch s = s1)
    ∧ ∀ q, s.tx.refetch ≠ none → s.cap.refetch = some q →
      (q.buf = none → cancelRefetch s = s2)
      ∧ ∀ b, q.buf = some b →
        (s.cap.bufs[b].state = .loading → cancelRefetch s = dropJob b .free s2)
        ∧ (s.cap.bufs[b].state = .ready → cancelRefetch s = { s2 with cap := s2.cap.freeBuf b }))
  ∧ (∀ (s : State) (b : Buf) (d : Drop),
    let jobs := s.cap.jobs.map (fun j => if j.buf = b then { j with drop := some d } else j)
    let s1 := { s with
      cap := { s.cap with jobs := s.cap.jobs.filter (fun j => decide (j.buf ≠ b)) }
      reqs := { s.reqs with captureRead := if s.reqs.readsInto b then none else s.reqs.captureRead } }
    let frozen : Buffer := { s.cap.bufs[b] with state := .frozen }
    (s.port.readingInto b = true → dropJob b d s = { s with cap := { s.cap with jobs := jobs } })
    ∧ (s.port.readingInto b = false → d = .free → dropJob b d s = presentRead { s1 with cap := s1.cap.freeBuf b })
    ∧ (s.port.readingInto b = false → d = .freeze →
      dropJob b d s = presentRead { s1 with cap := { s1.cap with bufs := s.cap.bufs.set b frozen } }))
  ∧ ∀ (u : CaptureUnit) (b : Buf),
    let bufs := u.bufs.set b ⟨.free, none, none, []⟩
    (u.bufs[b].binding = none → u.freeBuf b = { u with bufs := bufs })
    ∧ ∀ c i, u.bufs[b].binding = some (c, i) →
      let slots := u.rings[c].slots.modify i (fun x => { x with buf := if x.buf = some b then none else x.buf })
      u.freeBuf b = { u with bufs := bufs, rings := u.rings.set c { u.rings[c] with slots := slots } }

/-- The header burst of a write-back ended: MEMORY_FAULT if it faulted, and header word 0 requested in either case. Its
word 0 write ended, likewise in either case: the slot is OPEN with nothing recorded, the next write-back starts, the
counter of the status is raised, SLOT_DONE is posted if notify was 1, and a STOPPING channel all of whose slots are OPEN
is OFF, with STOP_CHANNEL ended (R76, R77, R80). The length 0 and notify bit 0 of an OPEN slot, and the cursors 0 of a
channel that is OFF, are the model's choice (log 40). -/
def Obligations.WritebackEnds : Prop := ∀ (s : State) (r : DevReq) (e : AccessEnd) (c : Chan) (i : Nat)
  (rest : List (Chan × Nat)) (x : OutSlot) (d : Completion), s.cap.wbQueue = (c, i) :: rest →
  s.cap.slot? c i = some x → x.done = some d →
  let s1 := postFaultIf e c .record r.addr (endDevice r e s)
  (s.serves .wbHeader r → exec (.writebackHeaderBurstEnd e) s = .next { s1 with
    cap := { s.cap with wbPhase := .word0 }
    reqs := { s1.reqs with captureRecord := some ⟨.wbWord0, true, s.wm.slotAddr c i,
      [⟨15#4, headerWord0 x.length x.notify d.status⟩]⟩ } })
  ∧ (s.serves .wbWord0 r →
    let slots := s.cap.rings[c].slots.set i ⟨.open, none, 0, false, none⟩
    let s2 := startWriteback { s1 with cap := { s.cap with
      rings := s.cap.rings.set c { s.cap.rings[c] with slots := slots }, wbQueue := rest, wbPhase := .idle } }
    let refused := d.status = .refusedClosed ∨ d.status = .refusedNoSlot ∨ d.status = .refusedTooLong
      ∨ d.status = .refusedFault
    let s3 := { s2 with ev := { s2.ev with counters :=
      if d.status = .delivered then s2.ev.counters.deliver c
      else if refused then s2.ev.counters.refuse c else s2.ev.counters } }
    let s4 := if x.notify then post .slotDone c (BitVec.ofNat 32 i) (BitVec.ofNat 32 d.status.code) s3 else s3
    let drained := s.wm.isStopping c = true ∧ ∀ y ∈ slots, y.state = .open
    (¬ drained → exec (.writebackWord0End e) s = .next s4)
    ∧ (drained → exec (.writebackWord0End e) s = .next (endCommand .done 0#32 { s4 with
      wm := { s.wm with chans := s.wm.chans.set c { s.wm.chans[c] with state := .off } }
      cap := { s4.cap with rings := s4.cap.rings.set c ⟨[], 0, 0⟩ } })))

/-! ### Link (Chapter 5) -/

/-- The layout of a frame's words (section 5.2): word 0 of each kind; an ACK's entry words; a CREDIT's word 1; a DATA
frame's user word and payload words, payload byte k in lane k mod 4 of payload word k div 4, the rest of the last word
0. Every bit that no field names is 0; so is the heard epoch of an INIT that has heard none (the model's choice: log
37). The CRC word of words (R87): bytes in the order of R85, a reflected register of ones, complemented; its check
value.

Of a frame that is accepted the named bits of its words are its fields (section 5.2); the others are ignored.

A round trip: a frame sent on a lane whose receiver is in lock and between frames is heard there as that frame,
whatever its fields: start marker, data words, CRC word, end marker (R83, R85 to R89). -/
def Obligations.FramesRoundTrip : Prop :=
  (∀ (d c : Chan) (q : Seq) (user : Word) (p : List Byte) (t : Option Seq) (rs : List RefusalEntry) (r : RefusalEntry)
    (o : Bool) (g : BitVec 8) (v : BitVec 16) (e : Epoch) (h : Option Epoch),
    (p.length ≤ 1008 → ∃ w, (Frame.data d q user p).body = w :: user :: wordsOfBytes p
      ∧ w.toNat = 1 + d.val * 2 ^ 4 + q.toNat * 2 ^ 8 + p.length * 2 ^ 20)
    ∧ (rs.length ≤ 32 → ∃ w, (Frame.ack t rs).body = w :: rs.map refusalWord
      ∧ w.toNat = 2 + rs.length * 2 ^ 4 + (t.getD 0#12).toNat * 2 ^ 12 + t.isSome.toNat * 2 ^ 24)
    ∧ (refusalWord r).toNat = r.seq.toNat + r.chan.val * 2 ^ 12 + r.reason.code * 2 ^ 16
    ∧ (∃ w, (Frame.nak q).body = [w] ∧ w.toNat = 3 + q.toNat * 2 ^ 12)
    ∧ (∃ w x, (Frame.credit c o g v).body = [w, x] ∧ x.toNat = v.toNat
      ∧ w.toNat = 4 + c.val * 2 ^ 4 + o.toNat * 2 ^ 8 + g.toNat * 2 ^ 16)
    ∧ (∃ w, (Frame.init e h).body = [w]
      ∧ w.toNat = 5 + h.isSome.toNat * 2 ^ 4 + e.toNat * 2 ^ 8 + (h.getD 0#8).toNat * 2 ^ 16))
  ∧ (∀ p : List Byte, (wordsOfBytes p).length = (p.length + 3) / 4
    ∧ ∀ k w j, (wordsOfBytes p)[k]? = some w → j < 4 → lane w j = p.getD (4 * k + j) 0#8)
  ∧ (let bit (r : Word) : Word := if r.getLsbD 0 then (r >>> 1) ^^^ 0xEDB88320#32 else r >>> 1
     let byte (r : Word) (b : Byte) : Word := bit (bit (bit (bit (bit (bit (bit (bit (r ^^^ b.zeroExtend 32))))))))
     (∀ j < 32, (0xEDB88320#32).getLsbD j = (0x04C11DB7#32).getLsbD (31 - j))
     ∧ (∀ bs : List Byte, crcBytes bs = ~~~ (bs.foldl byte 0xFFFFFFFF#32))
     ∧ (∀ ws : List Word, crcWords ws = crcBytes (ws.flatMap (fun w => [lane w 0, lane w 1, lane w 2, lane w 3])))
     ∧ crcBytes [0x31#8, 0x32#8, 0x33#8, 0x34#8, 0x35#8, 0x36#8, 0x37#8, 0x38#8, 0x39#8] = 0xCBF43926#32)
  ∧ (∀ (w : Word) (rest : List Word),
    let field (lo n : Nat) : Nat := w.toNat / 2 ^ lo % 2 ^ n
    (∀ d q user p, parseFrame (w :: rest) = some (.data d q user p) →
      field 0 4 = 1 ∧ d.val = field 4 4 ∧ q.toNat = field 8 12 ∧ p.length = field 20 10 ∧ rest.head? = some user
      ∧ ∀ (k : Nat) (b : Byte), p[k]? = some b → ∃ x : Word, rest[1 + k / 4]? = some x ∧ b = lane x (k % 4))
    ∧ (∀ t rs, parseFrame (w :: rest) = some (.ack t rs) →
      field 0 4 = 2 ∧ rs.length = field 4 6 ∧ t.isSome.toNat = field 24 1 ∧ (∀ q, t = some q → q.toNat = field 12 12)
      ∧ ∀ (k : Nat) (r : RefusalEntry), rs[k]? = some r → ∃ x : Word, rest[k]? = some x ∧ r.seq.toNat = x.toNat % 2 ^ 12
        ∧ r.chan.val = x.toNat / 2 ^ 12 % 2 ^ 4 ∧ r.reason.code = x.toNat / 2 ^ 16 % 2 ^ 2)
    ∧ (∀ q, parseFrame (w :: rest) = some (.nak q) → field 0 4 = 3 ∧ q.toNat = field 12 12)
    ∧ (∀ c o g v, parseFrame (w :: rest) = some (.credit c o g v) →
      field 0 4 = 4 ∧ c.val = field 4 4 ∧ o.toNat = field 8 1 ∧ g.toNat = field 16 8
      ∧ ∃ x : Word, rest = [x] ∧ v.toNat = x.toNat % 2 ^ 16)
    ∧ ∀ e h, parseFrame (w :: rest) = some (.init e h) →
      field 0 4 = 5 ∧ h.isSome.toNat = field 4 1 ∧ e.toNat = field 8 8 ∧ ∀ x, h = some x → x.toNat = field 16 8)
  ∧ ∀ (f : Frame) (s : State) (k : Nat), f.inRange → s.resetLow = false →
  s.link.state ≠ .off → s.link.rx = ⟨true, k, none⟩ →
  let lane : List LinkWord := .startMark :: (f.body ++ [crcWords f.body]).map .data ++ [.endMark]
  s.hears lane ⟨true, 0, none⟩ f

/-- The link reset with a cause: counted; LINK_DOWN posted from SYNC and UP and for LINK_DISABLE; OFF for LINK_DISABLE
and DOWN otherwise; the cause, the stopped timers, no INIT request, four notices with four acknowledgements outstanding,
the detector stopped for LINK_DISABLE; the frame on the outgoing lane abandoned, and the lane silent in OFF and idle
otherwise; the status word called for (R83, R84, R101, R102, R106). -/
def Obligations.LinkResetSteps : Prop := ∀ (cause : Cause) (s : State),
  let down := s.link.state = .sync ∨ s.link.state = .up ∨ cause = .linkDisable
  let s0 := { s with ev := { s.ev with counters := { s.ev.counters with linkResets := s.ev.counters.linkResets + 1 } } }
  let s1 := if down then post .linkDown 0 (BitVec.ofNat 32 cause.code) 0#32 s0 else s0
  linkReset cause s = callStatus { s1 with
    link := { s.link with
      state := if cause = .linkDisable then .off else .down
      changes := s.link.changes + 1, lastCause := cause, syncTimer := none, initTimer := none, initRequest := false
      txNotices := s.link.txNotices + 1, capNotices := s.link.capNotices + 1
      landNotices := s.link.landNotices + 1, credNotices := s.link.credNotices + 1
      acks := s.link.acks + 4
      rx := if cause = .linkDisable then ⟨false, 0, none⟩ else s.link.rx }
    tx := { s.tx with sending := none, abandoned := s.tx.abandoned ++ s.tx.sending.toList }
    laneOut := if cause = .linkDisable then [none] else [some .idle] }

/-- The four notices of a link reset. A row whose block has no notice changes nothing; otherwise the block does its
part, changes nothing else, and acknowledges. What had been handed to a block and not taken is discarded (R90).
Transmit: every replay entry's slot LINK_LOST with its sent-frame fields, in list order, then no entry, pass, refetch
or request, sequence 0, timer stopped. Capture: the refetch cancelled; every STAGING or READY slot COMMITTED, a
capture buffer FROZEN with its bytes, any other FREE, both once a granted read has ended; no cursor moves and no other
slot changes state. Landing: sequence 0, refusal list, disposed-through, NAK flag and batch cleared, only a begun
landing kept; the slots of the discarded landings POSTED again from the youngest to the oldest, the land cursor at the
oldest, and drains that this completes. Credit: posted totals forgotten, send records as after pin reset, refresh
stopped (R54, R81, R101, R126, R127, R139, R154, R159, R160).

One acknowledgement: the count falls by 1; as long as one is outstanding nothing else happens. At the last one a
RUNNING LINK_DISABLE ends with DONE, and in DOWN with lock held SYNC is entered (R94, R95, R101). -/
def Obligations.LinkResetNotices : Prop :=
  (∀ s : State, s.on →
  ((s.link.txNotices = 0 → exec .transmitLinkReset s = .next s)
    ∧ (s.link.txNotices ≠ 0 →
      let s0 := { s with
        link := { s.link with txNotices := s.link.txNotices - 1 }, tx := { s.tx with replay := [] } }
      let lost (u : State) (x : ReplayEntry) : State :=
        completeSlot x.chan x.slot .linkLost (some ⟨x.seq, s.link.localEpoch, x.sends⟩)
          (if u.tx.refetch = some x.seq then cancelRefetch u else u)
      let u := cancelRefetch (s.tx.replay.foldl lost s0)
      ∃ t, exec .transmitLinkReset s = .next t
      ∧ t = acknowledge { u with tx := { u.tx with
          pass := none, nextSeq := 0#12, ackTimer := none, queue := [], inbox := [] } }
      ∧ t.tx = { s.tx with
        replay := [], nextSeq := 0#12, pass := none, refetch := none, ackTimer := none, queue := [], inbox := [] }
      ∧ t.link.txNotices = s.link.txNotices - 1 ∧ t.link.acks = s.link.acks - 1
      ∧ ∀ x ∈ s.tx.replay, ∀ y, s.cap.slot? x.chan x.slot = some y → ∃ z q,
        t.cap.slot? x.chan x.slot = some z ∧ z.state = .completing ∧ z.done = some ⟨.linkLost, s.timebase, some q⟩
        ∧ ((∀ w ∈ s.tx.replay, (w.chan, w.slot) = (x.chan, x.slot) → w = x) →
          q = ⟨x.seq, s.link.localEpoch, x.sends⟩)))
  ∧ ((s.link.capNotices = 0 → exec .captureLinkReset s = .next s)
    ∧ (s.link.capNotices ≠ 0 → ∃ u : State, exec .captureLinkReset s = .next (acknowledge u)
      ∧ u = { s with
        cap := { s.cap with rings := u.cap.rings, bufs := u.cap.bufs, jobs := u.cap.jobs, refetch := none }
        reqs := { s.reqs with captureRead := u.reqs.captureRead }
        link := { s.link with capNotices := s.link.capNotices - 1 } }
      ∧ (∀ c : Chan, u.cap.rings[c].commitCursor = s.cap.rings[c].commitCursor
        ∧ u.cap.rings[c].transmitCursor = s.cap.rings[c].transmitCursor)
      ∧ (∀ c i, s.cap.slot? c i = none → u.cap.slot? c i = none)
      ∧ (∀ c i x, s.cap.slot? c i = some x → ∃ y, u.cap.slot? c i = some y
        ∧ y = { x with state := y.state, buf := y.buf } ∧ (y.buf = x.buf ∨ y.buf = none)
        ∧ (y.state = x.state ∨ (y.state = .committed ∧ (x.state = .staging ∨ x.state = .ready)))
        ∧ (y.buf ≠ none → y.state ≠ .staging ∧ y.state ≠ .ready))
      ∧ (∀ b : Buf, (∀ c i x, s.cap.slot? c i = some x → x.buf = some b → x.state ≠ .staging ∧ x.state ≠ .ready) →
        (∀ q, s.cap.refetch = some q → q.buf ≠ some b) → u.cap.bufs[b] = s.cap.bufs[b])
      ∧ ∀ (b : Buf) (c : Chan) (i : Nat) (x : OutSlot), s.cap.slot? c i = some x → x.buf = some b →
        s.cap.bufs[b].binding = some (c, i) → (∀ d j y, s.cap.slot? d j = some y → y.buf = some b → (d, j) = (c, i)) →
        let is (y : OutSlot) (z : Buffer) := u.cap.slot? c i = some y ∧ u.cap.bufs[b] = z
        let kept : OutSlot := { x with state := .committed }
        let bare : OutSlot := { x with state := .committed, buf := none }
        let frozen : Buffer := { s.cap.bufs[b] with state := .frozen }
        let free : Buffer := ⟨.free, none, none, []⟩
        let capture := s.cap.bufs[b].purpose = some .capture
        let reading := s.port.readingInto b = true
        let dropped (d : Drop) := ∀ j ∈ u.cap.jobs, j.buf = b → j.drop = some d
        let none_ := ∀ j ∈ u.cap.jobs, j.buf ≠ b
        ((∀ q, s.cap.refetch = some q → q.buf ≠ some b) →
          (x.state = .ready → capture → is kept frozen) ∧ (x.state = .ready → ¬ capture → is bare free)
          ∧ (x.state = .staging → ¬ reading → capture → is kept frozen ∧ none_)
          ∧ (x.state = .staging → ¬ reading → ¬ capture → is bare free ∧ none_)
          ∧ (x.state = .staging → reading → is kept s.cap.bufs[b] ∧ (capture → dropped .freeze)
            ∧ (¬ capture → dropped .free)))
        ∧ ∀ q, s.cap.refetch = some q → q.buf = some b → x.state ≠ .staging → x.state ≠ .ready →
          (s.cap.bufs[b].state = .ready → is { x with buf := none } free)
          ∧ (s.cap.bufs[b].state = .loading → ¬ reading → is { x with buf := none } free ∧ none_)
          ∧ (s.cap.bufs[b].state = .loading → reading → is x s.cap.bufs[b] ∧ dropped .free)))
  ∧ ((s.link.landNotices = 0 → exec .landingLinkReset s = .next s)
    ∧ (s.link.landNotices ≠ 0 →
      let back (e : LandEntry) (u : State) : State := match e.verdict with
        | .refusal _ => u
        | .landing l =>
          let ring : InRing := ⟨u.land.rings[e.chan].slots.modify l.slot (fun x => { x with state := .posted }),
            u.land.rings[e.chan].releaseCursor, l.slot⟩
          leaveLanding e.chan l.slot (reportPosted e.chan
            { u with land := { u.land with rings := u.land.rings.set e.chan ring } })
      let after (kept out : List LandEntry) (waiting : Option DevReq) : State :=
        acknowledge ((List.finRange 16).foldl (fun u c => finishInDrain c u) (out.foldr back { s with
          link := { s.link with landNotices := s.link.landNotices - 1 }
          land := { s.land with
            expected := 0#12, disposed := none, refusals := [], nakFlag := false, batch := 0, ackDelay := none
            queue := kept, inbox := [] }
          reqs := { s.reqs with landing := waiting } }))
      let returned (t : State) (out : List LandEntry) :=
        ∀ front e l rest, out = front ++ e :: rest → e.verdict = .landing l → s.wm.isStopping e.chan = false →
          (t.land.slot? e.chan l.slot).map (·.state) = (s.land.slot? e.chan l.slot).map (fun _ => InState.posted)
          ∧ ((∀ f ∈ front, f.chan = e.chan → ∃ r, f.verdict = .refusal r) →
            t.land.rings[e.chan].landCursor = l.slot)
      ∃ t, exec .landingLinkReset s = .next t
      ∧ t.land.expected = 0#12 ∧ t.land.disposed = none ∧ t.land.refusals = [] ∧ t.land.nakFlag = false
      ∧ t.land.batch = 0 ∧ t.land.ackDelay = none ∧ t.land.inbox = []
      ∧ t.link.landNotices = s.link.landNotices - 1 ∧ t.link.acks = s.link.acks - 1
      ∧ (∀ e l rest, s.lands e l rest → l.begun = true →
          t.land.queue = [{ e with verdict := .landing { l with kept := true } }] ∧ returned t rest
          ∧ t = after [{ e with verdict := .landing { l with kept := true } }] rest s.reqs.landing)
      ∧ ((∀ e l rest, s.lands e l rest → l.begun = false) → t.land.queue = [] ∧ t.reqs.landing = none
          ∧ returned t s.land.queue ∧ t = after [] s.land.queue none)))
  ∧ (s.link.credNotices = 0 → exec .creditLinkReset s = .next s)
  ∧ (s.link.credNotices ≠ 0 →
    let recv : Vector RecvRecord 16 := Vector.ofFn (fun c : Chan => ⟨s.cred.recv[c].generation,
      match s.cred.recv[c].posted with
      | .total _ => .unknown
      | p => p, false⟩)
    exec .creditLinkReset s = .next (acknowledge { s with
      cred := ⟨recv, Vector.replicate 16 ⟨0#16, none, none, .unknown⟩, none, []⟩
      link := { s.link with credNotices := s.link.credNotices - 1 } })))
  ∧ (∀ s : State,
  let s1 := { s with link := { s.link with acks := s.link.acks - 1 } }
  let disabling := ∃ c, s.cmd.executing = some ⟨c, .running⟩ ∧ c.code = 5#8
  (2 ≤ s.link.acks → acknowledge s = s1)
  ∧ (s.link.acks ≤ 1 →
    (∀ c, s.cmd.executing = some ⟨c, .running⟩ → c.code = 5#8 → s.link.state ≠ .down →
      acknowledge s = s1.answers c .done 0#32)
    ∧ (¬ disabling → s.link.state = .down → s.link.rx.lock = true → acknowledge s = s1.entersSync)
    ∧ (¬ disabling → (s.link.state ≠ .down ∨ s.link.rx.lock = false) → acknowledge s = s1)))

/-- A change of link state calls for a status write: requested, or presented again, with the current word; with one in
progress, one more after it. The status word's fields. The end of a status write: MEMORY_FAULT if it faulted, and the
write that was called for meanwhile (R102).

The link record read ended: MEMORY_FAULT with the record's address; BAD_PARAMETER with the first of five checks that
fails; or the five fields installed, DOWN, the detector searching out of lock, idle words on the outgoing lane, the
status word called for, DONE (R83, R92, R93). -/
def Obligations.LinkAccessEnds : Prop :=
  ((∀ l : LinkController, (statusWord l).toNat = l.state.code + l.rx.lock.toNat * 2 ^ 2 + l.heard.isSome.toNat * 2 ^ 3
    + l.lastCause.code * 2 ^ 4 + l.localEpoch.toNat * 2 ^ 8 + (l.heard.getD 0#8).toNat * 2 ^ 16
    + l.changes.toNat * 2 ^ 24)
  ∧ ∀ s : State,
    let write (t : State) : DevReq := ⟨.linkStatus, true, t.wm.base + 0x2C, [⟨15#4, statusWord t.link⟩]⟩
    ((∃ r, s.port.granted = some (.device r) ∧ r.purpose = .linkStatus) →
      callStatus s = { s with link := { s.link with statusAgain := true } })
    ∧ ((∀ r, s.port.granted = some (.device r) → r.purpose ≠ .linkStatus) →
      callStatus s = { s with reqs := { s.reqs with linkStatus := some (write s) } })
    ∧ ∀ (r : DevReq) (e : AccessEnd), s.serves .linkStatus r →
      let s1 := postFaultIf e 0 .record r.addr (endDevice r e s)
      (s.link.statusAgain = false → exec (.linkStatusWriteEnd e) s = .next s1)
      ∧ (s.link.statusAgain = true → exec (.linkStatusWriteEnd e) s = .next { s1 with
        link := { s.link with statusAgain := false }, reqs := { s1.reqs with linkStatus := some (write s) } }))
  ∧ (∀ (s : State) (r : DevReq), s.serves .linkRecord r → r.write = false →
  r.words.length = 8 →
  (∀ kept data, exec (.linkRecordReadEnd (.fault kept data)) s = .next (endCommand .memoryFault (BitVec.ofNat 32 r.addr)
    (post .memoryFault 0 0#32 (BitVec.ofNat 32 r.addr) (endDevice r (.fault kept data) s))))
  ∧ let s1 := endDevice r .ok s
    let w0 := (memReadWord s.mem r.addr).toNat
    let w1 := (memReadWord s.mem ((r.addr + 4) % 268435456)).toNat
    let p : LinkParams := ⟨w0 % 16, w0 / 2 ^ 8 % 256, w0 / 2 ^ 16 % 256, w1 % 65536, w1 / 2 ^ 16⟩
    let bad1 := p.retryLimit = 0 ∨ 14 < p.retryLimit
    let bad2 := p.ackTimeout < 20
    let bad3 := p.ackDelay = 0
    let bad4 := p.creditRefresh < 50
    let bad5 := p.syncTimeout = 0
    let answer (n : Nat) := exec (.linkRecordReadEnd .ok) s = .next (endCommand .badParameter (BitVec.ofNat 32 n) s1)
    (bad1 → answer 1) ∧ (¬ bad1 → bad2 → answer 2) ∧ (¬ bad1 → ¬ bad2 → bad3 → answer 3)
    ∧ (¬ bad1 → ¬ bad2 → ¬ bad3 → bad4 → answer 4) ∧ (¬ bad1 → ¬ bad2 → ¬ bad3 → ¬ bad4 → bad5 → answer 5)
    ∧ (¬ bad1 → ¬ bad2 → ¬ bad3 → ¬ bad4 → ¬ bad5 →
      exec (.linkRecordReadEnd .ok) s = .next (endCommand .done 0#32 (callStatus { s1 with
        link := { s.link with
          state := .down, changes := s.link.changes + 1, params := some p, rx := ⟨false, 0, none⟩ }
        laneOut := match s.tx.sending with
          | none => [some .idle]
          | some x => sendWords x.words }))))

/-- Lane reports other than good frames, in any state but OFF (R84, R86, R88, R95, R101, R121). Out of lock, as many
good words as 8 lacks find lock: in DOWN with no acknowledgement outstanding SYNC is entered. In lock and between
frames, as many violations as 4 lacks lose it: in SYNC or UP a link reset with cause LOCK_LOST. A framing error and a
CRC error are counted, and in UP a framing error or one of kind DATA is reported: a NAK is asked for, or, behind
arrivals not yet taken, the report waits (the model's choice: log 35).

What each link word does to the detector and the receiver: out of lock the eighth good word in a row finds lock; in
lock the fourth violation in a row loses it; inside a frame an earlier violation, an idle word, a start marker, and a
data word past 260 are framing errors; the end marker ends the frame (R84, R86).

The order of the checks of a frame whose end marker has arrived: fewer than 2 words, the CRC, the shape (R88). The
shape is bad exactly for a kind code other than 1 to 5, a DATA length of 0 or above 1008, an ACK count above 32, and a
size, with the CRC word, that the kind and its fields do not give (R89). A NAK is asked for at most once for each
expected sequence (R121). -/
def Obligations.LaneReports : Prop :=
  (∀ (s : State) (ws : List LinkWord), s.on → s.link.state ≠ .off →
  let heardBy (rx : LaneRx) : State := { s with link := { s.link with rx := rx } }
  (s.link.rx.lock = false → s.link.rx.run < 8 → ws.length = 8 - s.link.rx.run → (∀ w ∈ ws, w ≠ .violation) →
    (s.link.state = .down → s.link.acks = 0 →
      exec (.lockAcquired ws) s = .next (heardBy ⟨true, 0, none⟩).entersSync)
    ∧ ((s.link.state ≠ .down ∨ s.link.acks ≠ 0) → exec (.lockAcquired ws) s = .next (heardBy ⟨true, 0, none⟩)))
  ∧ (s.link.rx.lock = true → s.link.rx.frame = none → s.link.rx.run < 4 →
    ws = List.replicate (4 - s.link.rx.run) .violation →
    (s.link.state ≠ .down → exec (.lockLost ws) s = .next (linkReset .lockLost (heardBy ⟨false, 0, none⟩)))
    ∧ (s.link.state = .down → exec (.lockLost ws) s = .next (heardBy ⟨false, 0, none⟩)))
  ∧ ∀ rx ev, runLane s.link.rx ws = some (rx, ev) →
    let counted (f : Counters → Counters) : State :=
      { heardBy rx with ev := { s.ev with counters := f s.ev.counters } }
    let reported (t : State) : State :=
      if s.land.inbox = [] then askNak t else { t with land := { s.land with inbox := s.land.inbox ++ [.damage] } }
    let framing := ev = .framing ∨ ∃ body, ev = .frameEnd body ∧ judgeFrame body = .framingError
    (framing → exec (.damagedFrame ws) s = .next
      (let t := counted (fun k => { k with framingErrors := k.framingErrors + 1 })
       if s.link.state = .up then reported t else t))
    ∧ ∀ body data, ev = .frameEnd body → judgeFrame body = .crcError data → exec (.damagedFrame ws) s = .next
      (let t := counted (fun k => { k with crcErrors := k.crcErrors + 1 })
       if data = true ∧ s.link.state = .up then reported t else t))
  ∧ ((∀ ws : List Word, ws.length < 2 → judgeFrame ws = .framingError)
  ∧ (∀ (ws : List Word) (crc : Word), ws ≠ [] → crc ≠ crcWords ws →
    judgeFrame (ws ++ [crc]) = .crcError (decide ((ws.headD 0#32).toNat % 16 = 1)))
  ∧ (∀ ws : List Word, ws ≠ [] →
    (parseFrame ws = none → judgeFrame (ws ++ [crcWords ws]) = .framingError)
    ∧ ∀ f, parseFrame ws = some f → judgeFrame (ws ++ [crcWords ws]) = .good f)
  ∧ (∀ (w : Word) (rest : List Word),
    let kind := w.toNat % 16
    let len := w.toNat / 2 ^ 20 % 1024
    let entries := w.toNat / 2 ^ 4 % 64
    let size := rest.length + 2
    parseFrame (w :: rest) = none ↔ (kind = 0 ∨ 5 < kind)
      ∨ (kind = 1 ∧ (len = 0 ∨ 1008 < len ∨ size ≠ 3 + (len + 3) / 4))
      ∨ (kind = 2 ∧ (32 < entries ∨ size ≠ 2 + entries))
      ∨ ((kind = 3 ∨ kind = 5) ∧ size ≠ 2) ∨ (kind = 4 ∧ size ≠ 3))
  ∧ ∀ s : State,
    (s.land.nakFlag = true → askNak s = s)
    ∧ (s.land.nakFlag = false →
      let queue := if s.link.state = .up ∧ CtlReq.nak ∉ s.tx.queue then s.tx.queue ++ [.nak] else s.tx.queue
      askNak s = { s with land := { s.land with nakFlag := true }, tx := { s.tx with queue := queue } }))
  ∧ (∀ (n : Nat) (f : Option (List Word)) (w : LinkWord),
    let out : LaneRx := ⟨false, n, f⟩
    let inLock : LaneRx := ⟨true, n, f⟩
    let between : LaneRx := ⟨true, 0, none⟩
    (w = .violation → laneWord out w = (⟨false, 0, f⟩, none))
    ∧ (w ≠ .violation → n ≠ 7 → laneWord out w = (⟨false, n + 1, f⟩, none))
    ∧ (w ≠ .violation → n = 7 → laneWord out w = (between, some .lockFound))
    ∧ (w = .violation → n = 3 → laneWord inLock w = (⟨false, 0, none⟩, some .lockLost))
    ∧ (w = .violation → n ≠ 3 → laneWord inLock w = (⟨true, n + 1, none⟩, if f = none then none else some .framing))
    ∧ (f = none → w = .startMark → laneWord inLock w = (⟨true, 0, some []⟩, none))
    ∧ (f = none → w ≠ .startMark → w ≠ .violation → laneWord inLock w = (between, none))
    ∧ ∀ ws, f = some ws →
      (∀ d, w = .data d → ws.length < 260 → laneWord inLock w = (⟨true, 0, some (ws ++ [d])⟩, none))
      ∧ (∀ d, w = .data d → 260 ≤ ws.length → laneWord inLock w = (between, some .framing))
      ∧ (w = .idle → laneWord inLock w = (between, some .framing))
      ∧ (w = .startMark → laneWord inLock w = (⟨true, 0, some []⟩, some .framing))
      ∧ (w = .endMark → laneWord inLock w = (between, some (.frameEnd ws))))
  ∧ ∀ (rx rx' : LaneRx) (w : LinkWord) (rest : List LinkWord) (ev : LaneEvent), runLane rx [] = none
    ∧ (laneWord rx w = (rx', none) → runLane rx (w :: rest) = runLane rx' rest)
    ∧ (laneWord rx w = (rx', some ev) → runLane rx (w :: rest) = if rest = [] then some (rx', ev) else none)

/-- A good INIT. In SYNC its epoch is heard, and if it has heard this bring-up the link is UP: timers stopped, an INIT
request pending, LINK_UP posted, credits begun, the status word called for. In UP a new epoch is a link reset with cause
PEER_RESTART. In DOWN it has no effect (R90, R97 to R99). -/
def Obligations.InitReceived : Prop := ∀ (s : State) (ws : List LinkWord) (rx : LaneRx) (e : Epoch) (h : Option Epoch),
  s.hears ws rx (.init e h) →
  let s1 := { s with link := { s.link with rx := rx } }
  let s2 := { s with link := { s.link with rx := rx, heard := some e } }
  (s.link.state = .sync →
    (h ≠ some s.link.localEpoch → exec (.initReceived ws) s = .next s2)
    ∧ (h = some s.link.localEpoch → exec (.initReceived ws) s = .next (callStatus (creditLinkUp
        (post .linkUp 0 (s.link.localEpoch.zeroExtend 32) 0#32 { s2 with link := { s2.link with
          state := .up, changes := s.link.changes + 1, syncTimer := none, initTimer := none
          initRequest := true } })))))
  ∧ (s.link.state = .up →
    (s.link.heard = some e → exec (.initReceived ws) s = .next s1)
    ∧ (s.link.heard ≠ some e → exec (.initReceived ws) s = .next (linkReset .peerRestart s1)))
  ∧ (s.link.state = .down → exec (.initReceived ws) s = .next s1)

/-- Timers at their expiry, taken only when due (log 12). The INIT timer in SYNC: the request pending, the timer again
100 µs. The sync timer in SYNC: a link reset with cause SYNC_TIMEOUT. The ack delay: an ACK queued, the timer stopped
(R96, R100, R124). -/
def Obligations.LinkTimers : Prop := ∀ s : State, s.on →
  ((s.link.initTimer = some 0 ∧ s.link.state = .sync →
      exec .initTimerExpiry s = .next { s with link := { s.link with initRequest := true, initTimer := some 100 } })
    ∧ (¬ (s.link.initTimer = some 0 ∧ s.link.state = .sync) → exec .initTimerExpiry s = .next s))
  ∧ ((s.link.syncTimer = some 0 ∧ s.link.state = .sync →
      exec .syncTimerExpiry s = .next (linkReset .syncTimeout s))
    ∧ (¬ (s.link.syncTimer = some 0 ∧ s.link.state = .sync) → exec .syncTimerExpiry s = .next s))
  ∧ (s.land.ackDelay ≠ some 0 → exec .ackDelayExpiry s = .next s)
  ∧ (s.land.ackDelay = some 0 →
      let queue := if s.link.state = .up ∧ CtlReq.ack ∉ s.tx.queue then s.tx.queue ++ [.ack] else s.tx.queue
      exec .ackDelayExpiry s = .next { s with
        land := { s.land with ackDelay := none }, tx := { s.tx with queue := queue } })

/-! ### Transmit (Chapter 6) -/

/-- The frames that go out before DATA, each at its turn with no frame on the lane: an INIT in SYNC and UP while the
request is pending; in UP with none pending the oldest request of the control frame queue. Each carries the state at
that moment; ACK carries the whole refusal list and resets the batch, NAK is counted, CREDIT clears its queued flag.
Out of its turn a row changes nothing (R96, R104, R105, R124, R125, R130; log 28 for a total that is no number).

A CREDIT says OPEN for a channel that is ACTIVE and INBOUND, and carries the Credit Unit's generation, or the Window
Matcher's while the channel is OFF (R128, R130). -/
def Obligations.ControlSends : Prop :=
  (∀ s : State, s.on →
  let initTurn := s.tx.sending = none ∧ s.link.initRequest = true ∧ (s.link.state = .sync ∨ s.link.state = .up)
  let turn := s.tx.sending = none ∧ s.link.initRequest = false ∧ s.link.state = .up
  let next (q : CtlReq) := turn ∧ s.tx.queue.head? = some q
  let popped := { s with tx := { s.tx with queue := s.tx.queue.tail } }
  ((¬ initTurn → exec .sendInit s = .next s)
    ∧ (initTurn → exec .sendInit s = .next
      { s.sends (.init s.link.localEpoch s.link.heard) none with link := { s.link with initRequest := false } }))
  ∧ ((¬ next .ack → exec .sendAck s = .next s)
    ∧ (next .ack → exec .sendAck s = .next { popped.sends (.ack s.land.disposed s.land.refusals) none with
        land := { s.land with batch := 0, ackDelay := none } })
    ∧ (¬ next .nak → exec .sendNak s = .next s)
    ∧ (next .nak → exec .sendNak s = .next { popped.sends (.nak s.land.expected) none with
        ev := { s.ev with counters := { s.ev.counters with naksSent := s.ev.counters.naksSent + 1 } } })
    ∧ ((∀ c, ¬ next (.credit c)) → exec .sendCredit s = .next s)
    ∧ ∀ (c : Chan), next (.credit c) →
      (∀ n, s.cred.recv[c].posted = .total n →
        let record : RecvRecord := { s.cred.recv[c] with queued := false }
        exec .sendCredit s = .next
          { popped.sends (.credit c (creditOpen c s) (creditGeneration c s) n) none with
            cred := { s.cred with recv := s.cred.recv.set c record } })
      ∧ ((∀ n, s.cred.recv[c].posted ≠ .total n) → exec .sendCredit s = .next s)))
  ∧ (∀ (s : State) (c : Chan),
  (creditOpen c s = true ↔ ∃ cfg, s.wm.chans[c].state = .active cfg ∧ cfg.isInbound = true)
  ∧ (s.wm.chans[c].state = .off → creditGeneration c s = s.wm.chans[c].generation)
  ∧ (s.wm.chans[c].state ≠ .off → creditGeneration c s = s.cred.recv[c].generation))

/-- FIRST_SEND: with the lane free, no INIT or control request, no pass and a place in the replay list, the first
channel after the last served whose slot at the transmit cursor is READY, its record OPEN and in credit, sends it: a
DATA frame with the next sequence and the buffer's bytes, a replay entry, IN_FLIGHT, SENDING, the cursor on, the
credit charged, the ack timer started for a first entry (R55, R70, R71, R104, R107 to R109, R137).

The bytes of a frame in a buffer: user word from bytes 0 to 3, payload byte k at 4 + k (R42, R71, R85). -/
def Obligations.FirstSends : Prop :=
  (∀ s : State, s.on →
  let turn := s.tx.sending = none ∧ s.link.initRequest = false ∧ s.link.state = .up ∧ s.tx.queue = []
    ∧ s.tx.pass = none ∧ s.tx.replay.length < 32
  let offers (c : Chan) (x : OutSlot) (b : Buf) := s.cap.slot? c s.cap.rings[c].transmitCursor = some x
    ∧ x.state = .ready ∧ x.buf = some b ∧ (sendRecord s c).peer = .open ∧ 0 < (sendRecord s c).available
  (¬ turn → exec .firstSend s = .next s)
  ∧ ((∀ c x b, ¬ offers c x b) → exec .firstSend s = .next s)
  ∧ ∀ (k d : Chan) (x : OutSlot) (b : Buf) (cfg : ChanCfg), turn →
    let c := s.tx.lastServed + 1 + k
    offers c x b → (∀ m, m < k → ∀ y a, ¬ offers (s.tx.lastServed + 1 + m) y a) →
    s.wm.cfg? c = some cfg → cfg.dest? = some d →
    let ring := s.cap.rings[c]
    let i := ring.transmitCursor
    let sent : Buffer := { s.cap.bufs[b] with state := .sending }
    let slots := ring.slots.set i { x with state := .inFlight }
    let frame : Frame := .data d s.tx.nextSeq s.cap.bufs[b].user (s.cap.bufs[b].payload x.length)
    exec .firstSend s = .next { s.sends frame (some b) with
      tx := { (s.sends frame (some b)).tx with
        nextSeq := s.tx.nextSeq + 1
        replay := s.tx.replay ++ [⟨s.tx.nextSeq, c, i, x.length, 1, none⟩]
        ackTimer := if s.tx.replay = [] then some s.link.ackInterval else s.tx.ackTimer
        lastServed := c }
      cap := { s.cap with
        bufs := s.cap.bufs.set b sent
        rings := s.cap.rings.set c { ring with slots := slots, transmitCursor := (i + 1) % ring.slots.length } }
      cred := { s.cred with send := s.cred.send.set d { s.cred.send[d] with sent := s.cred.send[d].sent + 1 } } })
  ∧ (∀ (x : Buffer) (len : Nat),
  (x.payload len).length = len
  ∧ (∀ k v, k < len → mapLookup x.bytes (4 + k) = some v → (x.payload len)[k]? = some v)
  ∧ ∀ j v, j < 4 → mapLookup x.bytes j = some v → lane x.user j = v)

/-- Where a pass position comes to rest: past the retry limit the pass is halted, the ack timer stopped, and in UP a
link reset with cause RETRY_LIMIT taken (at a send count of the limit plus 1, R116; past it too is the model's
reading: log 30); otherwise the entry's refetch is asked for, unless it is outstanding (R114, R116). RESEND sends the
refetched frame at the position with its send count raised, and moves the position to the next entry or ends the pass
(R104, R114). -/
def Obligations.Resends : Prop :=
  (∀ (x : ReplayEntry) (s : State),
    let pass := s.tx.pass.map (fun p => { p with halted := true })
    let halted := { s with tx := { s.tx with pass := pass, ackTimer := none } }
    (s.link.retries < x.sends → restOn x s = (if s.link.state = .up then linkReset .retryLimit halted else halted))
    ∧ (x.sends ≤ s.link.retries → s.tx.refetch = some x.seq → restOn x s = s)
    ∧ (x.sends ≤ s.link.retries → s.tx.refetch ≠ some x.seq → restOn x s = { s with
        tx := { s.tx with refetch := some x.seq }
        cap := { s.cap with refetch := some ⟨x.chan, x.slot, x.length, none⟩ } }))
  ∧ ∀ (s : State) (q : Seq) (x : ReplayEntry) (b : Buf) (f : Refetch) (cfg : ChanCfg) (d : Chan), s.on →
    s.tx.sending = none → s.link.initRequest = false → s.link.state = .up → s.tx.queue = [] →
    s.tx.pass = some ⟨q, false⟩ → s.tx.refetch = some q → s.tx.entry? q = some x →
    s.cap.refetch = some f → f.buf = some b → s.cap.bufs[b].state = .ready →
    s.wm.cfg? x.chan = some cfg → cfg.dest? = some d →
    let frame : Frame := .data d q s.cap.bufs[b].user (s.cap.bufs[b].payload x.length)
    let replay := s.tx.replay.map (fun y => if y.seq = q then { y with sends := y.sends + 1 } else y)
    let sent : Buffer := { s.cap.bufs[b] with state := .sending }
    let t (p : Option Pass) : State := { s.sends frame (some b) with
      tx := { (s.sends frame (some b)).tx with replay := replay, refetch := none, pass := p }
      cap := { s.cap with bufs := s.cap.bufs.set b sent, refetch := none } }
    (s.tx.entry? (q + 1) = none → exec .resend s = .next (t none))
    ∧ ∀ y, s.tx.entry? (q + 1) = some y → exec .resend s = .next (restOn y (t (some ⟨q + 1, false⟩)))

/-- A send ended whole: the lane is free, with idle words on it, and a DATA frame's buffer FREE. An abandoned send is
reported after the Transmit Engine has taken its part of the link reset, the oldest first, and frees its buffer (R72,
R83, R106; log 20; with two notices outstanding, after both: the model's choice, log 38). -/
def Obligations.SendEnds : Prop := ∀ s : State, s.on →
  let lane : List (Option LinkWord) := if s.link.state = .off then [none] else [some .idle]
  (s.tx.sending = none → exec (.frameSendEnd .whole) s = .next s)
  ∧ (∀ ws, s.tx.sending = some ⟨ws, none⟩ →
    exec (.frameSendEnd .whole) s = .next { s with tx := { s.tx with sending := none }, laneOut := lane })
  ∧ (∀ ws b, s.tx.sending = some ⟨ws, some b⟩ → s.cap.bufs[b].binding = none →
    exec (.frameSendEnd .whole) s = .next { s with
      tx := { s.tx with sending := none }
      laneOut := lane
      cap := { s.cap with bufs := s.cap.bufs.set b ⟨.free, none, none, []⟩ } })
  ∧ (∀ ws b c i, s.tx.sending = some ⟨ws, some b⟩ → s.cap.bufs[b].binding = some (c, i) →
    let unbound := s.cap.onSlot c i (fun x => { x with buf := if x.buf = some b then none else x.buf })
    exec (.frameSendEnd .whole) s = .next { s with
      tx := { s.tx with sending := none }
      laneOut := lane
      cap := { unbound with bufs := s.cap.bufs.set b ⟨.free, none, none, []⟩ } })
  ∧ ((s.tx.abandoned = [] ∨ s.link.txNotices ≠ 0) → exec (.frameSendEnd .abandoned) s = .next s)
  ∧ (∀ ws rest, s.tx.abandoned = ⟨ws, none⟩ :: rest → s.link.txNotices = 0 →
    exec (.frameSendEnd .abandoned) s = .next { s with tx := { s.tx with abandoned := rest } })
  ∧ ∀ ws b rest, s.tx.abandoned = ⟨ws, some b⟩ :: rest → s.link.txNotices = 0 →
    exec (.frameSendEnd .abandoned) s = .next { s with
      tx := { s.tx with abandoned := rest }, cap := s.cap.freeBuf b }

/-- A good ACK is handed to the Transmit Engine in UP, and has no effect otherwise (R90). The engine takes the oldest
frame handed to it (two steps: log 11): an ACK that names no replay entry is counted stale. One that names an entry
removes it and all before it, marks entries by its refusal entries, completes each removed entry's slot in list order
with DELIVERED or its refusal and the sent-frame fields, the refetch of a removed entry cancelled, and restarts or
stops the ack timer (R109, R110, R111, R115). With no pass that is all; a pass keeps a position that stays; it ends
with the list; otherwise it moves to the head: halted if it was, else resting there, with the refetch kept if it is
for that entry (R115; halted there by log 30's reading of R116). -/
def Obligations.AckReceived : Prop :=
  (∀ (s : State) (ws : List LinkWord) (rx : LaneRx) (dis : Option Seq) (rs : List RefusalEntry),
    s.hears ws rx (.ack dis rs) →
    exec (.ackReceived (.handed ws)) s = .next { s with
      link := { s.link with rx := rx }
      tx := { s.tx with inbox := if s.link.state = .up then s.tx.inbox ++ [.ack dis rs] else s.tx.inbox } })
  ∧ (∀ s : State, s.on → (∀ dis rs more, s.tx.inbox ≠ .ack dis rs :: more) → exec (.ackReceived .taken) s = .next s)
  ∧ (∀ (s : State) (dis : Option Seq) (rs : List RefusalEntry) (more : List TxArrival), s.on →
    s.tx.inbox = .ack dis rs :: more →
    let s1 := { s with tx := { s.tx with inbox := more } }
    ((∀ q, dis = some q → ∀ x ∈ s.tx.replay, x.seq ≠ q) → exec (.ackReceived .taken) s = .next
      { s1 with ev := { s.ev with counters := { s.ev.counters with staleFrames := s.ev.counters.staleFrames + 1 } } })
    ∧ ∀ q front x rest, dis = some q → s.tx.replay = front ++ x :: rest → x.seq = q → (∀ y ∈ front, y.seq ≠ q) →
      let left := rest.map (ReplayEntry.markedBy rs)
      let complete (u : State) (y : ReplayEntry) : State :=
        completeSlot y.chan y.slot (statusOfMark y.mark) (some ⟨y.seq, s.link.localEpoch, y.sends⟩)
          (if u.tx.refetch = some y.seq then cancelRefetch u else u)
      let t0 := ((front ++ [x]).map (ReplayEntry.markedBy rs)).foldl complete
        { s1 with tx := { s1.tx with replay := left } }
      let t (p : Option Pass) : State := { t0 with
        tx := { t0.tx with ackTimer := if rest = [] then none else some s.link.ackInterval, pass := p } }
      (s.tx.pass = none → exec (.ackReceived .taken) s = .next (t none))
      ∧ (∀ p, s.tx.pass = some p →
        (rest = [] → exec (.ackReceived .taken) s = .next (t none))
        ∧ ((∃ y ∈ rest, y.seq = p.pos) → exec (.ackReceived .taken) s = .next (t (some p)))
        ∧ ∀ y younger, rest = y :: younger → (∀ z ∈ rest, z.seq ≠ p.pos) →
          let moved := t (some ⟨y.seq, false⟩)
          (p.halted = true → exec (.ackReceived .taken) s = .next (t (some ⟨y.seq, true⟩)))
          ∧ (p.halted = false → exec (.ackReceived .taken) s = .next (restOn (y.markedBy rs)
            (if t0.tx.refetch = some y.seq then moved else cancelRefetch moved))))
      ∧ ∃ v, exec (.ackReceived .taken) s = .next v ∧ v.tx.replay = left ∧ v.tx.nextSeq = s.tx.nextSeq
        ∧ (∀ p, s.tx.pass = some p → rest = [] → v.tx.pass = none)
        ∧ (∀ p, s.tx.pass = some p → (∃ y ∈ rest, y.seq = p.pos) → v.tx.pass = some p)
        ∧ ∀ p y younger, s.tx.pass = some p → rest = y :: younger → (∀ z ∈ rest, z.seq ≠ p.pos) →
          ∃ h, v.tx.pass = some ⟨y.seq, h⟩ ∧ (h = true ↔ (p.halted = true ∨ s.link.retries < y.sends)))
  ∧ (statusOfMark none = .delivered ∧ statusOfMark (some .closed) = .refusedClosed
    ∧ statusOfMark (some .noSlot) = .refusedNoSlot ∧ statusOfMark (some .tooLong) = .refusedTooLong
    ∧ statusOfMark (some .landingFault) = .refusedFault)

/-- A good NAK is handed to the Transmit Engine in UP, and has no effect otherwise (R90). The engine takes the oldest
frame handed to it (two steps: log 11): a NAK is counted (in whatever link state it is taken: log 39); one that names
no entry is counted stale too; one that names an entry starts a pass there, or moves a pass that is not halted back to
it. The ack timer's expiry is counted, restarts the timer, and starts a pass at the head or moves one there. Both
count a replay pass started or moved; a move keeps the refetch outstanding only if it is that entry's (R112, R113,
R115, R116). -/
def Obligations.NakAndAckTimer : Prop := ∀ s : State,
  let passed (k : Counters) : Counters := { k with replayPasses := k.replayPasses + 1 }
  let starts (x : ReplayEntry) (u : State) : State := restOn x { u with
    ev := { u.ev with counters := passed u.ev.counters }, tx := { u.tx with pass := some ⟨x.seq, false⟩ } }
  let moves (x : ReplayEntry) (u : State) : State :=
    let v := { u with
      ev := { u.ev with counters := passed u.ev.counters }, tx := { u.tx with pass := some ⟨x.seq, false⟩ } }
    restOn x (if s.tx.refetch = some x.seq then v else cancelRefetch v)
  (∀ ws rx q, s.hears ws rx (.nak q) →
    exec (.nakReceived (.handed ws)) s = .next { s with
      link := { s.link with rx := rx }
      tx := { s.tx with inbox := if s.link.state = .up then s.tx.inbox ++ [.nak q] else s.tx.inbox } })
  ∧ (s.on → (∀ q more, s.tx.inbox ≠ .nak q :: more) → exec (.nakReceived .taken) s = .next s)
  ∧ (∀ q more, s.on → s.tx.inbox = .nak q :: more →
    let s2 := { s with
      tx := { s.tx with inbox := more }
      ev := { s.ev with counters := { s.ev.counters with naksReceived := s.ev.counters.naksReceived + 1 } } }
    (s.tx.entry? q = none → exec (.nakReceived .taken) s = .next { s2 with ev := { s2.ev with counters :=
      { s2.ev.counters with staleFrames := s.ev.counters.staleFrames + 1 } } })
    ∧ ∀ x, s.tx.entry? q = some x →
      (s.tx.pass = none → exec (.nakReceived .taken) s = .next (starts x s2))
      ∧ ∀ p, s.tx.pass = some p →
        (p.halted = false → seqBefore q p.pos = true → exec (.nakReceived .taken) s = .next (moves x s2))
        ∧ ((p.halted = true ∨ seqBefore q p.pos = false) → exec (.nakReceived .taken) s = .next s2))
  ∧ (s.on →
    (s.tx.ackTimer ≠ some 0 → exec .ackTimerExpiry s = .next s)
    ∧ (s.tx.ackTimer = some 0 →
      let s1 := { s with
        ev := { s.ev with counters := { s.ev.counters with ackTimeouts := s.ev.counters.ackTimeouts + 1 } }
        tx := { s.tx with ackTimer := some s.link.ackInterval } }
      (s.tx.replay = [] → exec .ackTimerExpiry s = .next s1)
      ∧ ∀ x rest, s.tx.replay = x :: rest →
        (s.tx.pass = none → exec .ackTimerExpiry s = .next (starts x s1))
        ∧ ∀ p, s.tx.pass = some p →
          (p.halted = false → exec .ackTimerExpiry s = .next (moves x s1))
          ∧ (p.halted = true → exec .ackTimerExpiry s = .next s1)))

/-! ### Landing (Chapters 6 and 8) -/

/-- A good DATA frame is handed to the Landing Engine in UP, and has no effect otherwise (R90). The engine takes the
oldest arrival (two steps: log 11): a damage report asks for a NAK (log 35); a DATA frame is placed by its sequence
against the expected one: expected, with a place in the landing queue, it is accepted, and turned away with a NAK
asked for otherwise; after it, a gap; one of the 32 before it with disposed-through not none, a duplicate, for which
an ACK is queued; else it is counted stale. Accepted, the expected sequence rises, the NAK flag clears, and the
verdict of R145 decides: CLOSED, TOO_LONG, NO_SLOT, which is a credit violation, or a landing into the slot at the
land cursor (R90, R119 to R121, R124, R145, R146).

The landing queue's order. An entry joins the tail. Alone, a refusal is disposed of at once and the queue is empty
again; a landing starts, in PAYLOAD with the first of the bursts that cover its payload requested (R122, R146, R147). -/
def Obligations.DataReceived : Prop :=
  (∀ (s : State) (ws : List LinkWord) (rx : LaneRx) (c : Chan) (q : Seq) (user : Word) (payload : List Byte),
    s.hears ws rx (.data c q user payload) →
    let handed := s.land.inbox ++ [.data c q user payload]
    exec (.dataReceived (.handed ws)) s = .next { s with
      link := { s.link with rx := rx }
      land := { s.land with inbox := if s.link.state = .up then handed else s.land.inbox } })
  ∧ (∀ s : State, s.on →
    (s.land.inbox = [] → exec (.dataReceived .taken) s = .next s)
    ∧ ∀ more, s.land.inbox = .damage :: more →
      exec (.dataReceived .taken) s = .next (askNak { s with land := { s.land with inbox := more } }))
  ∧ (∀ (s : State) (c : Chan) (q : Seq) (user : Word) (payload : List Byte) (more : List LandArrival), s.on →
  s.land.inbox = .data c q user payload :: more →
  let s1 := { s with land := { s.land with inbox := more } }
  let e := s.land.expected
  let ring := s.land.rings[c]
  (q ≠ e →
    (seqBefore e q = true → exec (.dataReceived .taken) s = .next (askNak s1))
    ∧ (seqBefore e q = false → seqIn32Before q e = true → s.land.disposed ≠ none →
      exec (.dataReceived .taken) s = .next { s1 with tx := { s.tx with
        queue := if s.link.state = .up ∧ CtlReq.ack ∉ s.tx.queue then s.tx.queue ++ [.ack] else s.tx.queue } })
    ∧ (seqBefore e q = false → (seqIn32Before q e = false ∨ s.land.disposed = none) →
      exec (.dataReceived .taken) s = .next { s1 with ev := { s.ev with counters :=
        { s.ev.counters with staleFrames := s.ev.counters.staleFrames + 1 } } }))
  ∧ (q = e → 4 ≤ s.land.queue.length → exec (.dataReceived .taken) s = .next (askNak s1))
  ∧ (q = e → s.land.queue.length < 4 →
    let s2 := { s1 with land := { s1.land with expected := e + 1, nakFlag := false } }
    let entry (v : Verdict) : LandEntry := ⟨q, s.link.localEpoch, c, payload.length, v⟩
    let closed := ∀ cfg, s.wm.chans[c].state = .active cfg → cfg.isInbound = false
    let tooLong := ∃ cfg, s.wm.chans[c].state = .active cfg ∧ cfg.isInbound = true ∧ cfg.capacity < payload.length
    let posted := ∃ x, ring.slots[ring.landCursor]? = some x ∧ x.state = .posted
    let violated := { s2 with ev := { s.ev with counters :=
      { s.ev.counters with creditViolations := s.ev.counters.creditViolations + 1 } } }
    let assigned : InRing := ⟨ring.slots.modify ring.landCursor (fun x => { x with state := .landing }),
      ring.releaseCursor, (ring.landCursor + 1) % ring.slots.length⟩
    (closed → exec (.dataReceived .taken) s = .next (enqueue (entry (.refusal .closed)) s2))
    ∧ (tooLong → exec (.dataReceived .taken) s = .next (enqueue (entry (.refusal .tooLong)) s2))
    ∧ (¬ closed → ¬ tooLong → ¬ posted → exec (.dataReceived .taken) s = .next (enqueue (entry (.refusal .noSlot)) violated))
    ∧ (¬ closed → ¬ tooLong → posted → exec (.dataReceived .taken) s = .next (enqueue
        (entry (.landing ⟨ring.landCursor, user, payload, .waiting, false, false, false⟩))
        { s2 with land := { s2.land with rings := s.land.rings.set c assigned } }))))
  ∧ (∀ (s : State) (e : LandEntry),
  (s.land.queue ≠ [] → enqueue e s = { s with land := { s.land with queue := s.land.queue ++ [e] } })
  ∧ (s.land.queue = [] →
    (∀ r, e.verdict = .refusal r →
      let t := dispose e (some r) { s with land := { s.land with queue := [e] } }
      enqueue e s = { t with land := { t.land with queue := [] } })
    ∧ ∀ l x rest, e.verdict = .landing l → l.phase = .waiting → planBursts (payloadOffsets e.length) = x :: rest →
      let started : LandEntry := { e with verdict := .landing { l with phase := .payload (x :: rest) } }
      enqueue e s = { s with
        land := { s.land with queue := [started] }
        reqs := { s.reqs with landing := some ⟨.landPayload, true, s.wm.slotAddr e.chan l.slot + 4 * x.off,
          (List.range' x.off x.len).map (payloadWord l.payload)⟩ } }))

/-- A disposal in UP: disposed-through is the entry's sequence; a refusal joins the refusal list, FRAME_REFUSED is
posted and the refusals counter raised; entries older than the 32 sequences ending there leave from the head; the
batch rises, from 0 starting the delay timer, and at 8 an ACK is queued. Outside UP a refusal is still counted (R150,
R176), and there is no other effect (R118, R122 to R124; log 15). -/
def Obligations.Disposals : Prop :=
  (∀ (e : LandEntry) (reason : Option Reason) (s : State),
    let listed := match reason with
      | some r => s.land.refusals ++ [⟨e.seq, e.chan, r⟩]
      | none => s.land.refusals
    let land : LandingEngine := { s.land with disposed := some e.seq, refusals := ageRefusals e.seq none listed }
    let batch : LandingEngine := { land with
      batch := min (s.land.batch + 1) 255
      ackDelay := if s.land.batch = 0 then some s.link.ackDelayInterval else s.land.ackDelay }
    let queue := if s.land.batch = 7 ∧ CtlReq.ack ∉ s.tx.queue then s.tx.queue ++ [.ack] else s.tx.queue
    (s.link.state ≠ .up → (reason = none → dispose e reason s = s)
      ∧ ∀ r, reason = some r →
        dispose e reason s = { s with ev := { s.ev with counters := s.ev.counters.refuse e.chan } })
    ∧ (s.link.state = .up →
      (reason = none → dispose e reason s = { s with land := batch, tx := { s.tx with queue := queue } })
      ∧ ∀ r, reason = some r →
        let s1 := post .frameRefused e.chan (e.seq.zeroExtend 32) (BitVec.ofNat 32 r.code) { s with land := land }
        dispose e reason s = { s1 with
          land := batch, tx := { s.tx with queue := queue }
          ev := { s1.ev with counters := s1.ev.counters.refuse e.chan } }))
  ∧ ∀ (q : Seq) (l : List RefusalEntry), ∃ old, l = old ++ ageRefusals q none l
    ∧ (∀ x ∈ old, 31 < (q - x.seq).toNat)
    ∧ ∀ x rest, ageRefusals q none l = x :: rest → (q - x.seq).toNat ≤ 31

/-- A payload burst of the landing at the head ended: OK with more bursts, the next is requested; OK after the last, or
with FAULT, the burst of header words 1 to 3 is requested. That burst ended: header word 0 is requested, DELIVERED or,
after any FAULT, MEMORY_FAULT. Every FAULT posts MEMORY_FAULT with origin landing and sets the fault (R147 to R149,
R151). The bytes of a payload word: payload byte k in lane k mod 4, enabled for k below the length (R42, R148).

The word 0 write of the landing at the head ended: MEMORY_FAULT if it faulted; the slot is HOST and no read is held
for it; a landing that is not kept is disposed of, as a landing or with LANDING_FAULT; the status written decides the
delivered counter and, with notify 1, SLOT_LANDED; the entry leaves the queue, the next one comes to its turn, and a
STOPPING channel without a LANDING slot ends its drain (R122, R150, R151, R154, R159, R161; log 16).

The turn of the next entries: refusals are disposed of one after another and leave the queue; a waiting landing
starts, in PAYLOAD with its first burst requested (R122, R146, R147, R148). The end of a drain: the channel OFF, its
slot records discarded (cursors held as 0: log 40), STOP_CHANNEL ended DONE (R159). -/
def Obligations.LandingWriteEnds : Prop :=
  ((∀ (s : State) (r : DevReq) (a : AccessEnd) (e : LandEntry) (l : Landing) (rest : List LandEntry),
    s.lands e l rest →
    let s1 := postFaultIf a e.chan .landing r.addr (endDevice r a s)
    let fault := l.fault || !accessOk a
    let at_ := s.wm.slotAddr e.chan l.slot
    let next (p : LandPhase) (q : DevReq) : State := { s1 with
      land := { s.land with queue := { e with verdict := .landing { l with phase := p, fault := fault } } :: rest }
      reqs := { s1.reqs with landing := some q } }
    (s.serves .landPayload r → ∀ bursts, l.phase = .payload bursts →
      (∀ x y more, a = .ok → bursts = x :: y :: more → exec (.landingPayloadWriteEnd a) s = .next
        (next (.payload (y :: more)) ⟨.landPayload, true, at_ + 4 * y.off,
          (List.range' y.off y.len).map (payloadWord l.payload)⟩))
      ∧ ((bursts.length ≤ 1 ∨ a ≠ .ok) → exec (.landingPayloadWriteEnd a) s = .next
        (next .header ⟨.landHeader, true, at_,
          [⟨0#4, 0#32⟩, ⟨15#4, headerWord1 e.seq e.epoch 0⟩, ⟨15#4, s.timebase⟩, ⟨15#4, l.user⟩]⟩)))
    ∧ (s.serves .landHeader r → ∀ y, s.land.slot? e.chan l.slot = some y →
      exec (.landingHeaderWriteEnd a) s = .next (next .control ⟨.landWord0, true, at_,
        [⟨15#4, headerWord0 e.length y.notify (if fault then .memoryFault else .delivered)⟩]⟩)))
  ∧ ∀ (payload : List Byte) (off j : Nat), 4 ≤ off → j < 4 →
    let w := payloadWord payload off
    (w.be.getLsbD j = decide (4 * off + j < 16 + payload.length))
    ∧ ∀ b, payload[4 * off + j - 16]? = some b → lane w.data j = b)
  ∧ (∀ (s : State) (r : DevReq) (a : AccessEnd) (e : LandEntry) (l : Landing)
  (rest : List LandEntry) (y : InSlot), s.serves .landWord0 r → s.lands e l rest →
  s.land.slot? e.chan l.slot = some y →
  let s1 := postFaultIf a e.chan .landing r.addr (endDevice r a s)
  let slots := s.land.rings[e.chan].slots.modify l.slot (fun x => { x with state := .host })
  let ring : InRing := { s.land.rings[e.chan] with slots := slots }
  let s2 := leaveLanding e.chan l.slot { s1 with land := { s.land with rings := s.land.rings.set e.chan ring } }
  let s3 := if l.kept then s2 else dispose e (if l.fault = true ∨ a ≠ .ok then some .landingFault else none) s2
  let s4 := if l.fault then s3 else { s3 with ev := { s3.ev with counters := s3.ev.counters.deliver e.chan } }
  let st : Status := if l.fault then .memoryFault else .delivered
  let s5 := if y.notify then post .slotLanded e.chan (BitVec.ofNat 32 l.slot) (BitVec.ofNat 32 st.code) s4 else s4
  exec (.landingWord0WriteEnd a) s = .next (finishInDrain e.chan (runQueue rest s5)))
  ∧ (∀ s : State, runQueue [] s = { s with land := { s.land with queue := [] } }
    ∧ ∀ (e : LandEntry) (rest : List LandEntry),
      let s1 := { s with land := { s.land with queue := e :: rest } }
      (∀ r, e.verdict = .refusal r → runQueue (e :: rest) s = runQueue rest (dispose e (some r) s1))
      ∧ ∀ l, e.verdict = .landing l →
        (l.phase ≠ .waiting → runQueue (e :: rest) s = s1)
        ∧ ∀ x more, l.phase = .waiting → planBursts (payloadOffsets e.length) = x :: more →
          let started : LandEntry := { e with verdict := .landing { l with phase := .payload (x :: more) } }
          runQueue (e :: rest) s = { s with
            land := { s.land with queue := started :: rest }
            reqs := { s.reqs with landing := some ⟨.landPayload, true, s.wm.slotAddr e.chan l.slot + 4 * x.off,
              (List.range' x.off x.len).map (payloadWord l.payload)⟩ } })
  ∧ ∀ (c : Chan) (s : State),
    let drained := (∃ cfg, s.wm.chans[c].state = .stopping cfg ∧ cfg.isInbound = true)
      ∧ ∀ x ∈ s.land.rings[c].slots, x.state ≠ .landing
    (¬ drained → finishInDrain c s = s)
    ∧ (drained → finishInDrain c s = endCommand .done 0#32 { s with
      wm := { s.wm with chans := s.wm.chans.set c ⟨.off, s.wm.chans[c].generation⟩ }
      land := { s.land with rings := s.land.rings.set c ⟨[], 0, 0⟩ } })

/-- A slot leaves LANDING: it leaves the holding list of a held read, which is released clear, to WAITING, with its last
holding slot. The guard timer's expiry releases the read to WAITING, is counted, and posts TORN_READ with the first
holding slot; a timer that is not due changes nothing (R6, R154, R155). -/
def Obligations.HeldReads : Prop := ∀ s : State,
  (∀ c i, (∀ h, s.land.heldRead = some h → (c, i) ∉ h.slots) → leaveLanding c i s = s)
  ∧ (∀ c i h a, s.land.heldRead = some h → (c, i) ∈ h.slots → s.host = .held a →
    let left := h.slots.filter (fun x => decide (x ≠ (c, i)))
    (left = [] → leaveLanding c i s = { s with land := { s.land with heldRead := none }, host := .waiting a })
    ∧ (left ≠ [] → leaveLanding c i s = { s with land := { s.land with heldRead := some ⟨left, h.timer⟩ } }))
  ∧ (s.on → (∀ h, s.land.heldRead = some h → h.timer ≠ 0) → exec .guardTimerExpiry s = .next s)
  ∧ ∀ h a c i more, s.on → s.land.heldRead = some h → h.timer = 0 → s.host = .held a → h.slots = (c, i) :: more →
    exec .guardTimerExpiry s = .next (post .tornRead c (BitVec.ofNat 32 i) 0#32 { s with
      host := .waiting a, land := { s.land with heldRead := none }
      ev := { s.ev with counters := { s.ev.counters with tornReads := s.ev.counters.tornReads + 1 } } })

/-! ### Credits (Chapter 7) -/

/-- A good CREDIT is handed to the Credit Unit in UP, and has no effect otherwise (R90). The unit takes the oldest
CREDIT handed to it (two steps: log 11). The record that it leaves: with the record's generation, the peer state and,
when the total is ahead or the first, the advertised total; with another or none, the sent total 0, the CREDIT's
total, generation and state. One that would leave more than 32767 is counted stale and changes nothing else; any other
is taken, and CLOSED settles the channel of that destination (R69, R134, R135; log 23). -/
def Obligations.CreditReceived : Prop :=
  (∀ (s : State) (ws : List LinkWord) (rx : LaneRx) (d : Chan) (isOpen : Bool) (g : BitVec 8) (v : BitVec 16),
    s.hears ws rx (.credit d isOpen g v) →
    exec (.creditReceived (.handed ws)) s = .next { s with
      link := { s.link with rx := rx }
      cred := { s.cred with
        inbox := if s.link.state = .up then s.cred.inbox ++ [⟨d, isOpen, g, v⟩] else s.cred.inbox } })
  ∧ (∀ s : State, s.on → s.cred.inbox = [] → exec (.creditReceived .taken) s = .next s)
  ∧ ∀ (s : State) (d : Chan) (isOpen : Bool) (g : BitVec 8) (v : BitVec 16) (more : List CreditArrival), s.on →
    s.cred.inbox = ⟨d, isOpen, g, v⟩ :: more →
    let s1 := { s with cred := { s.cred with inbox := more } }
    let old := s.cred.send[d]
    let peer : PeerState := if isOpen then .open else .closed
    let total : BitVec 16 := match old.advertised with
      | some a => if 1 ≤ (v - a).toNat ∧ (v - a).toNat ≤ 32767 then v else a
      | none => v
    let new : SendRecord := if old.generation = some g then ⟨old.sent, some total, some g, peer⟩
      else ⟨0#16, some v, some g, peer⟩
    (32767 < new.available → exec (.creditReceived .taken) s = .next { s1 with ev := { s.ev with
        counters := { s.ev.counters with staleFrames := s.ev.counters.staleFrames + 1 } } })
    ∧ (new.available ≤ 32767 →
      let s2 := { s1 with cred := { s1.cred with send := s.cred.send.set d new } }
      let uses (c : Chan) := ∃ cfg, s.wm.cfg? c = some cfg ∧ cfg.dest? = some d
      exec (.creditReceived .taken) s = .next (settleDest d s2)
      ∧ (isOpen = true → settleDest d s2 = s2)
      ∧ ((∀ c, ¬ uses c) → settleDest d s2 = s2)
      ∧ ∀ c, uses c → (∀ m, uses m → m = c) → settleDest d s2 = settleClosed c s2)

/-- Credit requests. A report of a POSTED slot of an ACTIVE channel in UP raises a posted total that is a number, and
requests a CREDIT; otherwise it changes nothing. A request in UP sets the queued flag and queues a CREDIT unless one
is queued. The refresh timer's expiry requests a CREDIT for every inbound channel that is not OFF and restarts. At
link-up each of those posted totals is the number of POSTED slots, each CREDIT is requested, and the timer starts: the
requests that waited stay in front in their order, and behind them joins the CREDIT of each such channel that has none
yet, channel 0 first, and nothing else (R105, R129, R131, R140; that order is the model's choice: log 33; log 26 for
an expiry outside UP). -/
def Obligations.CreditRequests : Prop :=
  (∀ (c : Chan) (s : State),
    let record : RecvRecord := { s.cred.recv[c] with queued := true }
    let queue := if s.cred.recv[c].queued = false ∧ CtlReq.credit c ∉ s.tx.queue then s.tx.queue ++ [.credit c]
      else s.tx.queue
    (s.link.state ≠ .up → requestCredit c s = s)
    ∧ (s.link.state = .up → requestCredit c s = { s with
      cred := { s.cred with recv := s.cred.recv.set c record }, tx := { s.tx with queue := queue } })
    ∧ ((s.link.state ≠ .up ∨ s.wm.isActive c = false) → reportPosted c s = s)
    ∧ ∀ n, s.link.state = .up → s.wm.isActive c = true → s.cred.recv[c].posted = .total n →
      let raised : RecvRecord := { s.cred.recv[c] with posted := .total (n + 1) }
      reportPosted c s = requestCredit c { s with cred := { s.cred with recv := s.cred.recv.set c raised } })
  ∧ ∀ s : State,
    let wants (c : Chan) : Bool := s.wm.isInbound c
    let joins (c : Chan) : Bool :=
      s.wm.isInbound c && !s.cred.recv[c].queued && decide (CtlReq.credit c ∉ s.tx.queue)
    let queue := s.tx.queue ++ ((List.finRange 16).filter joins).map CtlReq.credit
    let posted (c : Chan) := s.land.rings[c].slots.countP (fun x => decide (x.state = .posted))
    let atLinkUp : Vector RecvRecord 16 := Vector.ofFn (fun c : Chan =>
      if wants c then ⟨s.cred.recv[c].generation, .total (BitVec.ofNat 16 (posted c)), true⟩ else s.cred.recv[c])
    let refreshed : Vector RecvRecord 16 := Vector.ofFn (fun c : Chan =>
      if wants c then ⟨s.cred.recv[c].generation, s.cred.recv[c].posted, true⟩ else s.cred.recv[c])
    let interval := some s.link.refreshInterval
    (s.link.state = .up → creditLinkUp s = { s with
      cred := { s.cred with recv := atLinkUp, refresh := interval }, tx := { s.tx with queue := queue } })
    ∧ (s.on →
      (s.cred.refresh ≠ some 0 → exec .refreshTimerExpiry s = .next s)
      ∧ (s.cred.refresh = some 0 → s.link.state = .up → exec .refreshTimerExpiry s = .next { s with
        cred := { s.cred with recv := refreshed, refresh := interval }, tx := { s.tx with queue := queue } })
      ∧ (s.cred.refresh = some 0 → s.link.state ≠ .up → exec .refreshTimerExpiry s = .next { s with
        cred := { s.cred with refresh := interval } }))

/-! ### Events (Chapter 9) -/

/-- The ends of the Event Unit's ring writes; after each the unit chooses again, and a drain with nothing left ends. An
event's record OK: the event leaves the queue, and the producer write follows; FAULT: it is lost, and the producer
stays. An EVENTS_LOST record OK: the lost count falls by what it carried, and the producer write follows; FAULT: the
hold is set, nothing is counted. The producer write, with either end: the producer advances modulo the size, and
INT_OUT follows. The producer write of EVENTS_START: DONE, or MEMORY_FAULT with its address (R169 to R171, R173 to
R175).

The end of a drain, and the snapshot. A DRAINING unit with no queued event and no ring write is STOPPED, its ring
discarded, and EVENTS_STOP ends DONE with the lost count (R174). The image is written as ten bursts of eight words
from the anchor plus 0x400; a burst that faults posts MEMORY_FAULT and writing goes on; after the tenth SNAPSHOT ends
DONE with the image time, or MEMORY_FAULT with the address of the first burst that faulted (R179, R180). Of a ring
write and a snapshot burst that both wait, the kind that did not go last is the unit's next request (R172; when it is
presented: log 19). The image holds the four counters of channel c from word 4 × c on, the link's and unit's counters
from word 64, the image time at word 75, and zeros (R179). -/
def Obligations.EventAccessEnds : Prop :=
  (∀ (s : State) (r : DevReq) (a : AccessEnd) (ring : RingCfg),
  s.ev.ringCfg = some ring →
  let p := (s.ev.producer + 1) % ring.size
  let producerWrite : RingWrite := ⟨.producer, s.wm.base + 0x28, [BitVec.ofNat 32 (p % 2 ^ 16)]⟩
  let ended (ev : EventUnit) : State := { endDevice r a s with ev := { ev with lastAccess := .ring } }
  let lost : EventUnit := { s.ev with
    queue := s.ev.queue.tail, ring := none
    lostCount := if s.ev.lostCount = 0xFFFFFFFF#32 then 0xFFFFFFFF#32 else s.ev.lostCount + 1
    counters := { s.ev.counters with eventsLost := s.ev.counters.eventsLost + 1 } }
  let goesOn (t : State) : Host.Outcome State Fault Refusal := .next (finishDrain (runRing t))
  (s.serves (.ring .event) r →
    (a = .ok → exec (.eventRecordWriteEnd a) s =
      goesOn (ended { s.ev with queue := s.ev.queue.tail, ring := some producerWrite }))
    ∧ (a ≠ .ok → exec (.eventRecordWriteEnd a) s = goesOn (ended lost)))
  ∧ (∀ n, s.serves (.ring (.lost n)) r →
    (a = .ok → exec (.eventsLostWriteEnd a) s =
      goesOn (ended { s.ev with lostCount := s.ev.lostCount - n, ring := some producerWrite }))
    ∧ (a ≠ .ok → exec (.eventsLostWriteEnd a) s = goesOn (ended { s.ev with lostHold := true, ring := none })))
  ∧ (s.serves (.ring .producer) r → exec (.producerWriteEnd a) s =
    let high := decide (s.ev.run = .running) && s.wm.intEnable.getLsbD 0 && decide (p ≠ s.wm.consumer.toNat)
    goesOn { ended { s.ev with producer := p, ring := none } with intOut := high })
  ∧ (s.serves (.ring .start) r →
    (a = .ok → exec (.startProducerWriteEnd a) s =
      .next (runRing (endCommand .done 0#32 (ended { s.ev with ring := none }))))
    ∧ (a ≠ .ok → exec (.startProducerWriteEnd a) s = .next (endCommand .memoryFault (BitVec.ofNat 32 r.addr)
      (post .memoryFault 0 4#32 (BitVec.ofNat 32 r.addr) (ended { s.ev with ring := none }))))))
  ∧ ((∀ s : State,
    (s.ev.run = .draining → s.ev.queue = [] → s.ev.ring = none → finishDrain s = endCommand .done s.ev.lostCount
      { s with ev := { s.ev with run := .stopped, ringCfg := none } })
    ∧ ((s.ev.run ≠ .draining ∨ s.ev.queue ≠ [] ∨ s.ev.ring ≠ none) → finishDrain s = s))
  ∧ (∀ (s : State) (r : DevReq) (a : AccessEnd) (im : SnapImage), s.serves .snapshot r → s.ev.snap = some im →
    let first := im.firstFault.or (if accessOk a then none else some r.addr)
    let s1 (snap : Option SnapImage) : State := postFaultIf a 0 .snapshot r.addr
      { endDevice r a s with ev := { s.ev with snap := snap, lastAccess := .snapshot } }
    let more := { im with next := im.next + 1, firstFault := first }
    (im.next < 9 → exec (.snapshotBurstEnd a) s = .next (runRing (s1 (some more))))
    ∧ (9 ≤ im.next → exec (.snapshotBurstEnd a) s = .next (runRing
      (match first with
        | none => endCommand .done im.time (s1 none)
        | some f => endCommand .memoryFault (BitVec.ofNat 32 f) (s1 none)))))
  ∧ (∀ (im : SnapImage) (wm : Matcher), im.words.length = 80 ∧ ∀ k, k < 10 → im.next = k →
    im.req wm = ⟨.snapshot, true, wm.base + 0x400 + 32 * k,
      ((im.words.drop (8 * k)).take 8).map (fun w => ⟨15#4, w⟩)⟩)
  ∧ (∀ im : SnapImage, let k := im.counters
    (∀ c : Chan, (im.words.drop (4 * c.val)).take 4
      = [k.chans[c].handovers, k.chans[c].delivered, k.chans[c].refusals, k.chans[c].violations])
    ∧ im.words.drop 64 = [k.crcErrors, k.framingErrors, k.naksSent, k.naksReceived, k.replayPasses, k.ackTimeouts,
      k.linkResets, k.staleFrames, k.creditViolations, k.tornReads, k.eventsLost, im.time, 0#32, 0#32, 0#32, 0#32])
  ∧ ∀ (ev : EventUnit) (wm : Matcher) (w : RingWrite) (im : SnapImage),
    let ringReq : DevReq := ⟨.ring w.kind, true, w.addr, w.words.map (fun x => ⟨15#4, x⟩)⟩
    (ev.ring = none → ev.snap = none → ev.nextReq wm = none)
    ∧ (ev.ring = some w → (ev.snap = none ∨ ev.lastAccess = .snapshot) → ev.nextReq wm = some ringReq)
    ∧ (ev.snap = some im → (ev.ring = none ∨ ev.lastAccess = .ring) → ev.nextReq wm = some (im.req wm)))

/-! ### Laws of the whole machine -/

/-- Every law of Safety.lean holds right after reset. -/
def Obligations.LawsAtReset : Prop :=
  let s := State.reset
  MemoryLaw s ∧ InterruptLaw s ∧ CaptureLaw s ∧ CreditLaw s ∧ MailboxLaw s ∧ PortLaw s ∧ HeldLaw s ∧ PresentedLaw s
    ∧ ControlQueueLaw s ∧ QueueLaw s ∧ ReplayOrderLaw s ∧ GenerationLaw s ∧ EventRingLaw s ∧ AreasLaw s ∧ LaneOutLaw s

/-- Every step keeps memory in its canonical form: the listed addresses strictly rising, no byte listed that an unlisted
address reads as. That form is the model's own representation of memory, not the manual's (log 4, log 5). -/
def Obligations.MemoryStaysCanonical : Prop := StepKeeps MemoryLaw

/-- INT_OUT is high exactly while its three conditions hold: true at reset, and every step keeps it (R175). -/
def Obligations.InterruptLineFollows : Prop := InterruptLaw State.reset ∧ StepKeeps InterruptLaw

/-- Every step keeps the bounds of the pool and of the credits: at most 14 buffers bound for capture, and available
credit at most 32767 (R59, R135, R136). -/
def Obligations.BoundsOfCaptureAndCredit : Prop := StepKeeps CaptureLaw ∧ StepKeeps CreditLaw

/-- Every step keeps the Host Port in TRANSFER exactly while its access is granted, the response timer running exactly
while an access is granted, a read held exactly in HELD, no access left presented in IDLE, and a command waiting only
behind an executing one (R3, R6, R9, R13, R24, R29, R153); and the outgoing lane silent in OFF, and otherwise the
frame being sent or idle words (R83). -/
def Obligations.PortsAndMailboxStayInStep : Prop :=
  StepKeeps PortLaw ∧ StepKeeps HeldLaw ∧ StepKeeps PresentedLaw ∧ StepKeeps MailboxLaw ∧ StepKeeps LaneOutLaw

/-- Every step keeps the control frame queue free of a second request of one kind, the bounds of the event queue, the
landing queue and the replay list, and the consecutive sequences of the replay list (R105, R108, R146, R163). -/
def Obligations.QueuesStayInOrder : Prop := StepKeeps ControlQueueLaw ∧ StepKeeps QueueLaw ∧ StepKeeps ReplayOrderLaw

/-- Every step keeps the Credit Unit's generations equal to the Window Matcher's (R34, R128).

Every step keeps the event ring installed exactly while the unit is not STOPPED, with a legal size and the producer
inside it, and every channel that is not OFF apart from the control block, the event ring and every other channel (R37,
R163, R173, R174). -/
def Obligations.ChannelsStayApart : Prop :=
  (StepKeeps GenerationLaw)
  ∧ (StepKeeps (fun s => EventRingLaw s ∧ AreasLaw s))
end

