-- ==== Sys2Proof/Laws/Memory.lean ====
section
/-! SUPPORT. Memory: every operation keeps the canonical form, a read after a write gives the value written, a write
leaves every other byte alone. -/

namespace Sys2Proof.Machine

/-! ### Byte maps -/

theorem mapLookup_insert_same (m : List (Nat × Byte)) (k : Nat) (b : Byte) : mapLookup (mapInsert m k b) k = some b := by
  induction m with
  | nil => simp [mapInsert, mapLookup]
  | cons c m ih =>
    obtain ⟨a, x⟩ := c
    unfold mapInsert
    split
    · simp [mapLookup]
    · split
      · simp [mapLookup]
      · rw [mapLookup, if_neg (by omega), ih]

theorem mapLookup_insert_other (m : List (Nat × Byte)) (k j : Nat) (b : Byte) (h : j ≠ k) :
    mapLookup (mapInsert m k b) j = mapLookup m j := by
  induction m with
  | nil => simp [mapInsert, mapLookup]; omega
  | cons c m ih =>
    obtain ⟨a, x⟩ := c
    unfold mapInsert
    split
    · rw [mapLookup, if_neg (by omega)]
    · split
      · rw [mapLookup, if_neg (by omega), mapLookup, if_neg (by omega)]
      · simp only [mapLookup, ih]

theorem mapLookup_erase_other (m : List (Nat × Byte)) (k j : Nat) (h : j ≠ k) :
    mapLookup (mapErase m k) j = mapLookup m j := by
  induction m with
  | nil => rfl
  | cons c m ih =>
    obtain ⟨a, x⟩ := c
    unfold mapErase
    split
    · rw [mapLookup, if_neg (by omega)]
    · simp only [mapLookup, ih]

theorem mapLookup_none_of_lt (m : List (Nat × Byte)) (k : Nat) (h : m.all (fun c => decide (k < c.1)) = true) :
    mapLookup m k = none := by
  induction m with
  | nil => rfl
  | cons c m ih =>
    obtain ⟨a, x⟩ := c
    simp only [List.all_cons, Bool.and_eq_true, decide_eq_true_eq] at h
    rw [mapLookup, if_neg (by omega), ih h.2]

theorem mapLookup_erase_same (m : List (Nat × Byte)) (k : Nat) (h : mapSorted m = true) :
    mapLookup (mapErase m k) k = none := by
  induction m with
  | nil => rfl
  | cons c m ih =>
    obtain ⟨a, x⟩ := c
    simp only [mapSorted, Bool.and_eq_true] at h
    unfold mapErase
    split
    · next e => exact mapLookup_none_of_lt m k (e ▸ h.1)
    · next e => rw [mapLookup, if_neg e, ih h.2]

theorem all_erase (p : Nat × Byte → Bool) (m : List (Nat × Byte)) (k : Nat) (h : m.all p = true) :
    (mapErase m k).all p = true := by
  induction m with
  | nil => rfl
  | cons c m ih =>
    obtain ⟨a, x⟩ := c
    simp only [List.all_cons, Bool.and_eq_true] at h
    unfold mapErase
    split
    · exact h.2
    · simp [h.1, ih h.2]

theorem all_insert (p : Nat × Byte → Bool) (m : List (Nat × Byte)) (k : Nat) (b : Byte) (h : m.all p = true)
    (hk : p (k, b) = true) : (mapInsert m k b).all p = true := by
  induction m with
  | nil => simp [mapInsert, hk]
  | cons c m ih =>
    obtain ⟨a, x⟩ := c
    have h' := h
    simp only [List.all_cons, Bool.and_eq_true] at h
    unfold mapInsert
    split
    · rw [List.all_cons, hk, h', Bool.true_and]
    · split
      · rw [List.all_cons, hk, h.2, Bool.true_and]
      · rw [List.all_cons, h.1, ih h.2, Bool.true_and]

theorem sorted_erase (m : List (Nat × Byte)) (k : Nat) (h : mapSorted m = true) : mapSorted (mapErase m k) = true := by
  induction m with
  | nil => rfl
  | cons c m ih =>
    obtain ⟨a, x⟩ := c
    simp only [mapSorted, Bool.and_eq_true] at h
    unfold mapErase
    split
    · exact h.2
    · simp only [mapSorted, Bool.and_eq_true]
      exact ⟨all_erase _ m k h.1, ih h.2⟩

theorem all_lt_trans (m : List (Nat × Byte)) (a b : Nat) (h : m.all (fun c => decide (b < c.1)) = true) (hab : a < b) :
    m.all (fun c => decide (a < c.1)) = true := by
  simp only [List.all_eq_true, decide_eq_true_eq] at *
  intro c hc
  exact Nat.lt_trans hab (h c hc)

theorem sorted_insert (m : List (Nat × Byte)) (k : Nat) (b : Byte) (h : mapSorted m = true) :
    mapSorted (mapInsert m k b) = true := by
  induction m with
  | nil => rfl
  | cons c m ih =>
    obtain ⟨a, x⟩ := c
    have h' := h
    simp only [mapSorted, Bool.and_eq_true] at h
    unfold mapInsert
    split
    · next e =>
      simp only [mapSorted, Bool.and_eq_true, List.all_cons, decide_eq_true_eq]
      exact ⟨⟨e, all_lt_trans m k a h.1 e⟩, h.1, h.2⟩
    · split
      · next e => subst e; simp only [mapSorted, Bool.and_eq_true]; exact h
      · next e1 e2 =>
        simp only [mapSorted, Bool.and_eq_true]
        exact ⟨all_insert _ m k b h.1 (by simp; omega), ih h.2⟩

/-! ### Memory -/

theorem memWrite_wf (m : List Host.Cell) (a : Nat) (b : Byte) (h : memWf m = true) : memWf (memWrite m a b) = true := by
  simp only [memWf, Bool.and_eq_true] at *
  unfold memWrite
  split
  · exact ⟨sorted_erase m a h.1, all_erase _ m a h.2⟩
  · exact ⟨sorted_insert m a b h.1, all_insert _ m a b h.2 (by simpa)⟩

theorem memWriteLane_wf (m : List Host.Cell) (a : Nat) (be : BitVec 4) (d : Word) (i : Nat) (h : memWf m = true) :
    memWf (memWriteLane m a be d i) = true := by
  unfold memWriteLane; split
  · exact memWrite_wf _ _ _ h
  · exact h

theorem memWriteWord_wf (m : List Host.Cell) (a : Nat) (be : BitVec 4) (d : Word) (h : memWf m = true) :
    memWf (memWriteWord m a be d) = true := by
  unfold memWriteWord
  exact memWriteLane_wf _ _ _ _ _ (memWriteLane_wf _ _ _ _ _ (memWriteLane_wf _ _ _ _ _ (memWriteLane_wf _ _ _ _ _ h)))

/-- A write burst keeps the canonical form. -/
theorem memWriteBurst_wf (ws : List BusWord) (ks : List Bool) (m : List Host.Cell) (a : Nat) (h : memWf m = true) :
    memWf (memWriteBurst m a ws ks) = true := by
  induction ws generalizing ks m a with
  | nil => unfold memWriteBurst; exact h
  | cons w ws ih =>
    cases ks with
    | nil => unfold memWriteBurst; exact h
    | cons k ks =>
      unfold memWriteBurst
      apply ih
      split
      · exact memWriteWord_wf _ _ _ _ h
      · exact h

theorem memRead_write_same (m : List Host.Cell) (a : Nat) (b : Byte) (h : memWf m = true) :
    memRead (memWrite m a b) a = b := by
  simp only [memWf, Bool.and_eq_true] at h
  unfold memRead memWrite
  split
  · next e => rw [mapLookup_erase_same m a h.1]; exact e.symm
  · rw [mapLookup_insert_same]; rfl

theorem memRead_write_other (m : List Host.Cell) (a x : Nat) (b : Byte) (h : x ≠ a) :
    memRead (memWrite m a b) x = memRead m x := by
  unfold memRead memWrite
  split
  · rw [mapLookup_erase_other m a x h]
  · rw [mapLookup_insert_other m a x b h]

theorem memRead_writeLane_other (m : List Host.Cell) (a x : Nat) (be : BitVec 4) (d : Word) (i : Nat)
    (h : be.getLsbD i = true → x ≠ a + i) : memRead (memWriteLane m a be d i) x = memRead m x := by
  unfold memWriteLane
  split
  · next e => exact memRead_write_other _ _ _ _ (h e)
  · rfl

/-- A word write leaves every byte but its enabled ones alone. -/
theorem memRead_writeWord_other (m : List Host.Cell) (a x : Nat) (be : BitVec 4) (d : Word)
    (h : ∀ j, j < 4 → be.getLsbD j = true → x ≠ a + j) : memRead (memWriteWord m a be d) x = memRead m x := by
  unfold memWriteWord
  rw [memRead_writeLane_other _ _ _ _ _ _ (h 3 (by omega)), memRead_writeLane_other _ _ _ _ _ _ (h 2 (by omega)),
    memRead_writeLane_other _ _ _ _ _ _ (h 1 (by omega)), memRead_writeLane_other _ _ _ _ _ _ (h 0 (by omega))]

/-- A word write leaves its enabled bytes at the word's lanes. -/
theorem memRead_writeWord_same (m : List Host.Cell) (a : Nat) (be : BitVec 4) (d : Word) (j : Nat) (hj : j < 4)
    (hb : be.getLsbD j = true) (h : memWf m = true) : memRead (memWriteWord m a be d) (a + j) = lane d j := by
  have w0 := memWriteLane_wf m a be d 0 h
  have w1 := memWriteLane_wf _ a be d 1 w0
  have w2 := memWriteLane_wf _ a be d 2 w1
  have hit : ∀ (n : List Host.Cell), memWf n = true → memRead (memWriteLane n a be d j) (a + j) = lane d j := by
    intro n hn; unfold memWriteLane; rw [if_pos hb]; exact memRead_write_same _ _ _ hn
  have miss : ∀ (n : List Host.Cell) (i : Nat), i ≠ j → memRead (memWriteLane n a be d i) (a + j) = memRead n (a + j) := by
    intro n i hi; exact memRead_writeLane_other _ _ _ _ _ _ (fun _ => by omega)
  unfold memWriteWord
  match j, hj with
  | 0, _ => rw [miss _ 3 (by omega), miss _ 2 (by omega), miss _ 1 (by omega), hit _ h]
  | 1, _ => rw [miss _ 3 (by omega), miss _ 2 (by omega), hit _ w0]
  | 2, _ => rw [miss _ 3 (by omega), hit _ w1]
  | 3, _ => rw [hit _ w2]

/-- A write burst leaves every byte but the enabled bytes of its words alone. -/
theorem memRead_writeBurst_other (ws : List BusWord) (ks : List Bool) (m : List Host.Cell) (a x : Nat)
    (h : ∀ k ∈ recordWords a ws, ∀ j, j < 4 → k.be.getLsbD j = true → x ≠ k.addr + j) :
    memRead (memWriteBurst m a ws ks) x = memRead m x := by
  induction ws generalizing ks m a with
  | nil => unfold memWriteBurst; rfl
  | cons w ws ih =>
    cases ks with
    | nil => unfold memWriteBurst; rfl
    | cons k ks =>
      unfold memWriteBurst
      rw [ih ks _ _ (fun k hk => h k (by simp [recordWords, hk]))]
      split
      · exact memRead_writeWord_other _ _ _ _ _ (h ⟨a, w.be, w.data⟩ (by simp [recordWords]))
      · rfl

/-- The lanes of the word made of four bytes. -/
theorem lane_wordOfLanes (b0 b1 b2 b3 : Byte) : lane (wordOfLanes b0 b1 b2 b3) 0 = b0 ∧ lane (wordOfLanes b0 b1 b2 b3) 1 = b1
    ∧ lane (wordOfLanes b0 b1 b2 b3) 2 = b2 ∧ lane (wordOfLanes b0 b1 b2 b3) 3 = b3 := by
  unfold lane wordOfLanes
  refine ⟨?_, ?_, ?_, ?_⟩ <;> apply BitVec.eq_of_getLsbD_eq <;> intro i hi <;>
    simp only [BitVec.getLsbD_extractLsb', BitVec.getLsbD_append, hi, decide_true, Bool.true_and]
  · simp [hi]
  · have h1 : ¬ (8 * 1 + i < 8) := by omega
    have h3 : 8 * 1 + i - 8 = i := by omega
    simp [h1, h3]; intro h; omega
  · have h1 : ¬ (8 * 2 + i < 8) := by omega
    have h4 : 8 * 2 + i - 8 - 8 = i := by omega
    have h3 : 8 * 2 + i - 8 = i + 8 := by omega
    simp [h1, h3]; intro h; omega
  · have h1 : ¬ (8 * 3 + i < 8) := by omega
    have h2 : ¬ (8 * 3 + i - 8 < 8) := by omega
    have h4 : 8 * 3 + i - 8 - 8 - 8 = i := by omega
    simp [h1, h2, h4]; intro h; omega

/-- The byte lanes of a word that memory holds are its bytes. -/
theorem lane_memReadWord (m : List Host.Cell) (a j : Nat) (hj : j < 4) : lane (memReadWord m a) j = memRead m (a + j) := by
  unfold memReadWord
  match j, hj with
  | 0, _ => exact (lane_wordOfLanes _ _ _ _).1
  | 1, _ => exact (lane_wordOfLanes _ _ _ _).2.1
  | 2, _ => exact (lane_wordOfLanes _ _ _ _).2.2.1
  | 3, _ => exact (lane_wordOfLanes _ _ _ _).2.2.2

/-- Memory after reset is in its canonical form. -/
theorem reset_memory_wf : memWf State.reset.mem = true := rfl

end Sys2Proof.Machine
end

