-- ==== Sys2Proof/Laws/Outer.lean ====
section
/-! SUPPORT. What no operation of a unit changes: the reset level, the Timebase, memory, the memory port, the host's
answer, the free-value count and the queue. One law for each operation, so that no later proof unfolds it for these. -/

namespace Sys2Proof.Machine

/-- The fields that only the bus, the clock and the reset pin change. -/
structure Outer where
  resetLow : Bool
  timebase : Word
  mem : List Host.Cell
  presented : Option HostAccess
  answer : Option HostAnswer
  port : MemPort
  free : Nat
  pending : List Instr

/-- Those fields of a state. -/
def State.outer (s : State) : Outer := ⟨s.resetLow, s.timebase, s.mem, s.presented, s.answer, s.port, s.free, s.pending⟩

@[simp] theorem outer_update (t : State) (i : Bool) (o : List (Option LinkWord)) (h : HostPort) (q : Requests) (w : Matcher) (c : CommandUnit)
    (u : CaptureUnit) (l : LinkController) (x : TransmitEngine) (e : LandingEngine) (d : CreditUnit) (v : EventUnit) :
    State.outer ⟨t.resetLow, t.timebase, i, o, t.mem, h, t.presented, t.answer, t.port, q, w, c, u, l, x, e, d, v, t.free, t.pending⟩
      = t.outer := rfl

theorem outer_foldl {α : Type} (f : State → α → State) (h : ∀ s a, (f s a).outer = s.outer) (l : List α) (s : State) :
    (l.foldl f s).outer = s.outer := by
  induction l generalizing s with
  | nil => rfl
  | cons a l ih => simp only [List.foldl_cons, ih, h]

@[simp] theorem present_outer (r : DevReq) (s : State) : (present r s).outer = s.outer := rfl

@[simp] theorem endCommand_outer (r : Result) (d : Word) (s : State) : (endCommand r d s).outer = s.outer := rfl

@[simp] theorem count_outer (f : Counters → Counters) (s : State) : (count f s).outer = s.outer := rfl

@[simp] theorem driveInt_outer (s : State) : (driveInt s).outer = s.outer := rfl

@[simp] theorem driveLane_outer (s : State) : (driveLane s).outer = s.outer := rfl

@[simp] theorem runRing_outer (s : State) : (runRing s).outer = s.outer := rfl

@[simp] theorem post_outer (k : EventKind) (c : Chan) (d1 d2 : Word) (s : State) : (post k c d1 d2 s).outer = s.outer := rfl

@[simp] theorem postFault_outer (c : Chan) (o : Origin) (addr : Nat) (s : State) : (postFault c o addr s).outer = s.outer := rfl

@[simp] theorem postFaultIf_outer (e : AccessEnd) (c : Chan) (o : Origin) (addr : Nat) (s : State) : (postFaultIf e c o addr s).outer = s.outer := by
  unfold postFaultIf; split <;> simp

@[simp] theorem withdrawRecord_outer (s : State) : (withdrawRecord s).outer = s.outer := rfl

@[simp] theorem finishDrain_outer (s : State) : (finishDrain s).outer = s.outer := by
  unfold finishDrain; split <;> simp

@[simp] theorem clearHold_outer (s : State) : (clearHold s).outer = s.outer := rfl

@[simp] theorem consumerChanged_outer (s : State) : (consumerChanged s).outer = s.outer := by
  unfold consumerChanged; dsimp only; (repeat' split) <;> simp

@[simp] theorem afterRing_outer (s : State) : (afterRing s).outer = s.outer := by
  unfold afterRing; simp

@[simp] theorem installRing_outer (base size : Word) (s : State) : (installRing base size s).outer = s.outer := rfl

@[simp] theorem startEvents_outer (cmd : Command) (s : State) : (startEvents cmd s).outer = s.outer := by
  unfold startEvents; (repeat' split) <;> simp

@[simp] theorem stopEvents_outer (s : State) : (stopEvents s).outer = s.outer := by
  unfold stopEvents; split <;> simp

@[simp] theorem startSnapshot_outer (cmd : Command) (s : State) : (startSnapshot cmd s).outer = s.outer := rfl

@[simp] theorem endStartWrite_outer (e : AccessEnd) (r : DevReq) (s : State) : (endStartWrite e r s).outer = s.outer := by
  unfold endStartWrite; split <;> simp

@[simp] theorem endRingWrite_outer (k : RingKind) (e : AccessEnd) (r : DevReq) (s : State) : (endRingWrite k e r s).outer = s.outer := by
  unfold endRingWrite; split <;> simp

@[simp] theorem endSnapBurst_outer (e : AccessEnd) (r : DevReq) (s : State) : (endSnapBurst e r s).outer = s.outer := by
  unfold endSnapBurst; dsimp only; (repeat' split) <;> simp

@[simp] theorem requestCtl_outer (r : CtlReq) (s : State) : (requestCtl r s).outer = s.outer := rfl

@[simp] theorem requestCredit_outer (c : Chan) (s : State) : (requestCredit c s).outer = s.outer := rfl

@[simp] theorem reportPosted_outer (c : Chan) (s : State) : (reportPosted c s).outer = s.outer := by
  unfold reportPosted; split <;> simp

@[simp] theorem creditLoaded_outer (c : Chan) (g : BitVec 8) (k : Nat) (s : State) : (creditLoaded c g k s).outer = s.outer := rfl

@[simp] theorem refreshCredits_outer (s : State) : (refreshCredits s).outer = s.outer := by
  unfold refreshCredits; apply outer_foldl; intro s c; split <;> simp

@[simp] theorem creditUpChan_outer (s : State) (c : Chan) : (creditUpChan s c).outer = s.outer := by
  unfold creditUpChan; split <;> simp

@[simp] theorem creditLinkUp_outer (s : State) : (creditLinkUp s).outer = s.outer := by
  unfold creditLinkUp; simp only [outer_update]; exact outer_foldl _ (fun s c => creditUpChan_outer s c) _ _

@[simp] theorem chargeSend_outer (c : Chan) (s : State) : (chargeSend c s).outer = s.outer := rfl

@[simp] theorem presentRead_outer (s : State) : (presentRead s).outer = s.outer := rfl

@[simp] theorem removeJob_outer (b : Buf) (s : State) : (removeJob b s).outer = s.outer := rfl

@[simp] theorem dropJob_outer (b : Buf) (d : Drop) (s : State) : (dropJob b d s).outer = s.outer := by
  unfold dropJob; split <;> simp

@[simp] theorem startWriteback_outer (s : State) : (startWriteback s).outer = s.outer := by
  unfold startWriteback; (repeat' split) <;> simp

@[simp] theorem releaseBuf_outer (b : Buf) (s : State) : (releaseBuf b s).outer = s.outer := by
  unfold releaseBuf; split <;> simp

@[simp] theorem enterCompleting_outer (c : Chan) (i : Nat) (st : Status) (sent : Option SentInfo) (s : State) : (enterCompleting c i st sent s).outer = s.outer := rfl

@[simp] theorem releaseSlotBuf_outer (c : Chan) (i : Nat) (s : State) : (releaseSlotBuf c i s).outer = s.outer := by
  unfold releaseSlotBuf; split <;> simp

@[simp] theorem completeSlot_outer (c : Chan) (i : Nat) (st : Status) (sent : Option SentInfo) (s : State) : (completeSlot c i st sent s).outer = s.outer := by
  unfold completeSlot; simp

@[simp] theorem passTransmit_outer (c : Chan) (s : State) : (passTransmit c s).outer = s.outer := rfl

@[simp] theorem drainClosed_outer (c : Chan) (n : Nat) (s : State) : (drainClosed c n s).outer = s.outer := by
  induction n generalizing s with
  | zero => rfl
  | succ n ih => unfold drainClosed; split <;> simp [ih]

@[simp] theorem settleClosed_outer (c : Chan) (s : State) : (settleClosed c s).outer = s.outer := drainClosed_outer c _ s

@[simp] theorem recordCommit_outer (c : Chan) (i len : Nat) (notify : Bool) (s : State) : (recordCommit c i len notify s).outer = s.outer := rfl

@[simp] theorem acceptCommit_outer (c : Chan) (i : Nat) (s : State) : (acceptCommit c i s).outer = s.outer := by
  unfold acceptCommit; simp

@[simp] theorem rejectCommit_outer (c : Chan) (i len : Nat) (s : State) : (rejectCommit c i len s).outer = s.outer := by
  unfold rejectCommit; simp

@[simp] theorem takeCommit_outer (c : Chan) (i len : Nat) (notify : Bool) (s : State) : (takeCommit c i len notify s).outer = s.outer := by
  unfold takeCommit; dsimp only; (repeat' split) <;> simp

@[simp] theorem captureWord_outer (c : Chan) (i off : Nat) (be : BitVec 4) (d : Word) (s : State) : (captureWord c i off be d s).outer = s.outer := rfl

@[simp] theorem planReads_outer (refetch : Bool) (c : Chan) (i len : Nat) (b : Buf) (s : State) : (planReads refetch c i len b s).outer = s.outer := by
  unfold planReads; split <;> simp

@[simp] theorem beginStaging_outer (c : Chan) (s : State) : (beginStaging c s).outer = s.outer := by
  unfold beginStaging; (repeat' split) <;> simp

@[simp] theorem finishDropped_outer (b : Buf) (d : Drop) (s : State) : (finishDropped b d s).outer = s.outer := rfl

@[simp] theorem storeBurst_outer (j : ReadJob) (r : DevReq) (s : State) : (storeBurst j r s).outer = s.outer := rfl

@[simp] theorem acceptRead_outer (j : ReadJob) (r : DevReq) (s : State) : (acceptRead j r s).outer = s.outer := by
  unfold acceptRead; split <;> simp

@[simp] theorem faultStaging_outer (j : ReadJob) (r : DevReq) (s : State) : (faultStaging j r s).outer = s.outer := by
  unfold faultStaging; simp

@[simp] theorem endStagingRead_outer (b : Buf) (e : AccessEnd) (r : DevReq) (s : State) : (endStagingRead b e r s).outer = s.outer := by
  unfold endStagingRead; (repeat' split) <;> simp

@[simp] theorem grantRefetch_outer (s : State) : (grantRefetch s).outer = s.outer := by
  unfold grantRefetch; (repeat' split) <;> simp

@[simp] theorem cancelCaptureRefetch_outer (s : State) : (cancelCaptureRefetch s).outer = s.outer := by
  unfold cancelCaptureRefetch; dsimp only; (repeat' split) <;> simp

@[simp] theorem setChan_outer (c : Chan) (st : ChanState) (s : State) : (setChan c st s).outer = s.outer := rfl

@[simp] theorem emptyFilling_outer (c : Chan) (s : State) (i : Nat) : (emptyFilling c s i).outer = s.outer := by
  unfold emptyFilling; (repeat' split) <;> simp

@[simp] theorem stopSlot_outer (c : Chan) (s : State) (i : Nat) : (stopSlot c s i).outer = s.outer := by
  unfold stopSlot; (repeat' split) <;> simp

@[simp] theorem finishOutDrain_outer (c : Chan) (s : State) : (finishOutDrain c s).outer = s.outer := by
  unfold finishOutDrain; split <;> simp

@[simp] theorem stopOutbound_outer (c : Chan) (cfg : ChanCfg) (s : State) : (stopOutbound c cfg s).outer = s.outer := by
  unfold stopOutbound
  simp only [finishOutDrain_outer]
  rw [outer_foldl _ (fun s i => stopSlot_outer c s i), outer_foldl _ (fun s i => emptyFilling_outer c s i), setChan_outer]

@[simp] theorem resetSlot_outer (c : Chan) (s : State) (i : Nat) : (resetSlot c s i).outer = s.outer := by
  unfold resetSlot; (repeat' split) <;> simp

@[simp] theorem resetChan_outer (s : State) (c : Chan) : (resetChan s c).outer = s.outer := by
  unfold resetChan; rw [outer_foldl _ (fun s i => resetSlot_outer c s i)]

@[simp] theorem captureReset_outer (s : State) : (captureReset s).outer = s.outer := by
  unfold captureReset; rw [outer_foldl _ (fun s c => resetChan_outer s c), cancelCaptureRefetch_outer]

@[simp] theorem toWord0_outer (c : Chan) (i : Nat) (s : State) : (toWord0 c i s).outer = s.outer := by
  unfold toWord0; split <;> simp

@[simp] theorem endWbHeader_outer (e : AccessEnd) (r : DevReq) (s : State) : (endWbHeader e r s).outer = s.outer := by
  unfold endWbHeader; split <;> simp

@[simp] theorem countReturned_outer (c : Chan) (st : Status) (s : State) : (countReturned c st s).outer = s.outer := by
  unfold countReturned; (repeat' split) <;> simp

@[simp] theorem postDone_outer (c : Chan) (i : Nat) (notify : Bool) (st : Status) (s : State) : (postDone c i notify st s).outer = s.outer := by
  unfold postDone; split <;> simp

@[simp] theorem returnOut_outer (c : Chan) (i : Nat) (notify : Bool) (st : Status) (s : State) : (returnOut c i notify st s).outer = s.outer := by
  unfold returnOut; simp

@[simp] theorem endWbWord0_outer (e : AccessEnd) (r : DevReq) (s : State) : (endWbWord0 e r s).outer = s.outer := by
  unfold endWbWord0; (repeat' split) <;> simp

@[simp] theorem callStatus_outer (s : State) : (callStatus s).outer = s.outer := rfl

@[simp] theorem statusEnd_outer (e : AccessEnd) (r : DevReq) (s : State) : (statusEnd e r s).outer = s.outer := by
  unfold statusEnd; dsimp only; (repeat' split) <;> simp

@[simp] theorem enterSync_outer (s : State) : (enterSync s).outer = s.outer := rfl

@[simp] theorem trySync_outer (s : State) : (trySync s).outer = s.outer := by
  unfold trySync; split <;> simp

@[simp] theorem acknowledge_outer (s : State) : (acknowledge s).outer = s.outer := by
  unfold acknowledge; dsimp only; (repeat' split) <;> simp

@[simp] theorem postDown_outer (cause : Cause) (s : State) : (postDown cause s).outer = s.outer := by
  unfold postDown; split <;> simp

@[simp] theorem linkReset_outer (cause : Cause) (s : State) : (linkReset cause s).outer = s.outer := by
  unfold linkReset; simp

@[simp] theorem reportReset_outer (cause : Cause) (s : State) : (reportReset cause s).outer = s.outer := by
  unfold reportReset; split <;> simp

@[simp] theorem enterUp_outer (s : State) : (enterUp s).outer = s.outer := by
  unfold enterUp; simp

@[simp] theorem startEnable_outer (s : State) : (startEnable s).outer = s.outer := by
  unfold startEnable; split <;> simp

@[simp] theorem installLink_outer (p : LinkParams) (s : State) : (installLink p s).outer = s.outer := rfl

@[simp] theorem linkRecordEnd_outer (e : AccessEnd) (r : DevReq) (s : State) : (linkRecordEnd e r s).outer = s.outer := by
  unfold linkRecordEnd; dsimp only; (repeat' split) <;> simp

@[simp] theorem startDisable_outer (s : State) : (startDisable s).outer = s.outer := by
  unfold startDisable; split <;> simp

@[simp] theorem setRx_outer (rx : LaneRx) (s : State) : (setRx rx s).outer = s.outer := rfl

@[simp] theorem lockFound_outer (ws : List LinkWord) (s : State) : (lockFound ws s).outer = s.outer := by
  unfold lockFound; split <;> simp

@[simp] theorem lockLost_outer (ws : List LinkWord) (s : State) : (lockLost ws s).outer = s.outer := by
  unfold lockLost; dsimp only; (repeat' split) <;> simp

@[simp] theorem takeInit_outer (epoch : Epoch) (heard : Option Epoch) (s : State) : (takeInit epoch heard s).outer = s.outer := by
  unfold takeInit; dsimp only; (repeat' split) <;> simp

@[simp] theorem cancelRefetch_outer (s : State) : (cancelRefetch s).outer = s.outer := by
  unfold cancelRefetch; split <;> simp

@[simp] theorem requestRefetch_outer (x : ReplayEntry) (s : State) : (requestRefetch x s).outer = s.outer := rfl

@[simp] theorem haltPass_outer (s : State) : (haltPass s).outer = s.outer := rfl

@[simp] theorem retryLimitReached_outer (s : State) : (retryLimitReached s).outer = s.outer := by
  unfold retryLimitReached; simp

@[simp] theorem restOn_outer (x : ReplayEntry) (s : State) : (restOn x s).outer = s.outer := by
  unfold restOn; (repeat' split) <;> simp

@[simp] theorem movePass_outer (x : ReplayEntry) (s : State) : (movePass x s).outer = s.outer := by
  unfold movePass; dsimp only; (repeat' split) <;> simp

@[simp] theorem startPass_outer (x : ReplayEntry) (s : State) : (startPass x s).outer = s.outer := by
  unfold startPass; simp

@[simp] theorem transmit_outer (f : Frame) (b : Option Buf) (s : State) : (transmit f b s).outer = s.outer := rfl

@[simp] theorem popCtl_outer (s : State) : (popCtl s).outer = s.outer := rfl

@[simp] theorem resetBatch_outer (s : State) : (resetBatch s).outer = s.outer := rfl

@[simp] theorem sendNew_outer (c : Chan) (b : Buf) (s : State) : (sendNew c b s).outer = s.outer := rfl

@[simp] theorem advancePass_outer (q : Seq) (s : State) : (advancePass q s).outer = s.outer := by
  unfold advancePass; split <;> simp

@[simp] theorem sendAgain_outer (x : ReplayEntry) (b : Buf) (s : State) : (sendAgain x b s).outer = s.outer := by
  unfold sendAgain; simp

@[simp] theorem reportEnd_outer (x : Send) (s : State) : (reportEnd x s).outer = s.outer := by
  unfold reportEnd; split <;> simp

@[simp] theorem endSend_outer (how : SendEnd) (s : State) : (endSend how s).outer = s.outer := by
  unfold endSend; (repeat' split) <;> simp

@[simp] theorem completeEntry_outer (st : ReplayEntry → Status) (s : State) (x : ReplayEntry) : (completeEntry st s x).outer = s.outer := by
  unfold completeEntry; split <;> simp

@[simp] theorem adjustPass_outer (s : State) : (adjustPass s).outer = s.outer := by
  unfold adjustPass; (repeat' split) <;> simp

@[simp] theorem timerAfterRemoval_outer (s : State) : (timerAfterRemoval s).outer = s.outer := rfl

@[simp] theorem coverAck_outer (q : Seq) (rs : List RefusalEntry) (s : State) : (coverAck q rs s).outer = s.outer := by
  unfold coverAck; simp only [adjustPass_outer, timerAfterRemoval_outer]
  rw [outer_foldl _ (fun s x => completeEntry_outer _ s x)]; rfl

@[simp] theorem takeAck_outer (disposed : Option Seq) (rs : List RefusalEntry) (s : State) : (takeAck disposed rs s).outer = s.outer := by
  unfold takeAck; (repeat' split) <;> simp

@[simp] theorem coverNak_outer (x : ReplayEntry) (s : State) : (coverNak x s).outer = s.outer := by
  unfold coverNak; (repeat' split) <;> simp

@[simp] theorem takeNak_outer (e : Seq) (s : State) : (takeNak e s).outer = s.outer := by
  unfold takeNak; dsimp only; (repeat' split) <;> simp

@[simp] theorem expiryPass_outer (s : State) : (expiryPass s).outer = s.outer := by
  unfold expiryPass; (repeat' split) <;> simp

@[simp] theorem ackTimerExpires_outer (s : State) : (ackTimerExpires s).outer = s.outer := by
  unfold ackTimerExpires; simp

@[simp] theorem faultRefetch_outer (j : ReadJob) (r : DevReq) (s : State) : (faultRefetch j r s).outer = s.outer := by
  unfold faultRefetch; simp

@[simp] theorem endRefetchRead_outer (b : Buf) (e : AccessEnd) (r : DevReq) (s : State) : (endRefetchRead b e r s).outer = s.outer := by
  unfold endRefetchRead; (repeat' split) <;> simp

@[simp] theorem transmitReset_outer (s : State) : (transmitReset s).outer = s.outer := by
  unfold transmitReset; simp only [outer_update, cancelRefetch_outer]
  rw [outer_foldl _ (fun s x => completeEntry_outer _ s x)]; rfl

@[simp] theorem setInState_outer (c : Chan) (i : Nat) (st : InState) (s : State) : (setInState c i st s).outer = s.outer := rfl

@[simp] theorem reportPostedTimes_outer (c : Chan) (n : Nat) (s : State) :
    (reportPostedTimes c n s).outer = s.outer := by
  induction n generalizing s with
  | zero => rfl
  | succ n ih => simp [reportPostedTimes, ih]

@[simp] theorem takeRelease_outer (c : Chan) (i : Nat) (notify : Bool) (s : State) : (takeRelease c i notify s).outer = s.outer := by
  unfold takeRelease; simp

@[simp] theorem askNak_outer (s : State) : (askNak s).outer = s.outer := by
  unfold askNak; split <;> simp

@[simp] theorem batchDisposal_outer (s : State) : (batchDisposal s).outer = s.outer := by
  unfold batchDisposal; dsimp only; (repeat' split) <;> simp

@[simp] theorem listRefusal_outer (x : LandEntry) (r : Reason) (s : State) : (listRefusal x r s).outer = s.outer := by
  unfold listRefusal; simp

@[simp] theorem dispose_outer (x : LandEntry) (reason : Option Reason) (s : State) : (dispose x reason s).outer = s.outer := by
  unfold dispose; (repeat' split) <;> simp

@[simp] theorem setHead_outer (e : LandEntry) (l : Landing) (s : State) : (setHead e l s).outer = s.outer := rfl

@[simp] theorem toHeader_outer (e : LandEntry) (l : Landing) (s : State) : (toHeader e l s).outer = s.outer := rfl

@[simp] theorem toControl_outer (e : LandEntry) (l : Landing) (s : State) : (toControl e l s).outer = s.outer := rfl

@[simp] theorem toPayload_outer (e : LandEntry) (l : Landing) (bursts : List Burst) (s : State) : (toPayload e l bursts s).outer = s.outer := by
  unfold toPayload; split <;> simp

@[simp] theorem startLanding_outer (e : LandEntry) (l : Landing) (s : State) : (startLanding e l s).outer = s.outer := by
  unfold startLanding; simp

@[simp] theorem runQueue_outer (q : List LandEntry) (s : State) : (runQueue q s).outer = s.outer := by
  induction q generalizing s with
  | nil => rfl
  | cons e rest ih =>
    unfold runQueue
    split
    · simp [ih]
    · split <;> simp

@[simp] theorem enqueue_outer (e : LandEntry) (s : State) : (enqueue e s).outer = s.outer := by
  unfold enqueue; split <;> simp

@[simp] theorem accept_outer (c : Chan) (q : Seq) (user : Word) (payload : List Byte) (s : State) : (accept c q user payload s).outer = s.outer := by
  unfold accept; dsimp only; (repeat' split) <;> simp

@[simp] theorem takeData_outer (c : Chan) (q : Seq) (user : Word) (payload : List Byte) (s : State) : (takeData c q user payload s).outer = s.outer := by
  unfold takeData; dsimp only; (repeat' split) <;> simp

@[simp] theorem reportDamage_outer (s : State) : (reportDamage s).outer = s.outer := by
  unfold reportDamage; split <;> simp

@[simp] theorem takeArrival_outer (a : LandArrival) (s : State) : (takeArrival a s).outer = s.outer := by
  unfold takeArrival; split <;> simp

@[simp] theorem takeDamage_outer (framing kindData : Bool) (s : State) : (takeDamage framing kindData s).outer = s.outer := by
  unfold takeDamage; dsimp only; (repeat' split) <;> simp

@[simp] theorem leaveLanding_outer (c : Chan) (i : Nat) (s : State) : (leaveLanding c i s).outer = s.outer := by
  unfold leaveLanding; (repeat' split) <;> simp

@[simp] theorem guardExpires_outer (h : HeldRead) (s : State) : (guardExpires h s).outer = s.outer := by
  unfold guardExpires; (repeat' split) <;> simp

@[simp] theorem finishInDrain_outer (c : Chan) (s : State) : (finishInDrain c s).outer = s.outer := by
  unfold finishInDrain; split <;> simp

@[simp] theorem stopInbound_outer (c : Chan) (cfg : ChanCfg) (s : State) : (stopInbound c cfg s).outer = s.outer := by
  unfold stopInbound; simp

@[simp] theorem endLandPayload_outer (e : AccessEnd) (r : DevReq) (s : State) : (endLandPayload e r s).outer = s.outer := by
  unfold endLandPayload; split <;> simp

@[simp] theorem endLandHeader_outer (e : AccessEnd) (r : DevReq) (s : State) : (endLandHeader e r s).outer = s.outer := by
  unfold endLandHeader; split <;> simp

@[simp] theorem disposeLanding_outer (x : LandEntry) (l : Landing) (s : State) : (disposeLanding x l s).outer = s.outer := by
  unfold disposeLanding; split <;> simp

@[simp] theorem returnSlot_outer (x : LandEntry) (l : Landing) (st : Status) (s : State) : (returnSlot x l st s).outer = s.outer := by
  unfold returnSlot; dsimp only; (repeat' split) <;> simp

@[simp] theorem endLandWord0_outer (e : AccessEnd) (r : DevReq) (s : State) : (endLandWord0 e r s).outer = s.outer := by
  unfold endLandWord0; split <;> simp

@[simp] theorem returnPosted_outer (c : Chan) (i : Nat) (s : State) : (returnPosted c i s).outer = s.outer := rfl

@[simp] theorem discardEntry_outer (s : State) (e : LandEntry) : (discardEntry s e).outer = s.outer := by
  unfold discardEntry; split <;> simp

@[simp] theorem landingReset_outer (s : State) : (landingReset s).outer = s.outer := by
  unfold landingReset; simp only
  rw [outer_foldl _ (fun s c => finishInDrain_outer c s), outer_foldl _ (fun s e => discardEntry_outer s e)]; rfl

@[simp] theorem afterLatch_outer (w : ControlWord) (be : BitVec 4) (s : State) : (afterLatch w be s).outer = s.outer := by
  unfold afterLatch; (repeat' split) <;> simp

@[simp] theorem latchRecordWord_outer (s : State) (w : RecordWord) : (latchRecordWord s w).outer = s.outer := by
  unfold latchRecordWord; split <;> simp

@[simp] theorem handover_outer (c : Chan) (i : Nat) (d : Word) (s : State) : (handover c i d s).outer = s.outer := by
  unfold handover; split <;> simp

@[simp] theorem duplicate_outer (c : Chan) (i : Nat) (s : State) : (duplicate c i s).outer = s.outer := rfl

@[simp] theorem violation_outer (c : Chan) (i off : Nat) (s : State) : (violation c i off s).outer = s.outer := rfl

@[simp] theorem plainSlotWord_outer (c : Chan) (i off : Nat) (w : RecordWord) (s : State) : (plainSlotWord c i off w s).outer = s.outer := by
  unfold plainSlotWord; split <;> simp

@[simp] theorem startLoad_outer (cmd : Command) (s : State) : (startLoad cmd s).outer = s.outer := by
  unfold startLoad; split <;> simp

@[simp] theorem activateOut_outer (n : Chan) (cfg : ChanCfg) (s : State) : (activateOut n cfg s).outer = s.outer := rfl

@[simp] theorem activateChan_outer (n : Chan) (cfg : ChanCfg) (s : State) : (activateChan n cfg s).outer = s.outer := rfl

@[simp] theorem activateIn_outer (n : Chan) (cfg : ChanCfg) (k : Nat) (s : State) : (activateIn n cfg k s).outer = s.outer := rfl

@[simp] theorem activate_outer (n : Chan) (cfg : ChanCfg) (s : State) : (activate n cfg s).outer = s.outer := by
  unfold activate; split <;> simp

@[simp] theorem judgeRecord_outer (n : Chan) (f : RecordFields) (s : State) : (judgeRecord n f s).outer = s.outer := by
  unfold judgeRecord; split <;> simp

@[simp] theorem endLoad_outer (n : Chan) (e : AccessEnd) (r : DevReq) (s : State) : (endLoad n e r s).outer = s.outer := by
  unfold endLoad; split <;> simp

@[simp] theorem startStop_outer (cmd : Command) (s : State) : (startStop cmd s).outer = s.outer := by
  unfold startStop; (repeat' split) <;> simp

@[simp] theorem startCommand_outer (cmd : Command) (s : State) : (startCommand cmd s).outer = s.outer := by
  unfold startCommand; split <;> simp

@[simp] theorem execute_outer (cmd : Command) (s : State) : (execute cmd s).outer = s.outer := by
  unfold execute; simp

@[simp] theorem commandArrival_outer (cmd : Command) (s : State) : (commandArrival cmd s).outer = s.outer := by
  unfold commandArrival; split <;> simp

@[simp] theorem endDetail_outer (e : AccessEnd) (r : DevReq) (s : State) : (endDetail e r s).outer = s.outer := by
  unfold endDetail; dsimp only; (repeat' split) <;> simp

@[simp] theorem endResponse_outer (e : AccessEnd) (r : DevReq) (s : State) : (endResponse e r s).outer = s.outer := by
  unfold endResponse; dsimp only; (repeat' split) <;> simp

@[simp] theorem applyLatches_outer (ws : List RecordWord) (s : State) : (applyLatches ws s).outer = s.outer := outer_foldl _ (fun s w => latchRecordWord_outer s w) ws s

@[simp] theorem SlotPass.word_outer (c : Chan) (i off : Nat) (w : RecordWord) (p : SlotPass) :
    (p.word c i off w).state.outer = p.state.outer := by
  unfold SlotPass.word SlotPass.violate; (repeat' split) <;> simp

@[simp] theorem slotRecordWord_outer (p : SlotPass) (w : RecordWord) :
    (slotRecordWord p w).state.outer = p.state.outer := by
  unfold slotRecordWord; split <;> simp

theorem slotWords_outer (ws : List RecordWord) (p : SlotPass) :
    (ws.foldl slotRecordWord p).state.outer = p.state.outer := by
  induction ws generalizing p with
  | nil => rfl
  | cons w ws ih => simp [ih]

@[simp] theorem applySlots_outer (ws : List RecordWord) (s : State) : (applySlots ws s).outer = s.outer := slotWords_outer ws _

@[simp] theorem applyCommand_outer (r : WriteRecord) (s : State) : (applyCommand r s).outer = s.outer := by
  unfold applyCommand; split <;> simp

@[simp] theorem applyRecord_outer (r : WriteRecord) (s : State) : (applyRecord r s).outer = s.outer := by
  unfold applyRecord; split <;> simp

@[simp] theorem arrive_outer (a : HostAccess) (s : State) : (arrive a s).outer = s.outer := by
  unfold arrive; split <;> simp

/-- The taking of a presented access changes, of these, only that it is presented (R3). -/
@[simp] theorem arriveNext_outer (s : State) :
    (arriveNext s).outer = { s.outer with presented := (arriveNext s).presented } := by
  unfold arriveNext; split
  · simp only [arrive_outer]; rw [show (arrive _ _).presented = none from ?_]; rfl
    unfold arrive; split <;> rfl
  all_goals rfl

/-- So does the taking of a record. -/
@[simp] theorem takeRecord_outer (mine : Matcher → WriteRecord → Bool) (s : State) :
    (takeRecord mine s).outer = { s.outer with presented := (takeRecord mine s).presented } := by
  unfold takeRecord; (repeat' split)
  case h_1.isTrue r _ _ => rw [arriveNext_outer, applyRecord_outer]; rfl
  all_goals rfl

@[simp] theorem ownerGoesOn_outer (e : AccessEnd) (r : DevReq) (s : State) : (ownerGoesOn e r s).outer = s.outer := by
  unfold ownerGoesOn; split <;> simp

@[simp] theorem captureNotice_outer (s : State) : (captureNotice s).outer = s.outer := by
  unfold captureNotice; split <;> simp

@[simp] theorem initTimerExpires_outer (s : State) : (initTimerExpires s).outer = s.outer := by
  unfold initTimerExpires; split <;> simp

@[simp] theorem damaged_outer (ws : List LinkWord) (s : State) : (damaged ws s).outer = s.outer := by
  unfold damaged; (repeat' split) <;> simp

@[simp] theorem initArrives_outer (ws : List LinkWord) (s : State) : (initArrives ws s).outer = s.outer := by
  unfold initArrives; split <;> simp

@[simp] theorem syncTimerExpires_outer (s : State) : (syncTimerExpires s).outer = s.outer := by
  unfold syncTimerExpires; split <;> simp

@[simp] theorem sendInitFrame_outer (s : State) : (sendInitFrame s).outer = s.outer := by
  unfold sendInitFrame; split <;> simp

@[simp] theorem sendAckFrame_outer (s : State) : (sendAckFrame s).outer = s.outer := by
  unfold sendAckFrame; split <;> simp

@[simp] theorem sendNakFrame_outer (s : State) : (sendNakFrame s).outer = s.outer := by
  unfold sendNakFrame; split <;> simp

@[simp] theorem clearQueued_outer (c : Chan) (s : State) : (clearQueued c s).outer = s.outer := rfl

@[simp] theorem sendCreditFrame_outer (s : State) : (sendCreditFrame s).outer = s.outer := by
  unfold sendCreditFrame; (repeat' split) <;> simp

@[simp] theorem resendFrame_outer (s : State) : (resendFrame s).outer = s.outer := by
  unfold resendFrame; split <;> simp

@[simp] theorem firstSendFrame_outer (s : State) : (firstSendFrame s).outer = s.outer := by
  unfold firstSendFrame; split <;> simp

@[simp] theorem handTransmit_outer (a : TxArrival) (s : State) : (handTransmit a s).outer = s.outer := rfl

@[simp] theorem popTransmit_outer (s : State) : (popTransmit s).outer = s.outer := rfl

@[simp] theorem ackTaken_outer (s : State) : (ackTaken s).outer = s.outer := by
  unfold ackTaken; split <;> simp

@[simp] theorem nakTaken_outer (s : State) : (nakTaken s).outer = s.outer := by
  unfold nakTaken; split <;> simp

@[simp] theorem ackArrives_outer (ws : List LinkWord) (s : State) : (ackArrives ws s).outer = s.outer := by
  unfold ackArrives; (repeat' split) <;> simp

@[simp] theorem nakArrives_outer (ws : List LinkWord) (s : State) : (nakArrives ws s).outer = s.outer := by
  unfold nakArrives; (repeat' split) <;> simp

@[simp] theorem ackTimerTurn_outer (s : State) : (ackTimerTurn s).outer = s.outer := by
  unfold ackTimerTurn; split <;> simp

@[simp] theorem transmitNotice_outer (s : State) : (transmitNotice s).outer = s.outer := by
  unfold transmitNotice; split <;> simp

@[simp] theorem handLanding_outer (a : LandArrival) (s : State) : (handLanding a s).outer = s.outer := rfl

@[simp] theorem popLanding_outer (s : State) : (popLanding s).outer = s.outer := rfl

@[simp] theorem dataTaken_outer (s : State) : (dataTaken s).outer = s.outer := by
  unfold dataTaken; split <;> simp

@[simp] theorem dataArrives_outer (ws : List LinkWord) (s : State) : (dataArrives ws s).outer = s.outer := by
  unfold dataArrives; (repeat' split) <;> simp

@[simp] theorem ackDelayExpires_outer (s : State) : (ackDelayExpires s).outer = s.outer := by
  unfold ackDelayExpires; split <;> simp

@[simp] theorem guardTurn_outer (s : State) : (guardTurn s).outer = s.outer := by
  unfold guardTurn; (repeat' split) <;> simp

@[simp] theorem landingNotice_outer (s : State) : (landingNotice s).outer = s.outer := by
  unfold landingNotice; split <;> simp

@[simp] theorem settleDest_outer (d : Chan) (s : State) : (settleDest d s).outer = s.outer := by
  unfold settleDest; apply outer_foldl; intro s c; split <;> simp

@[simp] theorem takeCredit_outer (d : Chan) (isOpen : Bool) (g : BitVec 8) (v : BitVec 16) (s : State) : (takeCredit d isOpen g v s).outer = s.outer := by
  unfold takeCredit; dsimp only; (repeat' split) <;> simp

@[simp] theorem handCredit_outer (a : CreditArrival) (s : State) : (handCredit a s).outer = s.outer := rfl

@[simp] theorem popCredit_outer (s : State) : (popCredit s).outer = s.outer := rfl

@[simp] theorem creditTaken_outer (s : State) : (creditTaken s).outer = s.outer := by
  unfold creditTaken; split <;> simp

@[simp] theorem creditArrives_outer (ws : List LinkWord) (s : State) : (creditArrives ws s).outer = s.outer := by
  unfold creditArrives; (repeat' split) <;> simp

@[simp] theorem refreshExpires_outer (s : State) : (refreshExpires s).outer = s.outer := by
  unfold refreshExpires; split <;> simp

@[simp] theorem creditNotice_outer (s : State) : (creditNotice s).outer = s.outer := by
  unfold creditNotice; split <;> simp

end Sys2Proof.Machine
end

