-- ==== Sys2Proof/Laws/State.lean ====
section
/-! SUPPORT. For every operation that is one record update of State: what each field is after it. Each lemma is true by
computation and a simp lemma, so that no later proof unfolds a record update. -/

namespace Sys2Proof.Machine

/-! ### `present` -/

@[simp] theorem present_resetLow (r : DevReq) (s : State) : (present r s).resetLow = s.resetLow := rfl
@[simp] theorem present_timebase (r : DevReq) (s : State) : (present r s).timebase = s.timebase := rfl
@[simp] theorem present_intOut (r : DevReq) (s : State) : (present r s).intOut = s.intOut := rfl
@[simp] theorem present_laneOut (r : DevReq) (s : State) : (present r s).laneOut = s.laneOut := rfl
@[simp] theorem present_mem (r : DevReq) (s : State) : (present r s).mem = s.mem := rfl
@[simp] theorem present_host (r : DevReq) (s : State) : (present r s).host = s.host := rfl
@[simp] theorem present_presented (r : DevReq) (s : State) : (present r s).presented = s.presented := rfl
@[simp] theorem present_answer (r : DevReq) (s : State) : (present r s).answer = s.answer := rfl
@[simp] theorem present_port (r : DevReq) (s : State) : (present r s).port = s.port := rfl
@[simp] theorem present_reqs (r : DevReq) (s : State) : (present r s).reqs = s.reqs.put r := rfl
@[simp] theorem present_wm (r : DevReq) (s : State) : (present r s).wm = s.wm := rfl
@[simp] theorem present_cmd (r : DevReq) (s : State) : (present r s).cmd = s.cmd := rfl
@[simp] theorem present_cap (r : DevReq) (s : State) : (present r s).cap = s.cap := rfl
@[simp] theorem present_link (r : DevReq) (s : State) : (present r s).link = s.link := rfl
@[simp] theorem present_tx (r : DevReq) (s : State) : (present r s).tx = s.tx := rfl
@[simp] theorem present_land (r : DevReq) (s : State) : (present r s).land = s.land := rfl
@[simp] theorem present_cred (r : DevReq) (s : State) : (present r s).cred = s.cred := rfl
@[simp] theorem present_ev (r : DevReq) (s : State) : (present r s).ev = s.ev := rfl
@[simp] theorem present_free (r : DevReq) (s : State) : (present r s).free = s.free := rfl
@[simp] theorem present_pending (r : DevReq) (s : State) : (present r s).pending = s.pending := rfl

/-! ### `grantHost` -/

@[simp] theorem grantHost_resetLow (a : HostAccess) (s : State) : (grantHost a s).resetLow = s.resetLow := rfl
@[simp] theorem grantHost_timebase (a : HostAccess) (s : State) : (grantHost a s).timebase = s.timebase := rfl
@[simp] theorem grantHost_intOut (a : HostAccess) (s : State) : (grantHost a s).intOut = s.intOut := rfl
@[simp] theorem grantHost_laneOut (a : HostAccess) (s : State) : (grantHost a s).laneOut = s.laneOut := rfl
@[simp] theorem grantHost_mem (a : HostAccess) (s : State) : (grantHost a s).mem = s.mem := rfl
@[simp] theorem grantHost_host (a : HostAccess) (s : State) : (grantHost a s).host = .transfer a := rfl
@[simp] theorem grantHost_presented (a : HostAccess) (s : State) : (grantHost a s).presented = s.presented := rfl
@[simp] theorem grantHost_answer (a : HostAccess) (s : State) : (grantHost a s).answer = s.answer := rfl
@[simp] theorem grantHost_port (a : HostAccess) (s : State) :
    (grantHost a s).port =
      { s.port with granted := some .host, lastSide := .host, timer := some Config.memoryResponseLimit } := rfl
@[simp] theorem grantHost_reqs (a : HostAccess) (s : State) : (grantHost a s).reqs = s.reqs := rfl
@[simp] theorem grantHost_wm (a : HostAccess) (s : State) : (grantHost a s).wm = s.wm := rfl
@[simp] theorem grantHost_cmd (a : HostAccess) (s : State) : (grantHost a s).cmd = s.cmd := rfl
@[simp] theorem grantHost_cap (a : HostAccess) (s : State) : (grantHost a s).cap = s.cap := rfl
@[simp] theorem grantHost_link (a : HostAccess) (s : State) : (grantHost a s).link = s.link := rfl
@[simp] theorem grantHost_tx (a : HostAccess) (s : State) : (grantHost a s).tx = s.tx := rfl
@[simp] theorem grantHost_land (a : HostAccess) (s : State) : (grantHost a s).land = s.land := rfl
@[simp] theorem grantHost_cred (a : HostAccess) (s : State) : (grantHost a s).cred = s.cred := rfl
@[simp] theorem grantHost_ev (a : HostAccess) (s : State) : (grantHost a s).ev = s.ev := rfl
@[simp] theorem grantHost_free (a : HostAccess) (s : State) : (grantHost a s).free = s.free := rfl
@[simp] theorem grantHost_pending (a : HostAccess) (s : State) : (grantHost a s).pending = s.pending := rfl

/-! ### `grantDevice` -/

@[simp] theorem grantDevice_resetLow (r : DevReq) (s : State) : (grantDevice r s).resetLow = s.resetLow := rfl
@[simp] theorem grantDevice_timebase (r : DevReq) (s : State) : (grantDevice r s).timebase = s.timebase := rfl
@[simp] theorem grantDevice_intOut (r : DevReq) (s : State) : (grantDevice r s).intOut = s.intOut := rfl
@[simp] theorem grantDevice_laneOut (r : DevReq) (s : State) : (grantDevice r s).laneOut = s.laneOut := rfl
@[simp] theorem grantDevice_mem (r : DevReq) (s : State) : (grantDevice r s).mem = s.mem := rfl
@[simp] theorem grantDevice_host (r : DevReq) (s : State) : (grantDevice r s).host = s.host := rfl
@[simp] theorem grantDevice_presented (r : DevReq) (s : State) : (grantDevice r s).presented = s.presented := rfl
@[simp] theorem grantDevice_answer (r : DevReq) (s : State) : (grantDevice r s).answer = s.answer := rfl
@[simp] theorem grantDevice_port (r : DevReq) (s : State) :
    (grantDevice r s).port =
      ⟨some (.device r), .device, r.purpose.recordOwner?.getD s.port.last3, r.purpose.tableOwner?.getD s.port.last4,
      some Config.memoryResponseLimit⟩ := rfl
@[simp] theorem grantDevice_reqs (r : DevReq) (s : State) : (grantDevice r s).reqs = s.reqs.clear r.purpose := rfl
@[simp] theorem grantDevice_wm (r : DevReq) (s : State) : (grantDevice r s).wm = s.wm := rfl
@[simp] theorem grantDevice_cmd (r : DevReq) (s : State) : (grantDevice r s).cmd = s.cmd := rfl
@[simp] theorem grantDevice_cap (r : DevReq) (s : State) : (grantDevice r s).cap = s.cap := rfl
@[simp] theorem grantDevice_link (r : DevReq) (s : State) : (grantDevice r s).link = s.link := rfl
@[simp] theorem grantDevice_tx (r : DevReq) (s : State) : (grantDevice r s).tx = s.tx := rfl
@[simp] theorem grantDevice_land (r : DevReq) (s : State) :
    (grantDevice r s).land =
      { s.land with queue := if r.purpose = .landPayload then markBegun s.land.queue else s.land.queue } := rfl
@[simp] theorem grantDevice_cred (r : DevReq) (s : State) : (grantDevice r s).cred = s.cred := rfl
@[simp] theorem grantDevice_ev (r : DevReq) (s : State) : (grantDevice r s).ev = s.ev := rfl
@[simp] theorem grantDevice_free (r : DevReq) (s : State) : (grantDevice r s).free = s.free := rfl
@[simp] theorem grantDevice_pending (r : DevReq) (s : State) : (grantDevice r s).pending = s.pending := rfl

/-! ### `endDevice` -/

@[simp] theorem endDevice_resetLow (r : DevReq) (e : AccessEnd) (s : State) :
    (endDevice r e s).resetLow = s.resetLow := rfl
@[simp] theorem endDevice_timebase (r : DevReq) (e : AccessEnd) (s : State) :
    (endDevice r e s).timebase = s.timebase := rfl
@[simp] theorem endDevice_intOut (r : DevReq) (e : AccessEnd) (s : State) : (endDevice r e s).intOut = s.intOut := rfl
@[simp] theorem endDevice_laneOut (r : DevReq) (e : AccessEnd) (s : State) :
    (endDevice r e s).laneOut = s.laneOut := rfl
@[simp] theorem endDevice_mem (r : DevReq) (e : AccessEnd) (s : State) :
    (endDevice r e s).mem = memAfter s.mem r.write r.addr r.words e := rfl
@[simp] theorem endDevice_host (r : DevReq) (e : AccessEnd) (s : State) : (endDevice r e s).host = s.host := rfl
@[simp] theorem endDevice_presented (r : DevReq) (e : AccessEnd) (s : State) :
    (endDevice r e s).presented = s.presented := rfl
@[simp] theorem endDevice_answer (r : DevReq) (e : AccessEnd) (s : State) : (endDevice r e s).answer = s.answer := rfl
@[simp] theorem endDevice_port (r : DevReq) (e : AccessEnd) (s : State) :
    (endDevice r e s).port = s.port.release := rfl
@[simp] theorem endDevice_reqs (r : DevReq) (e : AccessEnd) (s : State) : (endDevice r e s).reqs = s.reqs := rfl
@[simp] theorem endDevice_wm (r : DevReq) (e : AccessEnd) (s : State) : (endDevice r e s).wm = s.wm := rfl
@[simp] theorem endDevice_cmd (r : DevReq) (e : AccessEnd) (s : State) : (endDevice r e s).cmd = s.cmd := rfl
@[simp] theorem endDevice_cap (r : DevReq) (e : AccessEnd) (s : State) : (endDevice r e s).cap = s.cap := rfl
@[simp] theorem endDevice_link (r : DevReq) (e : AccessEnd) (s : State) : (endDevice r e s).link = s.link := rfl
@[simp] theorem endDevice_tx (r : DevReq) (e : AccessEnd) (s : State) : (endDevice r e s).tx = s.tx := rfl
@[simp] theorem endDevice_land (r : DevReq) (e : AccessEnd) (s : State) : (endDevice r e s).land = s.land := rfl
@[simp] theorem endDevice_cred (r : DevReq) (e : AccessEnd) (s : State) : (endDevice r e s).cred = s.cred := rfl
@[simp] theorem endDevice_ev (r : DevReq) (e : AccessEnd) (s : State) : (endDevice r e s).ev = s.ev := rfl
@[simp] theorem endDevice_free (r : DevReq) (e : AccessEnd) (s : State) : (endDevice r e s).free = s.free := rfl
@[simp] theorem endDevice_pending (r : DevReq) (e : AccessEnd) (s : State) :
    (endDevice r e s).pending = s.pending := rfl

/-! ### `endHost` -/

@[simp] theorem endHost_resetLow (a : HostAccess) (e : AccessEnd) (data : List Word) (s : State) :
    (endHost a e data s).resetLow = s.resetLow := rfl
@[simp] theorem endHost_timebase (a : HostAccess) (e : AccessEnd) (data : List Word) (s : State) :
    (endHost a e data s).timebase = s.timebase := rfl
@[simp] theorem endHost_intOut (a : HostAccess) (e : AccessEnd) (data : List Word) (s : State) :
    (endHost a e data s).intOut = s.intOut := rfl
@[simp] theorem endHost_laneOut (a : HostAccess) (e : AccessEnd) (data : List Word) (s : State) :
    (endHost a e data s).laneOut = s.laneOut := rfl
@[simp] theorem endHost_mem (a : HostAccess) (e : AccessEnd) (data : List Word) (s : State) :
    (endHost a e data s).mem = memAfter s.mem a.write a.start a.words e := rfl
@[simp] theorem endHost_host (a : HostAccess) (e : AccessEnd) (data : List Word) (s : State) :
    (endHost a e data s).host =
      if a.write then .handoff ⟨a.start, recordWords a.start a.words, accessOk e⟩ else .idle := rfl
@[simp] theorem endHost_presented (a : HostAccess) (e : AccessEnd) (data : List Word) (s : State) :
    (endHost a e data s).presented = s.presented := rfl
@[simp] theorem endHost_answer (a : HostAccess) (e : AccessEnd) (data : List Word) (s : State) :
    (endHost a e data s).answer = some ⟨a.write, if a.write then [] else data, accessOk e⟩ := rfl
@[simp] theorem endHost_port (a : HostAccess) (e : AccessEnd) (data : List Word) (s : State) :
    (endHost a e data s).port = s.port.release := rfl
@[simp] theorem endHost_reqs (a : HostAccess) (e : AccessEnd) (data : List Word) (s : State) :
    (endHost a e data s).reqs = s.reqs := rfl
@[simp] theorem endHost_wm (a : HostAccess) (e : AccessEnd) (data : List Word) (s : State) :
    (endHost a e data s).wm = s.wm := rfl
@[simp] theorem endHost_cmd (a : HostAccess) (e : AccessEnd) (data : List Word) (s : State) :
    (endHost a e data s).cmd = s.cmd := rfl
@[simp] theorem endHost_cap (a : HostAccess) (e : AccessEnd) (data : List Word) (s : State) :
    (endHost a e data s).cap = s.cap := rfl
@[simp] theorem endHost_link (a : HostAccess) (e : AccessEnd) (data : List Word) (s : State) :
    (endHost a e data s).link = s.link := rfl
@[simp] theorem endHost_tx (a : HostAccess) (e : AccessEnd) (data : List Word) (s : State) :
    (endHost a e data s).tx = s.tx := rfl
@[simp] theorem endHost_land (a : HostAccess) (e : AccessEnd) (data : List Word) (s : State) :
    (endHost a e data s).land = s.land := rfl
@[simp] theorem endHost_cred (a : HostAccess) (e : AccessEnd) (data : List Word) (s : State) :
    (endHost a e data s).cred = s.cred := rfl
@[simp] theorem endHost_ev (a : HostAccess) (e : AccessEnd) (data : List Word) (s : State) :
    (endHost a e data s).ev = s.ev := rfl
@[simp] theorem endHost_free (a : HostAccess) (e : AccessEnd) (data : List Word) (s : State) :
    (endHost a e data s).free = s.free + a.words.length := rfl
@[simp] theorem endHost_pending (a : HostAccess) (e : AccessEnd) (data : List Word) (s : State) :
    (endHost a e data s).pending = s.pending := rfl

/-! ### `endCommand` -/

@[simp] theorem endCommand_resetLow (r : Result) (d : Word) (s : State) :
    (endCommand r d s).resetLow = s.resetLow := rfl
@[simp] theorem endCommand_timebase (r : Result) (d : Word) (s : State) :
    (endCommand r d s).timebase = s.timebase := rfl
@[simp] theorem endCommand_intOut (r : Result) (d : Word) (s : State) : (endCommand r d s).intOut = s.intOut := rfl
@[simp] theorem endCommand_laneOut (r : Result) (d : Word) (s : State) : (endCommand r d s).laneOut = s.laneOut := rfl
@[simp] theorem endCommand_mem (r : Result) (d : Word) (s : State) : (endCommand r d s).mem = s.mem := rfl
@[simp] theorem endCommand_host (r : Result) (d : Word) (s : State) : (endCommand r d s).host = s.host := rfl
@[simp] theorem endCommand_presented (r : Result) (d : Word) (s : State) :
    (endCommand r d s).presented = s.presented := rfl
@[simp] theorem endCommand_answer (r : Result) (d : Word) (s : State) : (endCommand r d s).answer = s.answer := rfl
@[simp] theorem endCommand_port (r : Result) (d : Word) (s : State) : (endCommand r d s).port = s.port := rfl
@[simp] theorem endCommand_reqs (r : Result) (d : Word) (s : State) :
    (endCommand r d s).reqs =
      { s.reqs with command := if s.cmd.isRunning then some (detailReq s.wm d) else s.reqs.command } := rfl
@[simp] theorem endCommand_wm (r : Result) (d : Word) (s : State) : (endCommand r d s).wm = s.wm := rfl
@[simp] theorem endCommand_cmd (r : Result) (d : Word) (s : State) :
    (endCommand r d s).cmd = { s.cmd with executing := s.cmd.executing.map (fun x => x.finish r d) } := rfl
@[simp] theorem endCommand_cap (r : Result) (d : Word) (s : State) : (endCommand r d s).cap = s.cap := rfl
@[simp] theorem endCommand_link (r : Result) (d : Word) (s : State) : (endCommand r d s).link = s.link := rfl
@[simp] theorem endCommand_tx (r : Result) (d : Word) (s : State) : (endCommand r d s).tx = s.tx := rfl
@[simp] theorem endCommand_land (r : Result) (d : Word) (s : State) : (endCommand r d s).land = s.land := rfl
@[simp] theorem endCommand_cred (r : Result) (d : Word) (s : State) : (endCommand r d s).cred = s.cred := rfl
@[simp] theorem endCommand_ev (r : Result) (d : Word) (s : State) : (endCommand r d s).ev = s.ev := rfl
@[simp] theorem endCommand_free (r : Result) (d : Word) (s : State) : (endCommand r d s).free = s.free := rfl
@[simp] theorem endCommand_pending (r : Result) (d : Word) (s : State) : (endCommand r d s).pending = s.pending := rfl

/-! ### `count` -/

@[simp] theorem count_resetLow (f : Counters → Counters) (s : State) : (count f s).resetLow = s.resetLow := rfl
@[simp] theorem count_timebase (f : Counters → Counters) (s : State) : (count f s).timebase = s.timebase := rfl
@[simp] theorem count_intOut (f : Counters → Counters) (s : State) : (count f s).intOut = s.intOut := rfl
@[simp] theorem count_laneOut (f : Counters → Counters) (s : State) : (count f s).laneOut = s.laneOut := rfl
@[simp] theorem count_mem (f : Counters → Counters) (s : State) : (count f s).mem = s.mem := rfl
@[simp] theorem count_host (f : Counters → Counters) (s : State) : (count f s).host = s.host := rfl
@[simp] theorem count_presented (f : Counters → Counters) (s : State) : (count f s).presented = s.presented := rfl
@[simp] theorem count_answer (f : Counters → Counters) (s : State) : (count f s).answer = s.answer := rfl
@[simp] theorem count_port (f : Counters → Counters) (s : State) : (count f s).port = s.port := rfl
@[simp] theorem count_reqs (f : Counters → Counters) (s : State) : (count f s).reqs = s.reqs := rfl
@[simp] theorem count_wm (f : Counters → Counters) (s : State) : (count f s).wm = s.wm := rfl
@[simp] theorem count_cmd (f : Counters → Counters) (s : State) : (count f s).cmd = s.cmd := rfl
@[simp] theorem count_cap (f : Counters → Counters) (s : State) : (count f s).cap = s.cap := rfl
@[simp] theorem count_link (f : Counters → Counters) (s : State) : (count f s).link = s.link := rfl
@[simp] theorem count_tx (f : Counters → Counters) (s : State) : (count f s).tx = s.tx := rfl
@[simp] theorem count_land (f : Counters → Counters) (s : State) : (count f s).land = s.land := rfl
@[simp] theorem count_cred (f : Counters → Counters) (s : State) : (count f s).cred = s.cred := rfl
@[simp] theorem count_ev (f : Counters → Counters) (s : State) :
    (count f s).ev = { s.ev with counters := f s.ev.counters } := rfl
@[simp] theorem count_free (f : Counters → Counters) (s : State) : (count f s).free = s.free := rfl
@[simp] theorem count_pending (f : Counters → Counters) (s : State) : (count f s).pending = s.pending := rfl

/-! ### `driveInt` -/

@[simp] theorem driveInt_resetLow (s : State) : (driveInt s).resetLow = s.resetLow := rfl
@[simp] theorem driveInt_timebase (s : State) : (driveInt s).timebase = s.timebase := rfl
@[simp] theorem driveInt_intOut (s : State) : (driveInt s).intOut = intLevel s.ev s.wm := rfl
@[simp] theorem driveInt_laneOut (s : State) : (driveInt s).laneOut = s.laneOut := rfl
@[simp] theorem driveInt_mem (s : State) : (driveInt s).mem = s.mem := rfl
@[simp] theorem driveInt_host (s : State) : (driveInt s).host = s.host := rfl
@[simp] theorem driveInt_presented (s : State) : (driveInt s).presented = s.presented := rfl
@[simp] theorem driveInt_answer (s : State) : (driveInt s).answer = s.answer := rfl
@[simp] theorem driveInt_port (s : State) : (driveInt s).port = s.port := rfl
@[simp] theorem driveInt_reqs (s : State) : (driveInt s).reqs = s.reqs := rfl
@[simp] theorem driveInt_wm (s : State) : (driveInt s).wm = s.wm := rfl
@[simp] theorem driveInt_cmd (s : State) : (driveInt s).cmd = s.cmd := rfl
@[simp] theorem driveInt_cap (s : State) : (driveInt s).cap = s.cap := rfl
@[simp] theorem driveInt_link (s : State) : (driveInt s).link = s.link := rfl
@[simp] theorem driveInt_tx (s : State) : (driveInt s).tx = s.tx := rfl
@[simp] theorem driveInt_land (s : State) : (driveInt s).land = s.land := rfl
@[simp] theorem driveInt_cred (s : State) : (driveInt s).cred = s.cred := rfl
@[simp] theorem driveInt_ev (s : State) : (driveInt s).ev = s.ev := rfl
@[simp] theorem driveInt_free (s : State) : (driveInt s).free = s.free := rfl
@[simp] theorem driveInt_pending (s : State) : (driveInt s).pending = s.pending := rfl

/-! ### `driveLane` -/

@[simp] theorem driveLane_resetLow (s : State) : (driveLane s).resetLow = s.resetLow := rfl
@[simp] theorem driveLane_timebase (s : State) : (driveLane s).timebase = s.timebase := rfl
@[simp] theorem driveLane_intOut (s : State) : (driveLane s).intOut = s.intOut := rfl
@[simp] theorem driveLane_laneOut (s : State) : (driveLane s).laneOut = laneStream s.link s.tx := rfl
@[simp] theorem driveLane_mem (s : State) : (driveLane s).mem = s.mem := rfl
@[simp] theorem driveLane_host (s : State) : (driveLane s).host = s.host := rfl
@[simp] theorem driveLane_presented (s : State) : (driveLane s).presented = s.presented := rfl
@[simp] theorem driveLane_answer (s : State) : (driveLane s).answer = s.answer := rfl
@[simp] theorem driveLane_port (s : State) : (driveLane s).port = s.port := rfl
@[simp] theorem driveLane_reqs (s : State) : (driveLane s).reqs = s.reqs := rfl
@[simp] theorem driveLane_wm (s : State) : (driveLane s).wm = s.wm := rfl
@[simp] theorem driveLane_cmd (s : State) : (driveLane s).cmd = s.cmd := rfl
@[simp] theorem driveLane_cap (s : State) : (driveLane s).cap = s.cap := rfl
@[simp] theorem driveLane_link (s : State) : (driveLane s).link = s.link := rfl
@[simp] theorem driveLane_tx (s : State) : (driveLane s).tx = s.tx := rfl
@[simp] theorem driveLane_land (s : State) : (driveLane s).land = s.land := rfl
@[simp] theorem driveLane_cred (s : State) : (driveLane s).cred = s.cred := rfl
@[simp] theorem driveLane_ev (s : State) : (driveLane s).ev = s.ev := rfl
@[simp] theorem driveLane_free (s : State) : (driveLane s).free = s.free := rfl
@[simp] theorem driveLane_pending (s : State) : (driveLane s).pending = s.pending := rfl

/-! ### `withdrawRecord` -/

@[simp] theorem withdrawRecord_resetLow (s : State) : (withdrawRecord s).resetLow = s.resetLow := rfl
@[simp] theorem withdrawRecord_timebase (s : State) : (withdrawRecord s).timebase = s.timebase := rfl
@[simp] theorem withdrawRecord_intOut (s : State) : (withdrawRecord s).intOut = s.intOut := rfl
@[simp] theorem withdrawRecord_laneOut (s : State) : (withdrawRecord s).laneOut = s.laneOut := rfl
@[simp] theorem withdrawRecord_mem (s : State) : (withdrawRecord s).mem = s.mem := rfl
@[simp] theorem withdrawRecord_host (s : State) : (withdrawRecord s).host = s.host := rfl
@[simp] theorem withdrawRecord_presented (s : State) : (withdrawRecord s).presented = s.presented := rfl
@[simp] theorem withdrawRecord_answer (s : State) : (withdrawRecord s).answer = s.answer := rfl
@[simp] theorem withdrawRecord_port (s : State) : (withdrawRecord s).port = s.port := rfl
@[simp] theorem withdrawRecord_wm (s : State) : (withdrawRecord s).wm = s.wm := rfl
@[simp] theorem withdrawRecord_cmd (s : State) : (withdrawRecord s).cmd = s.cmd := rfl
@[simp] theorem withdrawRecord_cap (s : State) : (withdrawRecord s).cap = s.cap := rfl
@[simp] theorem withdrawRecord_link (s : State) : (withdrawRecord s).link = s.link := rfl
@[simp] theorem withdrawRecord_tx (s : State) : (withdrawRecord s).tx = s.tx := rfl
@[simp] theorem withdrawRecord_land (s : State) : (withdrawRecord s).land = s.land := rfl
@[simp] theorem withdrawRecord_cred (s : State) : (withdrawRecord s).cred = s.cred := rfl
@[simp] theorem withdrawRecord_ev (s : State) : (withdrawRecord s).ev = { s.ev with ring := none } := rfl
@[simp] theorem withdrawRecord_free (s : State) : (withdrawRecord s).free = s.free := rfl
@[simp] theorem withdrawRecord_pending (s : State) : (withdrawRecord s).pending = s.pending := rfl

/-! ### `clearHold` -/

@[simp] theorem clearHold_resetLow (s : State) : (clearHold s).resetLow = s.resetLow := rfl
@[simp] theorem clearHold_timebase (s : State) : (clearHold s).timebase = s.timebase := rfl
@[simp] theorem clearHold_intOut (s : State) : (clearHold s).intOut = s.intOut := rfl
@[simp] theorem clearHold_laneOut (s : State) : (clearHold s).laneOut = s.laneOut := rfl
@[simp] theorem clearHold_mem (s : State) : (clearHold s).mem = s.mem := rfl
@[simp] theorem clearHold_host (s : State) : (clearHold s).host = s.host := rfl
@[simp] theorem clearHold_presented (s : State) : (clearHold s).presented = s.presented := rfl
@[simp] theorem clearHold_answer (s : State) : (clearHold s).answer = s.answer := rfl
@[simp] theorem clearHold_port (s : State) : (clearHold s).port = s.port := rfl
@[simp] theorem clearHold_reqs (s : State) : (clearHold s).reqs = s.reqs := rfl
@[simp] theorem clearHold_wm (s : State) : (clearHold s).wm = s.wm := rfl
@[simp] theorem clearHold_cmd (s : State) : (clearHold s).cmd = s.cmd := rfl
@[simp] theorem clearHold_cap (s : State) : (clearHold s).cap = s.cap := rfl
@[simp] theorem clearHold_link (s : State) : (clearHold s).link = s.link := rfl
@[simp] theorem clearHold_tx (s : State) : (clearHold s).tx = s.tx := rfl
@[simp] theorem clearHold_land (s : State) : (clearHold s).land = s.land := rfl
@[simp] theorem clearHold_cred (s : State) : (clearHold s).cred = s.cred := rfl
@[simp] theorem clearHold_ev (s : State) :
    (clearHold s).ev = { s.ev with lostHold := if s.ev.run = .running then false else s.ev.lostHold } := rfl
@[simp] theorem clearHold_free (s : State) : (clearHold s).free = s.free := rfl
@[simp] theorem clearHold_pending (s : State) : (clearHold s).pending = s.pending := rfl

/-! ### `requestCtl` -/

@[simp] theorem requestCtl_resetLow (r : CtlReq) (s : State) : (requestCtl r s).resetLow = s.resetLow := rfl
@[simp] theorem requestCtl_timebase (r : CtlReq) (s : State) : (requestCtl r s).timebase = s.timebase := rfl
@[simp] theorem requestCtl_intOut (r : CtlReq) (s : State) : (requestCtl r s).intOut = s.intOut := rfl
@[simp] theorem requestCtl_laneOut (r : CtlReq) (s : State) : (requestCtl r s).laneOut = s.laneOut := rfl
@[simp] theorem requestCtl_mem (r : CtlReq) (s : State) : (requestCtl r s).mem = s.mem := rfl
@[simp] theorem requestCtl_host (r : CtlReq) (s : State) : (requestCtl r s).host = s.host := rfl
@[simp] theorem requestCtl_presented (r : CtlReq) (s : State) : (requestCtl r s).presented = s.presented := rfl
@[simp] theorem requestCtl_answer (r : CtlReq) (s : State) : (requestCtl r s).answer = s.answer := rfl
@[simp] theorem requestCtl_port (r : CtlReq) (s : State) : (requestCtl r s).port = s.port := rfl
@[simp] theorem requestCtl_reqs (r : CtlReq) (s : State) : (requestCtl r s).reqs = s.reqs := rfl
@[simp] theorem requestCtl_wm (r : CtlReq) (s : State) : (requestCtl r s).wm = s.wm := rfl
@[simp] theorem requestCtl_cmd (r : CtlReq) (s : State) : (requestCtl r s).cmd = s.cmd := rfl
@[simp] theorem requestCtl_cap (r : CtlReq) (s : State) : (requestCtl r s).cap = s.cap := rfl
@[simp] theorem requestCtl_link (r : CtlReq) (s : State) : (requestCtl r s).link = s.link := rfl
@[simp] theorem requestCtl_tx (r : CtlReq) (s : State) :
    (requestCtl r s).tx =
      { s.tx with queue := if s.link.isUp && !s.tx.queue.contains r then s.tx.queue ++ [r] else s.tx.queue } := rfl
@[simp] theorem requestCtl_land (r : CtlReq) (s : State) : (requestCtl r s).land = s.land := rfl
@[simp] theorem requestCtl_cred (r : CtlReq) (s : State) : (requestCtl r s).cred = s.cred := rfl
@[simp] theorem requestCtl_ev (r : CtlReq) (s : State) : (requestCtl r s).ev = s.ev := rfl
@[simp] theorem requestCtl_free (r : CtlReq) (s : State) : (requestCtl r s).free = s.free := rfl
@[simp] theorem requestCtl_pending (r : CtlReq) (s : State) : (requestCtl r s).pending = s.pending := rfl

/-! ### `requestCredit` -/

@[simp] theorem requestCredit_resetLow (c : Chan) (s : State) : (requestCredit c s).resetLow = s.resetLow := rfl
@[simp] theorem requestCredit_timebase (c : Chan) (s : State) : (requestCredit c s).timebase = s.timebase := rfl
@[simp] theorem requestCredit_intOut (c : Chan) (s : State) : (requestCredit c s).intOut = s.intOut := rfl
@[simp] theorem requestCredit_laneOut (c : Chan) (s : State) : (requestCredit c s).laneOut = s.laneOut := rfl
@[simp] theorem requestCredit_mem (c : Chan) (s : State) : (requestCredit c s).mem = s.mem := rfl
@[simp] theorem requestCredit_host (c : Chan) (s : State) : (requestCredit c s).host = s.host := rfl
@[simp] theorem requestCredit_presented (c : Chan) (s : State) : (requestCredit c s).presented = s.presented := rfl
@[simp] theorem requestCredit_answer (c : Chan) (s : State) : (requestCredit c s).answer = s.answer := rfl
@[simp] theorem requestCredit_port (c : Chan) (s : State) : (requestCredit c s).port = s.port := rfl
@[simp] theorem requestCredit_reqs (c : Chan) (s : State) : (requestCredit c s).reqs = s.reqs := rfl
@[simp] theorem requestCredit_wm (c : Chan) (s : State) : (requestCredit c s).wm = s.wm := rfl
@[simp] theorem requestCredit_cmd (c : Chan) (s : State) : (requestCredit c s).cmd = s.cmd := rfl
@[simp] theorem requestCredit_cap (c : Chan) (s : State) : (requestCredit c s).cap = s.cap := rfl
@[simp] theorem requestCredit_link (c : Chan) (s : State) : (requestCredit c s).link = s.link := rfl
@[simp] theorem requestCredit_tx (c : Chan) (s : State) :
    (requestCredit c s).tx =
      { s.tx with
        queue := if s.link.isUp && !s.cred.recv[c].queued && !s.tx.queue.contains (.credit c)
          then s.tx.queue ++ [.credit c] else s.tx.queue } := rfl
@[simp] theorem requestCredit_land (c : Chan) (s : State) : (requestCredit c s).land = s.land := rfl
@[simp] theorem requestCredit_cred (c : Chan) (s : State) :
    (requestCredit c s).cred =
      if s.link.isUp then s.cred.onRecv c (fun r => { r with queued := true }) else s.cred := rfl
@[simp] theorem requestCredit_ev (c : Chan) (s : State) : (requestCredit c s).ev = s.ev := rfl
@[simp] theorem requestCredit_free (c : Chan) (s : State) : (requestCredit c s).free = s.free := rfl
@[simp] theorem requestCredit_pending (c : Chan) (s : State) : (requestCredit c s).pending = s.pending := rfl

/-! ### `chargeSend` -/

@[simp] theorem chargeSend_resetLow (c : Chan) (s : State) : (chargeSend c s).resetLow = s.resetLow := rfl
@[simp] theorem chargeSend_timebase (c : Chan) (s : State) : (chargeSend c s).timebase = s.timebase := rfl
@[simp] theorem chargeSend_intOut (c : Chan) (s : State) : (chargeSend c s).intOut = s.intOut := rfl
@[simp] theorem chargeSend_laneOut (c : Chan) (s : State) : (chargeSend c s).laneOut = s.laneOut := rfl
@[simp] theorem chargeSend_mem (c : Chan) (s : State) : (chargeSend c s).mem = s.mem := rfl
@[simp] theorem chargeSend_host (c : Chan) (s : State) : (chargeSend c s).host = s.host := rfl
@[simp] theorem chargeSend_presented (c : Chan) (s : State) : (chargeSend c s).presented = s.presented := rfl
@[simp] theorem chargeSend_answer (c : Chan) (s : State) : (chargeSend c s).answer = s.answer := rfl
@[simp] theorem chargeSend_port (c : Chan) (s : State) : (chargeSend c s).port = s.port := rfl
@[simp] theorem chargeSend_reqs (c : Chan) (s : State) : (chargeSend c s).reqs = s.reqs := rfl
@[simp] theorem chargeSend_wm (c : Chan) (s : State) : (chargeSend c s).wm = s.wm := rfl
@[simp] theorem chargeSend_cmd (c : Chan) (s : State) : (chargeSend c s).cmd = s.cmd := rfl
@[simp] theorem chargeSend_cap (c : Chan) (s : State) : (chargeSend c s).cap = s.cap := rfl
@[simp] theorem chargeSend_link (c : Chan) (s : State) : (chargeSend c s).link = s.link := rfl
@[simp] theorem chargeSend_tx (c : Chan) (s : State) : (chargeSend c s).tx = s.tx := rfl
@[simp] theorem chargeSend_land (c : Chan) (s : State) : (chargeSend c s).land = s.land := rfl
@[simp] theorem chargeSend_cred (c : Chan) (s : State) :
    (chargeSend c s).cred = (match s.wm.cfg? c with
      | some cfg => (match cfg.dest? with
        | some d => s.cred.onSend d SendRecord.charge
        | none => s.cred)
      | none => s.cred) := rfl
@[simp] theorem chargeSend_ev (c : Chan) (s : State) : (chargeSend c s).ev = s.ev := rfl
@[simp] theorem chargeSend_free (c : Chan) (s : State) : (chargeSend c s).free = s.free := rfl
@[simp] theorem chargeSend_pending (c : Chan) (s : State) : (chargeSend c s).pending = s.pending := rfl

/-! ### `presentRead` -/

@[simp] theorem presentRead_resetLow (s : State) : (presentRead s).resetLow = s.resetLow := rfl
@[simp] theorem presentRead_timebase (s : State) : (presentRead s).timebase = s.timebase := rfl
@[simp] theorem presentRead_intOut (s : State) : (presentRead s).intOut = s.intOut := rfl
@[simp] theorem presentRead_laneOut (s : State) : (presentRead s).laneOut = s.laneOut := rfl
@[simp] theorem presentRead_mem (s : State) : (presentRead s).mem = s.mem := rfl
@[simp] theorem presentRead_host (s : State) : (presentRead s).host = s.host := rfl
@[simp] theorem presentRead_presented (s : State) : (presentRead s).presented = s.presented := rfl
@[simp] theorem presentRead_answer (s : State) : (presentRead s).answer = s.answer := rfl
@[simp] theorem presentRead_port (s : State) : (presentRead s).port = s.port := rfl
@[simp] theorem presentRead_reqs (s : State) :
    (presentRead s).reqs =
      { s.reqs with
        captureRead := if s.reqs.captureRead.isSome || s.port.readBusy then s.reqs.captureRead
          else s.cap.nextRead s.wm } := rfl
@[simp] theorem presentRead_wm (s : State) : (presentRead s).wm = s.wm := rfl
@[simp] theorem presentRead_cmd (s : State) : (presentRead s).cmd = s.cmd := rfl
@[simp] theorem presentRead_cap (s : State) : (presentRead s).cap = s.cap := rfl
@[simp] theorem presentRead_link (s : State) : (presentRead s).link = s.link := rfl
@[simp] theorem presentRead_tx (s : State) : (presentRead s).tx = s.tx := rfl
@[simp] theorem presentRead_land (s : State) : (presentRead s).land = s.land := rfl
@[simp] theorem presentRead_cred (s : State) : (presentRead s).cred = s.cred := rfl
@[simp] theorem presentRead_ev (s : State) : (presentRead s).ev = s.ev := rfl
@[simp] theorem presentRead_free (s : State) : (presentRead s).free = s.free := rfl
@[simp] theorem presentRead_pending (s : State) : (presentRead s).pending = s.pending := rfl

/-! ### `removeJob` -/

@[simp] theorem removeJob_resetLow (b : Buf) (s : State) : (removeJob b s).resetLow = s.resetLow := rfl
@[simp] theorem removeJob_timebase (b : Buf) (s : State) : (removeJob b s).timebase = s.timebase := rfl
@[simp] theorem removeJob_intOut (b : Buf) (s : State) : (removeJob b s).intOut = s.intOut := rfl
@[simp] theorem removeJob_laneOut (b : Buf) (s : State) : (removeJob b s).laneOut = s.laneOut := rfl
@[simp] theorem removeJob_mem (b : Buf) (s : State) : (removeJob b s).mem = s.mem := rfl
@[simp] theorem removeJob_host (b : Buf) (s : State) : (removeJob b s).host = s.host := rfl
@[simp] theorem removeJob_presented (b : Buf) (s : State) : (removeJob b s).presented = s.presented := rfl
@[simp] theorem removeJob_answer (b : Buf) (s : State) : (removeJob b s).answer = s.answer := rfl
@[simp] theorem removeJob_port (b : Buf) (s : State) : (removeJob b s).port = s.port := rfl
@[simp] theorem removeJob_reqs (b : Buf) (s : State) :
    (removeJob b s).reqs =
      { s.reqs with captureRead := if s.reqs.readsInto b then none else s.reqs.captureRead } := rfl
@[simp] theorem removeJob_wm (b : Buf) (s : State) : (removeJob b s).wm = s.wm := rfl
@[simp] theorem removeJob_cmd (b : Buf) (s : State) : (removeJob b s).cmd = s.cmd := rfl
@[simp] theorem removeJob_cap (b : Buf) (s : State) :
    (removeJob b s).cap = { s.cap with jobs := s.cap.jobs.filter (fun j => decide (j.buf ≠ b)) } := rfl
@[simp] theorem removeJob_link (b : Buf) (s : State) : (removeJob b s).link = s.link := rfl
@[simp] theorem removeJob_tx (b : Buf) (s : State) : (removeJob b s).tx = s.tx := rfl
@[simp] theorem removeJob_land (b : Buf) (s : State) : (removeJob b s).land = s.land := rfl
@[simp] theorem removeJob_cred (b : Buf) (s : State) : (removeJob b s).cred = s.cred := rfl
@[simp] theorem removeJob_ev (b : Buf) (s : State) : (removeJob b s).ev = s.ev := rfl
@[simp] theorem removeJob_free (b : Buf) (s : State) : (removeJob b s).free = s.free := rfl
@[simp] theorem removeJob_pending (b : Buf) (s : State) : (removeJob b s).pending = s.pending := rfl

/-! ### `enterCompleting` -/

@[simp] theorem enterCompleting_resetLow (c : Chan) (i : Nat) (st : Status) (sent : Option SentInfo) (s : State) :
    (enterCompleting c i st sent s).resetLow = s.resetLow := rfl
@[simp] theorem enterCompleting_timebase (c : Chan) (i : Nat) (st : Status) (sent : Option SentInfo) (s : State) :
    (enterCompleting c i st sent s).timebase = s.timebase := rfl
@[simp] theorem enterCompleting_intOut (c : Chan) (i : Nat) (st : Status) (sent : Option SentInfo) (s : State) :
    (enterCompleting c i st sent s).intOut = s.intOut := rfl
@[simp] theorem enterCompleting_laneOut (c : Chan) (i : Nat) (st : Status) (sent : Option SentInfo) (s : State) :
    (enterCompleting c i st sent s).laneOut = s.laneOut := rfl
@[simp] theorem enterCompleting_mem (c : Chan) (i : Nat) (st : Status) (sent : Option SentInfo) (s : State) :
    (enterCompleting c i st sent s).mem = s.mem := rfl
@[simp] theorem enterCompleting_host (c : Chan) (i : Nat) (st : Status) (sent : Option SentInfo) (s : State) :
    (enterCompleting c i st sent s).host = s.host := rfl
@[simp] theorem enterCompleting_presented (c : Chan) (i : Nat) (st : Status) (sent : Option SentInfo) (s : State) :
    (enterCompleting c i st sent s).presented = s.presented := rfl
@[simp] theorem enterCompleting_answer (c : Chan) (i : Nat) (st : Status) (sent : Option SentInfo) (s : State) :
    (enterCompleting c i st sent s).answer = s.answer := rfl
@[simp] theorem enterCompleting_port (c : Chan) (i : Nat) (st : Status) (sent : Option SentInfo) (s : State) :
    (enterCompleting c i st sent s).port = s.port := rfl
@[simp] theorem enterCompleting_reqs (c : Chan) (i : Nat) (st : Status) (sent : Option SentInfo) (s : State) :
    (enterCompleting c i st sent s).reqs = s.reqs := rfl
@[simp] theorem enterCompleting_wm (c : Chan) (i : Nat) (st : Status) (sent : Option SentInfo) (s : State) :
    (enterCompleting c i st sent s).wm = s.wm := rfl
@[simp] theorem enterCompleting_cmd (c : Chan) (i : Nat) (st : Status) (sent : Option SentInfo) (s : State) :
    (enterCompleting c i st sent s).cmd = s.cmd := rfl
@[simp] theorem enterCompleting_cap (c : Chan) (i : Nat) (st : Status) (sent : Option SentInfo) (s : State) :
    (enterCompleting c i st sent s).cap = { s.cap.onSlot c i (OutSlot.complete st s.timebase sent) with
      wbQueue := (s.cap.onSlot c i (OutSlot.complete st s.timebase sent)).wbQueue ++ [(c, i)] } := rfl
@[simp] theorem enterCompleting_link (c : Chan) (i : Nat) (st : Status) (sent : Option SentInfo) (s : State) :
    (enterCompleting c i st sent s).link = s.link := rfl
@[simp] theorem enterCompleting_tx (c : Chan) (i : Nat) (st : Status) (sent : Option SentInfo) (s : State) :
    (enterCompleting c i st sent s).tx = s.tx := rfl
@[simp] theorem enterCompleting_land (c : Chan) (i : Nat) (st : Status) (sent : Option SentInfo) (s : State) :
    (enterCompleting c i st sent s).land = s.land := rfl
@[simp] theorem enterCompleting_cred (c : Chan) (i : Nat) (st : Status) (sent : Option SentInfo) (s : State) :
    (enterCompleting c i st sent s).cred = s.cred := rfl
@[simp] theorem enterCompleting_ev (c : Chan) (i : Nat) (st : Status) (sent : Option SentInfo) (s : State) :
    (enterCompleting c i st sent s).ev = s.ev := rfl
@[simp] theorem enterCompleting_free (c : Chan) (i : Nat) (st : Status) (sent : Option SentInfo) (s : State) :
    (enterCompleting c i st sent s).free = s.free := rfl
@[simp] theorem enterCompleting_pending (c : Chan) (i : Nat) (st : Status) (sent : Option SentInfo) (s : State) :
    (enterCompleting c i st sent s).pending = s.pending := rfl

/-! ### `passTransmit` -/

@[simp] theorem passTransmit_resetLow (c : Chan) (s : State) : (passTransmit c s).resetLow = s.resetLow := rfl
@[simp] theorem passTransmit_timebase (c : Chan) (s : State) : (passTransmit c s).timebase = s.timebase := rfl
@[simp] theorem passTransmit_intOut (c : Chan) (s : State) : (passTransmit c s).intOut = s.intOut := rfl
@[simp] theorem passTransmit_laneOut (c : Chan) (s : State) : (passTransmit c s).laneOut = s.laneOut := rfl
@[simp] theorem passTransmit_mem (c : Chan) (s : State) : (passTransmit c s).mem = s.mem := rfl
@[simp] theorem passTransmit_host (c : Chan) (s : State) : (passTransmit c s).host = s.host := rfl
@[simp] theorem passTransmit_presented (c : Chan) (s : State) : (passTransmit c s).presented = s.presented := rfl
@[simp] theorem passTransmit_answer (c : Chan) (s : State) : (passTransmit c s).answer = s.answer := rfl
@[simp] theorem passTransmit_port (c : Chan) (s : State) : (passTransmit c s).port = s.port := rfl
@[simp] theorem passTransmit_reqs (c : Chan) (s : State) : (passTransmit c s).reqs = s.reqs := rfl
@[simp] theorem passTransmit_wm (c : Chan) (s : State) : (passTransmit c s).wm = s.wm := rfl
@[simp] theorem passTransmit_cmd (c : Chan) (s : State) : (passTransmit c s).cmd = s.cmd := rfl
@[simp] theorem passTransmit_cap (c : Chan) (s : State) :
    (passTransmit c s).cap = s.cap.onRing c OutRing.passTransmit := rfl
@[simp] theorem passTransmit_link (c : Chan) (s : State) : (passTransmit c s).link = s.link := rfl
@[simp] theorem passTransmit_tx (c : Chan) (s : State) : (passTransmit c s).tx = s.tx := rfl
@[simp] theorem passTransmit_land (c : Chan) (s : State) : (passTransmit c s).land = s.land := rfl
@[simp] theorem passTransmit_cred (c : Chan) (s : State) : (passTransmit c s).cred = s.cred := rfl
@[simp] theorem passTransmit_ev (c : Chan) (s : State) : (passTransmit c s).ev = s.ev := rfl
@[simp] theorem passTransmit_free (c : Chan) (s : State) : (passTransmit c s).free = s.free := rfl
@[simp] theorem passTransmit_pending (c : Chan) (s : State) : (passTransmit c s).pending = s.pending := rfl

/-! ### `recordCommit` -/

@[simp] theorem recordCommit_resetLow (c : Chan) (i len : Nat) (notify : Bool) (s : State) :
    (recordCommit c i len notify s).resetLow = s.resetLow := rfl
@[simp] theorem recordCommit_timebase (c : Chan) (i len : Nat) (notify : Bool) (s : State) :
    (recordCommit c i len notify s).timebase = s.timebase := rfl
@[simp] theorem recordCommit_intOut (c : Chan) (i len : Nat) (notify : Bool) (s : State) :
    (recordCommit c i len notify s).intOut = s.intOut := rfl
@[simp] theorem recordCommit_laneOut (c : Chan) (i len : Nat) (notify : Bool) (s : State) :
    (recordCommit c i len notify s).laneOut = s.laneOut := rfl
@[simp] theorem recordCommit_mem (c : Chan) (i len : Nat) (notify : Bool) (s : State) :
    (recordCommit c i len notify s).mem = s.mem := rfl
@[simp] theorem recordCommit_host (c : Chan) (i len : Nat) (notify : Bool) (s : State) :
    (recordCommit c i len notify s).host = s.host := rfl
@[simp] theorem recordCommit_presented (c : Chan) (i len : Nat) (notify : Bool) (s : State) :
    (recordCommit c i len notify s).presented = s.presented := rfl
@[simp] theorem recordCommit_answer (c : Chan) (i len : Nat) (notify : Bool) (s : State) :
    (recordCommit c i len notify s).answer = s.answer := rfl
@[simp] theorem recordCommit_port (c : Chan) (i len : Nat) (notify : Bool) (s : State) :
    (recordCommit c i len notify s).port = s.port := rfl
@[simp] theorem recordCommit_reqs (c : Chan) (i len : Nat) (notify : Bool) (s : State) :
    (recordCommit c i len notify s).reqs = s.reqs := rfl
@[simp] theorem recordCommit_wm (c : Chan) (i len : Nat) (notify : Bool) (s : State) :
    (recordCommit c i len notify s).wm = s.wm := rfl
@[simp] theorem recordCommit_cmd (c : Chan) (i len : Nat) (notify : Bool) (s : State) :
    (recordCommit c i len notify s).cmd = s.cmd := rfl
@[simp] theorem recordCommit_cap (c : Chan) (i len : Nat) (notify : Bool) (s : State) :
    (recordCommit c i len notify s).cap =
      s.cap.onSlot c i (fun x => { x with length := len, notify := notify }) := rfl
@[simp] theorem recordCommit_link (c : Chan) (i len : Nat) (notify : Bool) (s : State) :
    (recordCommit c i len notify s).link = s.link := rfl
@[simp] theorem recordCommit_tx (c : Chan) (i len : Nat) (notify : Bool) (s : State) :
    (recordCommit c i len notify s).tx = s.tx := rfl
@[simp] theorem recordCommit_land (c : Chan) (i len : Nat) (notify : Bool) (s : State) :
    (recordCommit c i len notify s).land = s.land := rfl
@[simp] theorem recordCommit_cred (c : Chan) (i len : Nat) (notify : Bool) (s : State) :
    (recordCommit c i len notify s).cred = s.cred := rfl
@[simp] theorem recordCommit_ev (c : Chan) (i len : Nat) (notify : Bool) (s : State) :
    (recordCommit c i len notify s).ev = s.ev := rfl
@[simp] theorem recordCommit_free (c : Chan) (i len : Nat) (notify : Bool) (s : State) :
    (recordCommit c i len notify s).free = s.free := rfl
@[simp] theorem recordCommit_pending (c : Chan) (i len : Nat) (notify : Bool) (s : State) :
    (recordCommit c i len notify s).pending = s.pending := rfl

/-! ### `captureWord` -/

@[simp] theorem captureWord_resetLow (c : Chan) (i off : Nat) (be : BitVec 4) (d : Word) (s : State) :
    (captureWord c i off be d s).resetLow = s.resetLow := rfl
@[simp] theorem captureWord_timebase (c : Chan) (i off : Nat) (be : BitVec 4) (d : Word) (s : State) :
    (captureWord c i off be d s).timebase = s.timebase := rfl
@[simp] theorem captureWord_intOut (c : Chan) (i off : Nat) (be : BitVec 4) (d : Word) (s : State) :
    (captureWord c i off be d s).intOut = s.intOut := rfl
@[simp] theorem captureWord_laneOut (c : Chan) (i off : Nat) (be : BitVec 4) (d : Word) (s : State) :
    (captureWord c i off be d s).laneOut = s.laneOut := rfl
@[simp] theorem captureWord_mem (c : Chan) (i off : Nat) (be : BitVec 4) (d : Word) (s : State) :
    (captureWord c i off be d s).mem = s.mem := rfl
@[simp] theorem captureWord_host (c : Chan) (i off : Nat) (be : BitVec 4) (d : Word) (s : State) :
    (captureWord c i off be d s).host = s.host := rfl
@[simp] theorem captureWord_presented (c : Chan) (i off : Nat) (be : BitVec 4) (d : Word) (s : State) :
    (captureWord c i off be d s).presented = s.presented := rfl
@[simp] theorem captureWord_answer (c : Chan) (i off : Nat) (be : BitVec 4) (d : Word) (s : State) :
    (captureWord c i off be d s).answer = s.answer := rfl
@[simp] theorem captureWord_port (c : Chan) (i off : Nat) (be : BitVec 4) (d : Word) (s : State) :
    (captureWord c i off be d s).port = s.port := rfl
@[simp] theorem captureWord_reqs (c : Chan) (i off : Nat) (be : BitVec 4) (d : Word) (s : State) :
    (captureWord c i off be d s).reqs = s.reqs := rfl
@[simp] theorem captureWord_wm (c : Chan) (i off : Nat) (be : BitVec 4) (d : Word) (s : State) :
    (captureWord c i off be d s).wm = s.wm := rfl
@[simp] theorem captureWord_cmd (c : Chan) (i off : Nat) (be : BitVec 4) (d : Word) (s : State) :
    (captureWord c i off be d s).cmd = s.cmd := rfl
@[simp] theorem captureWord_cap (c : Chan) (i off : Nat) (be : BitVec 4) (d : Word) (s : State) :
    (captureWord c i off be d s).cap = if s.wm.isActive c then s.cap.captureWord c i off be d else s.cap := rfl
@[simp] theorem captureWord_link (c : Chan) (i off : Nat) (be : BitVec 4) (d : Word) (s : State) :
    (captureWord c i off be d s).link = s.link := rfl
@[simp] theorem captureWord_tx (c : Chan) (i off : Nat) (be : BitVec 4) (d : Word) (s : State) :
    (captureWord c i off be d s).tx = s.tx := rfl
@[simp] theorem captureWord_land (c : Chan) (i off : Nat) (be : BitVec 4) (d : Word) (s : State) :
    (captureWord c i off be d s).land = s.land := rfl
@[simp] theorem captureWord_cred (c : Chan) (i off : Nat) (be : BitVec 4) (d : Word) (s : State) :
    (captureWord c i off be d s).cred = s.cred := rfl
@[simp] theorem captureWord_ev (c : Chan) (i off : Nat) (be : BitVec 4) (d : Word) (s : State) :
    (captureWord c i off be d s).ev = s.ev := rfl
@[simp] theorem captureWord_free (c : Chan) (i off : Nat) (be : BitVec 4) (d : Word) (s : State) :
    (captureWord c i off be d s).free = s.free := rfl
@[simp] theorem captureWord_pending (c : Chan) (i off : Nat) (be : BitVec 4) (d : Word) (s : State) :
    (captureWord c i off be d s).pending = s.pending := rfl

/-! ### `storeBurst` -/

@[simp] theorem storeBurst_resetLow (j : ReadJob) (r : DevReq) (s : State) :
    (storeBurst j r s).resetLow = s.resetLow := rfl
@[simp] theorem storeBurst_timebase (j : ReadJob) (r : DevReq) (s : State) :
    (storeBurst j r s).timebase = s.timebase := rfl
@[simp] theorem storeBurst_intOut (j : ReadJob) (r : DevReq) (s : State) : (storeBurst j r s).intOut = s.intOut := rfl
@[simp] theorem storeBurst_laneOut (j : ReadJob) (r : DevReq) (s : State) :
    (storeBurst j r s).laneOut = s.laneOut := rfl
@[simp] theorem storeBurst_mem (j : ReadJob) (r : DevReq) (s : State) : (storeBurst j r s).mem = s.mem := rfl
@[simp] theorem storeBurst_host (j : ReadJob) (r : DevReq) (s : State) : (storeBurst j r s).host = s.host := rfl
@[simp] theorem storeBurst_presented (j : ReadJob) (r : DevReq) (s : State) :
    (storeBurst j r s).presented = s.presented := rfl
@[simp] theorem storeBurst_answer (j : ReadJob) (r : DevReq) (s : State) : (storeBurst j r s).answer = s.answer := rfl
@[simp] theorem storeBurst_port (j : ReadJob) (r : DevReq) (s : State) : (storeBurst j r s).port = s.port := rfl
@[simp] theorem storeBurst_reqs (j : ReadJob) (r : DevReq) (s : State) : (storeBurst j r s).reqs = s.reqs := rfl
@[simp] theorem storeBurst_wm (j : ReadJob) (r : DevReq) (s : State) : (storeBurst j r s).wm = s.wm := rfl
@[simp] theorem storeBurst_cmd (j : ReadJob) (r : DevReq) (s : State) : (storeBurst j r s).cmd = s.cmd := rfl
@[simp] theorem storeBurst_link (j : ReadJob) (r : DevReq) (s : State) : (storeBurst j r s).link = s.link := rfl
@[simp] theorem storeBurst_tx (j : ReadJob) (r : DevReq) (s : State) : (storeBurst j r s).tx = s.tx := rfl
@[simp] theorem storeBurst_land (j : ReadJob) (r : DevReq) (s : State) : (storeBurst j r s).land = s.land := rfl
@[simp] theorem storeBurst_cred (j : ReadJob) (r : DevReq) (s : State) : (storeBurst j r s).cred = s.cred := rfl
@[simp] theorem storeBurst_ev (j : ReadJob) (r : DevReq) (s : State) : (storeBurst j r s).ev = s.ev := rfl
@[simp] theorem storeBurst_free (j : ReadJob) (r : DevReq) (s : State) : (storeBurst j r s).free = s.free := rfl
@[simp] theorem storeBurst_pending (j : ReadJob) (r : DevReq) (s : State) :
    (storeBurst j r s).pending = s.pending := rfl

/-! ### `setChan` -/

@[simp] theorem setChan_resetLow (c : Chan) (st : ChanState) (s : State) :
    (setChan c st s).resetLow = s.resetLow := rfl
@[simp] theorem setChan_timebase (c : Chan) (st : ChanState) (s : State) :
    (setChan c st s).timebase = s.timebase := rfl
@[simp] theorem setChan_intOut (c : Chan) (st : ChanState) (s : State) : (setChan c st s).intOut = s.intOut := rfl
@[simp] theorem setChan_laneOut (c : Chan) (st : ChanState) (s : State) : (setChan c st s).laneOut = s.laneOut := rfl
@[simp] theorem setChan_mem (c : Chan) (st : ChanState) (s : State) : (setChan c st s).mem = s.mem := rfl
@[simp] theorem setChan_host (c : Chan) (st : ChanState) (s : State) : (setChan c st s).host = s.host := rfl
@[simp] theorem setChan_presented (c : Chan) (st : ChanState) (s : State) :
    (setChan c st s).presented = s.presented := rfl
@[simp] theorem setChan_answer (c : Chan) (st : ChanState) (s : State) : (setChan c st s).answer = s.answer := rfl
@[simp] theorem setChan_port (c : Chan) (st : ChanState) (s : State) : (setChan c st s).port = s.port := rfl
@[simp] theorem setChan_reqs (c : Chan) (st : ChanState) (s : State) : (setChan c st s).reqs = s.reqs := rfl
@[simp] theorem setChan_wm (c : Chan) (st : ChanState) (s : State) :
    (setChan c st s).wm = { s.wm with chans := s.wm.chans.set c { s.wm.chans[c] with state := st } } := rfl
@[simp] theorem setChan_cmd (c : Chan) (st : ChanState) (s : State) : (setChan c st s).cmd = s.cmd := rfl
@[simp] theorem setChan_cap (c : Chan) (st : ChanState) (s : State) : (setChan c st s).cap = s.cap := rfl
@[simp] theorem setChan_link (c : Chan) (st : ChanState) (s : State) : (setChan c st s).link = s.link := rfl
@[simp] theorem setChan_tx (c : Chan) (st : ChanState) (s : State) : (setChan c st s).tx = s.tx := rfl
@[simp] theorem setChan_land (c : Chan) (st : ChanState) (s : State) : (setChan c st s).land = s.land := rfl
@[simp] theorem setChan_cred (c : Chan) (st : ChanState) (s : State) : (setChan c st s).cred = s.cred := rfl
@[simp] theorem setChan_ev (c : Chan) (st : ChanState) (s : State) : (setChan c st s).ev = s.ev := rfl
@[simp] theorem setChan_free (c : Chan) (st : ChanState) (s : State) : (setChan c st s).free = s.free := rfl
@[simp] theorem setChan_pending (c : Chan) (st : ChanState) (s : State) : (setChan c st s).pending = s.pending := rfl

/-! ### `callStatus` -/

@[simp] theorem callStatus_resetLow (s : State) : (callStatus s).resetLow = s.resetLow := rfl
@[simp] theorem callStatus_timebase (s : State) : (callStatus s).timebase = s.timebase := rfl
@[simp] theorem callStatus_intOut (s : State) : (callStatus s).intOut = s.intOut := rfl
@[simp] theorem callStatus_laneOut (s : State) : (callStatus s).laneOut = s.laneOut := rfl
@[simp] theorem callStatus_mem (s : State) : (callStatus s).mem = s.mem := rfl
@[simp] theorem callStatus_host (s : State) : (callStatus s).host = s.host := rfl
@[simp] theorem callStatus_presented (s : State) : (callStatus s).presented = s.presented := rfl
@[simp] theorem callStatus_answer (s : State) : (callStatus s).answer = s.answer := rfl
@[simp] theorem callStatus_port (s : State) : (callStatus s).port = s.port := rfl
@[simp] theorem callStatus_reqs (s : State) :
    (callStatus s).reqs =
      { s.reqs with linkStatus := if s.port.statusBusy then s.reqs.linkStatus else some (statusReq s) } := rfl
@[simp] theorem callStatus_wm (s : State) : (callStatus s).wm = s.wm := rfl
@[simp] theorem callStatus_cmd (s : State) : (callStatus s).cmd = s.cmd := rfl
@[simp] theorem callStatus_cap (s : State) : (callStatus s).cap = s.cap := rfl
@[simp] theorem callStatus_link (s : State) :
    (callStatus s).link = { s.link with statusAgain := s.link.statusAgain || s.port.statusBusy } := rfl
@[simp] theorem callStatus_tx (s : State) : (callStatus s).tx = s.tx := rfl
@[simp] theorem callStatus_land (s : State) : (callStatus s).land = s.land := rfl
@[simp] theorem callStatus_cred (s : State) : (callStatus s).cred = s.cred := rfl
@[simp] theorem callStatus_ev (s : State) : (callStatus s).ev = s.ev := rfl
@[simp] theorem callStatus_free (s : State) : (callStatus s).free = s.free := rfl
@[simp] theorem callStatus_pending (s : State) : (callStatus s).pending = s.pending := rfl

/-! ### `setRx` -/

@[simp] theorem setRx_resetLow (rx : LaneRx) (s : State) : (setRx rx s).resetLow = s.resetLow := rfl
@[simp] theorem setRx_timebase (rx : LaneRx) (s : State) : (setRx rx s).timebase = s.timebase := rfl
@[simp] theorem setRx_intOut (rx : LaneRx) (s : State) : (setRx rx s).intOut = s.intOut := rfl
@[simp] theorem setRx_laneOut (rx : LaneRx) (s : State) : (setRx rx s).laneOut = s.laneOut := rfl
@[simp] theorem setRx_mem (rx : LaneRx) (s : State) : (setRx rx s).mem = s.mem := rfl
@[simp] theorem setRx_host (rx : LaneRx) (s : State) : (setRx rx s).host = s.host := rfl
@[simp] theorem setRx_presented (rx : LaneRx) (s : State) : (setRx rx s).presented = s.presented := rfl
@[simp] theorem setRx_answer (rx : LaneRx) (s : State) : (setRx rx s).answer = s.answer := rfl
@[simp] theorem setRx_port (rx : LaneRx) (s : State) : (setRx rx s).port = s.port := rfl
@[simp] theorem setRx_reqs (rx : LaneRx) (s : State) : (setRx rx s).reqs = s.reqs := rfl
@[simp] theorem setRx_wm (rx : LaneRx) (s : State) : (setRx rx s).wm = s.wm := rfl
@[simp] theorem setRx_cmd (rx : LaneRx) (s : State) : (setRx rx s).cmd = s.cmd := rfl
@[simp] theorem setRx_cap (rx : LaneRx) (s : State) : (setRx rx s).cap = s.cap := rfl
@[simp] theorem setRx_link (rx : LaneRx) (s : State) : (setRx rx s).link = { s.link with rx := rx } := rfl
@[simp] theorem setRx_tx (rx : LaneRx) (s : State) : (setRx rx s).tx = s.tx := rfl
@[simp] theorem setRx_land (rx : LaneRx) (s : State) : (setRx rx s).land = s.land := rfl
@[simp] theorem setRx_cred (rx : LaneRx) (s : State) : (setRx rx s).cred = s.cred := rfl
@[simp] theorem setRx_ev (rx : LaneRx) (s : State) : (setRx rx s).ev = s.ev := rfl
@[simp] theorem setRx_free (rx : LaneRx) (s : State) : (setRx rx s).free = s.free := rfl
@[simp] theorem setRx_pending (rx : LaneRx) (s : State) : (setRx rx s).pending = s.pending := rfl

/-! ### `requestRefetch` -/

@[simp] theorem requestRefetch_resetLow (x : ReplayEntry) (s : State) :
    (requestRefetch x s).resetLow = s.resetLow := rfl
@[simp] theorem requestRefetch_timebase (x : ReplayEntry) (s : State) :
    (requestRefetch x s).timebase = s.timebase := rfl
@[simp] theorem requestRefetch_intOut (x : ReplayEntry) (s : State) : (requestRefetch x s).intOut = s.intOut := rfl
@[simp] theorem requestRefetch_laneOut (x : ReplayEntry) (s : State) : (requestRefetch x s).laneOut = s.laneOut := rfl
@[simp] theorem requestRefetch_mem (x : ReplayEntry) (s : State) : (requestRefetch x s).mem = s.mem := rfl
@[simp] theorem requestRefetch_host (x : ReplayEntry) (s : State) : (requestRefetch x s).host = s.host := rfl
@[simp] theorem requestRefetch_presented (x : ReplayEntry) (s : State) :
    (requestRefetch x s).presented = s.presented := rfl
@[simp] theorem requestRefetch_answer (x : ReplayEntry) (s : State) : (requestRefetch x s).answer = s.answer := rfl
@[simp] theorem requestRefetch_port (x : ReplayEntry) (s : State) : (requestRefetch x s).port = s.port := rfl
@[simp] theorem requestRefetch_reqs (x : ReplayEntry) (s : State) : (requestRefetch x s).reqs = s.reqs := rfl
@[simp] theorem requestRefetch_wm (x : ReplayEntry) (s : State) : (requestRefetch x s).wm = s.wm := rfl
@[simp] theorem requestRefetch_cmd (x : ReplayEntry) (s : State) : (requestRefetch x s).cmd = s.cmd := rfl
@[simp] theorem requestRefetch_cap (x : ReplayEntry) (s : State) :
    (requestRefetch x s).cap = { s.cap with refetch := some ⟨x.chan, x.slot, x.length, none⟩ } := rfl
@[simp] theorem requestRefetch_link (x : ReplayEntry) (s : State) : (requestRefetch x s).link = s.link := rfl
@[simp] theorem requestRefetch_tx (x : ReplayEntry) (s : State) :
    (requestRefetch x s).tx = { s.tx with refetch := some x.seq } := rfl
@[simp] theorem requestRefetch_land (x : ReplayEntry) (s : State) : (requestRefetch x s).land = s.land := rfl
@[simp] theorem requestRefetch_cred (x : ReplayEntry) (s : State) : (requestRefetch x s).cred = s.cred := rfl
@[simp] theorem requestRefetch_ev (x : ReplayEntry) (s : State) : (requestRefetch x s).ev = s.ev := rfl
@[simp] theorem requestRefetch_free (x : ReplayEntry) (s : State) : (requestRefetch x s).free = s.free := rfl
@[simp] theorem requestRefetch_pending (x : ReplayEntry) (s : State) : (requestRefetch x s).pending = s.pending := rfl

/-! ### `haltPass` -/

@[simp] theorem haltPass_resetLow (s : State) : (haltPass s).resetLow = s.resetLow := rfl
@[simp] theorem haltPass_timebase (s : State) : (haltPass s).timebase = s.timebase := rfl
@[simp] theorem haltPass_intOut (s : State) : (haltPass s).intOut = s.intOut := rfl
@[simp] theorem haltPass_laneOut (s : State) : (haltPass s).laneOut = s.laneOut := rfl
@[simp] theorem haltPass_mem (s : State) : (haltPass s).mem = s.mem := rfl
@[simp] theorem haltPass_host (s : State) : (haltPass s).host = s.host := rfl
@[simp] theorem haltPass_presented (s : State) : (haltPass s).presented = s.presented := rfl
@[simp] theorem haltPass_answer (s : State) : (haltPass s).answer = s.answer := rfl
@[simp] theorem haltPass_port (s : State) : (haltPass s).port = s.port := rfl
@[simp] theorem haltPass_reqs (s : State) : (haltPass s).reqs = s.reqs := rfl
@[simp] theorem haltPass_wm (s : State) : (haltPass s).wm = s.wm := rfl
@[simp] theorem haltPass_cmd (s : State) : (haltPass s).cmd = s.cmd := rfl
@[simp] theorem haltPass_cap (s : State) : (haltPass s).cap = s.cap := rfl
@[simp] theorem haltPass_link (s : State) : (haltPass s).link = s.link := rfl
@[simp] theorem haltPass_tx (s : State) :
    (haltPass s).tx =
      { s.tx with pass := s.tx.pass.map (fun p => { p with halted := true }), ackTimer := none } := rfl
@[simp] theorem haltPass_land (s : State) : (haltPass s).land = s.land := rfl
@[simp] theorem haltPass_cred (s : State) : (haltPass s).cred = s.cred := rfl
@[simp] theorem haltPass_ev (s : State) : (haltPass s).ev = s.ev := rfl
@[simp] theorem haltPass_free (s : State) : (haltPass s).free = s.free := rfl
@[simp] theorem haltPass_pending (s : State) : (haltPass s).pending = s.pending := rfl

/-! ### `transmit` -/

@[simp] theorem transmit_resetLow (f : Frame) (b : Option Buf) (s : State) :
    (transmit f b s).resetLow = s.resetLow := rfl
@[simp] theorem transmit_timebase (f : Frame) (b : Option Buf) (s : State) :
    (transmit f b s).timebase = s.timebase := rfl
@[simp] theorem transmit_intOut (f : Frame) (b : Option Buf) (s : State) : (transmit f b s).intOut = s.intOut := rfl
@[simp] theorem transmit_laneOut (f : Frame) (b : Option Buf) (s : State) :
    (transmit f b s).laneOut = laneStream s.link { s.tx with sending := some ⟨f.words, b⟩ } := rfl
@[simp] theorem transmit_mem (f : Frame) (b : Option Buf) (s : State) : (transmit f b s).mem = s.mem := rfl
@[simp] theorem transmit_host (f : Frame) (b : Option Buf) (s : State) : (transmit f b s).host = s.host := rfl
@[simp] theorem transmit_presented (f : Frame) (b : Option Buf) (s : State) :
    (transmit f b s).presented = s.presented := rfl
@[simp] theorem transmit_answer (f : Frame) (b : Option Buf) (s : State) : (transmit f b s).answer = s.answer := rfl
@[simp] theorem transmit_port (f : Frame) (b : Option Buf) (s : State) : (transmit f b s).port = s.port := rfl
@[simp] theorem transmit_reqs (f : Frame) (b : Option Buf) (s : State) : (transmit f b s).reqs = s.reqs := rfl
@[simp] theorem transmit_wm (f : Frame) (b : Option Buf) (s : State) : (transmit f b s).wm = s.wm := rfl
@[simp] theorem transmit_cmd (f : Frame) (b : Option Buf) (s : State) : (transmit f b s).cmd = s.cmd := rfl
@[simp] theorem transmit_cap (f : Frame) (b : Option Buf) (s : State) : (transmit f b s).cap = s.cap := rfl
@[simp] theorem transmit_link (f : Frame) (b : Option Buf) (s : State) : (transmit f b s).link = s.link := rfl
@[simp] theorem transmit_tx (f : Frame) (b : Option Buf) (s : State) :
    (transmit f b s).tx = { s.tx with sending := some ⟨f.words, b⟩ } := rfl
@[simp] theorem transmit_land (f : Frame) (b : Option Buf) (s : State) : (transmit f b s).land = s.land := rfl
@[simp] theorem transmit_cred (f : Frame) (b : Option Buf) (s : State) : (transmit f b s).cred = s.cred := rfl
@[simp] theorem transmit_ev (f : Frame) (b : Option Buf) (s : State) : (transmit f b s).ev = s.ev := rfl
@[simp] theorem transmit_free (f : Frame) (b : Option Buf) (s : State) : (transmit f b s).free = s.free := rfl
@[simp] theorem transmit_pending (f : Frame) (b : Option Buf) (s : State) :
    (transmit f b s).pending = s.pending := rfl

/-! ### `popCtl` -/

@[simp] theorem popCtl_resetLow (s : State) : (popCtl s).resetLow = s.resetLow := rfl
@[simp] theorem popCtl_timebase (s : State) : (popCtl s).timebase = s.timebase := rfl
@[simp] theorem popCtl_intOut (s : State) : (popCtl s).intOut = s.intOut := rfl
@[simp] theorem popCtl_laneOut (s : State) : (popCtl s).laneOut = s.laneOut := rfl
@[simp] theorem popCtl_mem (s : State) : (popCtl s).mem = s.mem := rfl
@[simp] theorem popCtl_host (s : State) : (popCtl s).host = s.host := rfl
@[simp] theorem popCtl_presented (s : State) : (popCtl s).presented = s.presented := rfl
@[simp] theorem popCtl_answer (s : State) : (popCtl s).answer = s.answer := rfl
@[simp] theorem popCtl_port (s : State) : (popCtl s).port = s.port := rfl
@[simp] theorem popCtl_reqs (s : State) : (popCtl s).reqs = s.reqs := rfl
@[simp] theorem popCtl_wm (s : State) : (popCtl s).wm = s.wm := rfl
@[simp] theorem popCtl_cmd (s : State) : (popCtl s).cmd = s.cmd := rfl
@[simp] theorem popCtl_cap (s : State) : (popCtl s).cap = s.cap := rfl
@[simp] theorem popCtl_link (s : State) : (popCtl s).link = s.link := rfl
@[simp] theorem popCtl_tx (s : State) : (popCtl s).tx = { s.tx with queue := s.tx.queue.tail } := rfl
@[simp] theorem popCtl_land (s : State) : (popCtl s).land = s.land := rfl
@[simp] theorem popCtl_cred (s : State) : (popCtl s).cred = s.cred := rfl
@[simp] theorem popCtl_ev (s : State) : (popCtl s).ev = s.ev := rfl
@[simp] theorem popCtl_free (s : State) : (popCtl s).free = s.free := rfl
@[simp] theorem popCtl_pending (s : State) : (popCtl s).pending = s.pending := rfl

/-! ### `resetBatch` -/

@[simp] theorem resetBatch_resetLow (s : State) : (resetBatch s).resetLow = s.resetLow := rfl
@[simp] theorem resetBatch_timebase (s : State) : (resetBatch s).timebase = s.timebase := rfl
@[simp] theorem resetBatch_intOut (s : State) : (resetBatch s).intOut = s.intOut := rfl
@[simp] theorem resetBatch_laneOut (s : State) : (resetBatch s).laneOut = s.laneOut := rfl
@[simp] theorem resetBatch_mem (s : State) : (resetBatch s).mem = s.mem := rfl
@[simp] theorem resetBatch_host (s : State) : (resetBatch s).host = s.host := rfl
@[simp] theorem resetBatch_presented (s : State) : (resetBatch s).presented = s.presented := rfl
@[simp] theorem resetBatch_answer (s : State) : (resetBatch s).answer = s.answer := rfl
@[simp] theorem resetBatch_port (s : State) : (resetBatch s).port = s.port := rfl
@[simp] theorem resetBatch_reqs (s : State) : (resetBatch s).reqs = s.reqs := rfl
@[simp] theorem resetBatch_wm (s : State) : (resetBatch s).wm = s.wm := rfl
@[simp] theorem resetBatch_cmd (s : State) : (resetBatch s).cmd = s.cmd := rfl
@[simp] theorem resetBatch_cap (s : State) : (resetBatch s).cap = s.cap := rfl
@[simp] theorem resetBatch_link (s : State) : (resetBatch s).link = s.link := rfl
@[simp] theorem resetBatch_tx (s : State) : (resetBatch s).tx = s.tx := rfl
@[simp] theorem resetBatch_land (s : State) :
    (resetBatch s).land = { s.land with batch := 0, ackDelay := none } := rfl
@[simp] theorem resetBatch_cred (s : State) : (resetBatch s).cred = s.cred := rfl
@[simp] theorem resetBatch_ev (s : State) : (resetBatch s).ev = s.ev := rfl
@[simp] theorem resetBatch_free (s : State) : (resetBatch s).free = s.free := rfl
@[simp] theorem resetBatch_pending (s : State) : (resetBatch s).pending = s.pending := rfl

/-! ### `timerAfterRemoval` -/

@[simp] theorem timerAfterRemoval_resetLow (s : State) : (timerAfterRemoval s).resetLow = s.resetLow := rfl
@[simp] theorem timerAfterRemoval_timebase (s : State) : (timerAfterRemoval s).timebase = s.timebase := rfl
@[simp] theorem timerAfterRemoval_intOut (s : State) : (timerAfterRemoval s).intOut = s.intOut := rfl
@[simp] theorem timerAfterRemoval_laneOut (s : State) : (timerAfterRemoval s).laneOut = s.laneOut := rfl
@[simp] theorem timerAfterRemoval_mem (s : State) : (timerAfterRemoval s).mem = s.mem := rfl
@[simp] theorem timerAfterRemoval_host (s : State) : (timerAfterRemoval s).host = s.host := rfl
@[simp] theorem timerAfterRemoval_presented (s : State) : (timerAfterRemoval s).presented = s.presented := rfl
@[simp] theorem timerAfterRemoval_answer (s : State) : (timerAfterRemoval s).answer = s.answer := rfl
@[simp] theorem timerAfterRemoval_port (s : State) : (timerAfterRemoval s).port = s.port := rfl
@[simp] theorem timerAfterRemoval_reqs (s : State) : (timerAfterRemoval s).reqs = s.reqs := rfl
@[simp] theorem timerAfterRemoval_wm (s : State) : (timerAfterRemoval s).wm = s.wm := rfl
@[simp] theorem timerAfterRemoval_cmd (s : State) : (timerAfterRemoval s).cmd = s.cmd := rfl
@[simp] theorem timerAfterRemoval_cap (s : State) : (timerAfterRemoval s).cap = s.cap := rfl
@[simp] theorem timerAfterRemoval_link (s : State) : (timerAfterRemoval s).link = s.link := rfl
@[simp] theorem timerAfterRemoval_tx (s : State) :
    (timerAfterRemoval s).tx =
      { s.tx with ackTimer := if s.tx.replay.isEmpty then none else some s.link.ackInterval } := rfl
@[simp] theorem timerAfterRemoval_land (s : State) : (timerAfterRemoval s).land = s.land := rfl
@[simp] theorem timerAfterRemoval_cred (s : State) : (timerAfterRemoval s).cred = s.cred := rfl
@[simp] theorem timerAfterRemoval_ev (s : State) : (timerAfterRemoval s).ev = s.ev := rfl
@[simp] theorem timerAfterRemoval_free (s : State) : (timerAfterRemoval s).free = s.free := rfl
@[simp] theorem timerAfterRemoval_pending (s : State) : (timerAfterRemoval s).pending = s.pending := rfl

/-! ### `setInState` -/

@[simp] theorem setInState_resetLow (c : Chan) (i : Nat) (st : InState) (s : State) :
    (setInState c i st s).resetLow = s.resetLow := rfl
@[simp] theorem setInState_timebase (c : Chan) (i : Nat) (st : InState) (s : State) :
    (setInState c i st s).timebase = s.timebase := rfl
@[simp] theorem setInState_intOut (c : Chan) (i : Nat) (st : InState) (s : State) :
    (setInState c i st s).intOut = s.intOut := rfl
@[simp] theorem setInState_laneOut (c : Chan) (i : Nat) (st : InState) (s : State) :
    (setInState c i st s).laneOut = s.laneOut := rfl
@[simp] theorem setInState_mem (c : Chan) (i : Nat) (st : InState) (s : State) :
    (setInState c i st s).mem = s.mem := rfl
@[simp] theorem setInState_host (c : Chan) (i : Nat) (st : InState) (s : State) :
    (setInState c i st s).host = s.host := rfl
@[simp] theorem setInState_presented (c : Chan) (i : Nat) (st : InState) (s : State) :
    (setInState c i st s).presented = s.presented := rfl
@[simp] theorem setInState_answer (c : Chan) (i : Nat) (st : InState) (s : State) :
    (setInState c i st s).answer = s.answer := rfl
@[simp] theorem setInState_port (c : Chan) (i : Nat) (st : InState) (s : State) :
    (setInState c i st s).port = s.port := rfl
@[simp] theorem setInState_reqs (c : Chan) (i : Nat) (st : InState) (s : State) :
    (setInState c i st s).reqs = s.reqs := rfl
@[simp] theorem setInState_wm (c : Chan) (i : Nat) (st : InState) (s : State) : (setInState c i st s).wm = s.wm := rfl
@[simp] theorem setInState_cmd (c : Chan) (i : Nat) (st : InState) (s : State) :
    (setInState c i st s).cmd = s.cmd := rfl
@[simp] theorem setInState_cap (c : Chan) (i : Nat) (st : InState) (s : State) :
    (setInState c i st s).cap = s.cap := rfl
@[simp] theorem setInState_link (c : Chan) (i : Nat) (st : InState) (s : State) :
    (setInState c i st s).link = s.link := rfl
@[simp] theorem setInState_tx (c : Chan) (i : Nat) (st : InState) (s : State) : (setInState c i st s).tx = s.tx := rfl
@[simp] theorem setInState_land (c : Chan) (i : Nat) (st : InState) (s : State) :
    (setInState c i st s).land = s.land.onRing c (InRing.setState i st) := rfl
@[simp] theorem setInState_cred (c : Chan) (i : Nat) (st : InState) (s : State) :
    (setInState c i st s).cred = s.cred := rfl
@[simp] theorem setInState_ev (c : Chan) (i : Nat) (st : InState) (s : State) : (setInState c i st s).ev = s.ev := rfl
@[simp] theorem setInState_free (c : Chan) (i : Nat) (st : InState) (s : State) :
    (setInState c i st s).free = s.free := rfl
@[simp] theorem setInState_pending (c : Chan) (i : Nat) (st : InState) (s : State) :
    (setInState c i st s).pending = s.pending := rfl

/-! ### `setHead` -/

@[simp] theorem setHead_resetLow (e : LandEntry) (l : Landing) (s : State) :
    (setHead e l s).resetLow = s.resetLow := rfl
@[simp] theorem setHead_timebase (e : LandEntry) (l : Landing) (s : State) :
    (setHead e l s).timebase = s.timebase := rfl
@[simp] theorem setHead_intOut (e : LandEntry) (l : Landing) (s : State) : (setHead e l s).intOut = s.intOut := rfl
@[simp] theorem setHead_laneOut (e : LandEntry) (l : Landing) (s : State) : (setHead e l s).laneOut = s.laneOut := rfl
@[simp] theorem setHead_mem (e : LandEntry) (l : Landing) (s : State) : (setHead e l s).mem = s.mem := rfl
@[simp] theorem setHead_host (e : LandEntry) (l : Landing) (s : State) : (setHead e l s).host = s.host := rfl
@[simp] theorem setHead_presented (e : LandEntry) (l : Landing) (s : State) :
    (setHead e l s).presented = s.presented := rfl
@[simp] theorem setHead_answer (e : LandEntry) (l : Landing) (s : State) : (setHead e l s).answer = s.answer := rfl
@[simp] theorem setHead_port (e : LandEntry) (l : Landing) (s : State) : (setHead e l s).port = s.port := rfl
@[simp] theorem setHead_reqs (e : LandEntry) (l : Landing) (s : State) : (setHead e l s).reqs = s.reqs := rfl
@[simp] theorem setHead_wm (e : LandEntry) (l : Landing) (s : State) : (setHead e l s).wm = s.wm := rfl
@[simp] theorem setHead_cmd (e : LandEntry) (l : Landing) (s : State) : (setHead e l s).cmd = s.cmd := rfl
@[simp] theorem setHead_cap (e : LandEntry) (l : Landing) (s : State) : (setHead e l s).cap = s.cap := rfl
@[simp] theorem setHead_link (e : LandEntry) (l : Landing) (s : State) : (setHead e l s).link = s.link := rfl
@[simp] theorem setHead_tx (e : LandEntry) (l : Landing) (s : State) : (setHead e l s).tx = s.tx := rfl
@[simp] theorem setHead_land (e : LandEntry) (l : Landing) (s : State) :
    (setHead e l s).land = { s.land with queue := { e with verdict := .landing l } :: s.land.queue.tail } := rfl
@[simp] theorem setHead_cred (e : LandEntry) (l : Landing) (s : State) : (setHead e l s).cred = s.cred := rfl
@[simp] theorem setHead_ev (e : LandEntry) (l : Landing) (s : State) : (setHead e l s).ev = s.ev := rfl
@[simp] theorem setHead_free (e : LandEntry) (l : Landing) (s : State) : (setHead e l s).free = s.free := rfl
@[simp] theorem setHead_pending (e : LandEntry) (l : Landing) (s : State) : (setHead e l s).pending = s.pending := rfl

/-! ### `returnPosted` -/

@[simp] theorem returnPosted_resetLow (c : Chan) (i : Nat) (s : State) :
    (returnPosted c i s).resetLow = s.resetLow := rfl
@[simp] theorem returnPosted_timebase (c : Chan) (i : Nat) (s : State) :
    (returnPosted c i s).timebase = s.timebase := rfl
@[simp] theorem returnPosted_intOut (c : Chan) (i : Nat) (s : State) : (returnPosted c i s).intOut = s.intOut := rfl
@[simp] theorem returnPosted_laneOut (c : Chan) (i : Nat) (s : State) :
    (returnPosted c i s).laneOut = s.laneOut := rfl
@[simp] theorem returnPosted_mem (c : Chan) (i : Nat) (s : State) : (returnPosted c i s).mem = s.mem := rfl
@[simp] theorem returnPosted_host (c : Chan) (i : Nat) (s : State) : (returnPosted c i s).host = s.host := rfl
@[simp] theorem returnPosted_presented (c : Chan) (i : Nat) (s : State) :
    (returnPosted c i s).presented = s.presented := rfl
@[simp] theorem returnPosted_answer (c : Chan) (i : Nat) (s : State) : (returnPosted c i s).answer = s.answer := rfl
@[simp] theorem returnPosted_port (c : Chan) (i : Nat) (s : State) : (returnPosted c i s).port = s.port := rfl
@[simp] theorem returnPosted_reqs (c : Chan) (i : Nat) (s : State) : (returnPosted c i s).reqs = s.reqs := rfl
@[simp] theorem returnPosted_wm (c : Chan) (i : Nat) (s : State) : (returnPosted c i s).wm = s.wm := rfl
@[simp] theorem returnPosted_cmd (c : Chan) (i : Nat) (s : State) : (returnPosted c i s).cmd = s.cmd := rfl
@[simp] theorem returnPosted_cap (c : Chan) (i : Nat) (s : State) : (returnPosted c i s).cap = s.cap := rfl
@[simp] theorem returnPosted_link (c : Chan) (i : Nat) (s : State) : (returnPosted c i s).link = s.link := rfl
@[simp] theorem returnPosted_tx (c : Chan) (i : Nat) (s : State) : (returnPosted c i s).tx = s.tx := rfl
@[simp] theorem returnPosted_land (c : Chan) (i : Nat) (s : State) :
    (returnPosted c i s).land = s.land.onRing c (InRing.returnPosted i) := rfl
@[simp] theorem returnPosted_cred (c : Chan) (i : Nat) (s : State) : (returnPosted c i s).cred = s.cred := rfl
@[simp] theorem returnPosted_ev (c : Chan) (i : Nat) (s : State) : (returnPosted c i s).ev = s.ev := rfl
@[simp] theorem returnPosted_free (c : Chan) (i : Nat) (s : State) : (returnPosted c i s).free = s.free := rfl
@[simp] theorem returnPosted_pending (c : Chan) (i : Nat) (s : State) :
    (returnPosted c i s).pending = s.pending := rfl

/-! ### `activateChan` -/

@[simp] theorem activateChan_resetLow (n : Chan) (cfg : ChanCfg) (s : State) :
    (activateChan n cfg s).resetLow = s.resetLow := rfl
@[simp] theorem activateChan_timebase (n : Chan) (cfg : ChanCfg) (s : State) :
    (activateChan n cfg s).timebase = s.timebase := rfl
@[simp] theorem activateChan_intOut (n : Chan) (cfg : ChanCfg) (s : State) :
    (activateChan n cfg s).intOut = s.intOut := rfl
@[simp] theorem activateChan_laneOut (n : Chan) (cfg : ChanCfg) (s : State) :
    (activateChan n cfg s).laneOut = s.laneOut := rfl
@[simp] theorem activateChan_mem (n : Chan) (cfg : ChanCfg) (s : State) : (activateChan n cfg s).mem = s.mem := rfl
@[simp] theorem activateChan_host (n : Chan) (cfg : ChanCfg) (s : State) : (activateChan n cfg s).host = s.host := rfl
@[simp] theorem activateChan_presented (n : Chan) (cfg : ChanCfg) (s : State) :
    (activateChan n cfg s).presented = s.presented := rfl
@[simp] theorem activateChan_answer (n : Chan) (cfg : ChanCfg) (s : State) :
    (activateChan n cfg s).answer = s.answer := rfl
@[simp] theorem activateChan_port (n : Chan) (cfg : ChanCfg) (s : State) : (activateChan n cfg s).port = s.port := rfl
@[simp] theorem activateChan_reqs (n : Chan) (cfg : ChanCfg) (s : State) : (activateChan n cfg s).reqs = s.reqs := rfl
@[simp] theorem activateChan_wm (n : Chan) (cfg : ChanCfg) (s : State) :
    (activateChan n cfg s).wm =
      { s.wm with chans := s.wm.chans.set n ⟨.active cfg, s.wm.chans[n].generation + 1⟩ } := rfl
@[simp] theorem activateChan_cmd (n : Chan) (cfg : ChanCfg) (s : State) : (activateChan n cfg s).cmd = s.cmd := rfl
@[simp] theorem activateChan_cap (n : Chan) (cfg : ChanCfg) (s : State) : (activateChan n cfg s).cap = s.cap := rfl
@[simp] theorem activateChan_link (n : Chan) (cfg : ChanCfg) (s : State) : (activateChan n cfg s).link = s.link := rfl
@[simp] theorem activateChan_tx (n : Chan) (cfg : ChanCfg) (s : State) : (activateChan n cfg s).tx = s.tx := rfl
@[simp] theorem activateChan_land (n : Chan) (cfg : ChanCfg) (s : State) : (activateChan n cfg s).land = s.land := rfl
@[simp] theorem activateChan_cred (n : Chan) (cfg : ChanCfg) (s : State) : (activateChan n cfg s).cred = s.cred := rfl
@[simp] theorem activateChan_ev (n : Chan) (cfg : ChanCfg) (s : State) : (activateChan n cfg s).ev = s.ev := rfl
@[simp] theorem activateChan_free (n : Chan) (cfg : ChanCfg) (s : State) : (activateChan n cfg s).free = s.free := rfl
@[simp] theorem activateChan_pending (n : Chan) (cfg : ChanCfg) (s : State) :
    (activateChan n cfg s).pending = s.pending := rfl

/-! ### `leaveSelect` -/

@[simp] theorem leaveSelect_resetLow (a : HostAccess) (s : State) : (leaveSelect a s).resetLow = s.resetLow := rfl
@[simp] theorem leaveSelect_timebase (a : HostAccess) (s : State) : (leaveSelect a s).timebase = s.timebase := rfl
@[simp] theorem leaveSelect_intOut (a : HostAccess) (s : State) : (leaveSelect a s).intOut = s.intOut := rfl
@[simp] theorem leaveSelect_laneOut (a : HostAccess) (s : State) : (leaveSelect a s).laneOut = s.laneOut := rfl
@[simp] theorem leaveSelect_mem (a : HostAccess) (s : State) : (leaveSelect a s).mem = s.mem := rfl
@[simp] theorem leaveSelect_host (a : HostAccess) (s : State) : (leaveSelect a s).host = s.host := rfl
@[simp] theorem leaveSelect_presented (a : HostAccess) (s : State) :
    (leaveSelect a s).presented = s.presented.or (some a) := rfl
@[simp] theorem leaveSelect_answer (a : HostAccess) (s : State) : (leaveSelect a s).answer = s.answer := rfl
@[simp] theorem leaveSelect_port (a : HostAccess) (s : State) : (leaveSelect a s).port = s.port := rfl
@[simp] theorem leaveSelect_reqs (a : HostAccess) (s : State) : (leaveSelect a s).reqs = s.reqs := rfl
@[simp] theorem leaveSelect_wm (a : HostAccess) (s : State) : (leaveSelect a s).wm = s.wm := rfl
@[simp] theorem leaveSelect_cmd (a : HostAccess) (s : State) : (leaveSelect a s).cmd = s.cmd := rfl
@[simp] theorem leaveSelect_cap (a : HostAccess) (s : State) : (leaveSelect a s).cap = s.cap := rfl
@[simp] theorem leaveSelect_link (a : HostAccess) (s : State) : (leaveSelect a s).link = s.link := rfl
@[simp] theorem leaveSelect_tx (a : HostAccess) (s : State) : (leaveSelect a s).tx = s.tx := rfl
@[simp] theorem leaveSelect_land (a : HostAccess) (s : State) : (leaveSelect a s).land = s.land := rfl
@[simp] theorem leaveSelect_cred (a : HostAccess) (s : State) : (leaveSelect a s).cred = s.cred := rfl
@[simp] theorem leaveSelect_ev (a : HostAccess) (s : State) : (leaveSelect a s).ev = s.ev := rfl
@[simp] theorem leaveSelect_free (a : HostAccess) (s : State) : (leaveSelect a s).free = s.free := rfl
@[simp] theorem leaveSelect_pending (a : HostAccess) (s : State) : (leaveSelect a s).pending = s.pending := rfl

/-! ### `clearQueued` -/

@[simp] theorem clearQueued_resetLow (c : Chan) (s : State) : (clearQueued c s).resetLow = s.resetLow := rfl
@[simp] theorem clearQueued_timebase (c : Chan) (s : State) : (clearQueued c s).timebase = s.timebase := rfl
@[simp] theorem clearQueued_intOut (c : Chan) (s : State) : (clearQueued c s).intOut = s.intOut := rfl
@[simp] theorem clearQueued_laneOut (c : Chan) (s : State) : (clearQueued c s).laneOut = s.laneOut := rfl
@[simp] theorem clearQueued_mem (c : Chan) (s : State) : (clearQueued c s).mem = s.mem := rfl
@[simp] theorem clearQueued_host (c : Chan) (s : State) : (clearQueued c s).host = s.host := rfl
@[simp] theorem clearQueued_presented (c : Chan) (s : State) : (clearQueued c s).presented = s.presented := rfl
@[simp] theorem clearQueued_answer (c : Chan) (s : State) : (clearQueued c s).answer = s.answer := rfl
@[simp] theorem clearQueued_port (c : Chan) (s : State) : (clearQueued c s).port = s.port := rfl
@[simp] theorem clearQueued_reqs (c : Chan) (s : State) : (clearQueued c s).reqs = s.reqs := rfl
@[simp] theorem clearQueued_wm (c : Chan) (s : State) : (clearQueued c s).wm = s.wm := rfl
@[simp] theorem clearQueued_cmd (c : Chan) (s : State) : (clearQueued c s).cmd = s.cmd := rfl
@[simp] theorem clearQueued_cap (c : Chan) (s : State) : (clearQueued c s).cap = s.cap := rfl
@[simp] theorem clearQueued_link (c : Chan) (s : State) : (clearQueued c s).link = s.link := rfl
@[simp] theorem clearQueued_tx (c : Chan) (s : State) : (clearQueued c s).tx = s.tx := rfl
@[simp] theorem clearQueued_land (c : Chan) (s : State) : (clearQueued c s).land = s.land := rfl
@[simp] theorem clearQueued_cred (c : Chan) (s : State) :
    (clearQueued c s).cred = s.cred.onRecv c (fun r => { r with queued := false }) := rfl
@[simp] theorem clearQueued_ev (c : Chan) (s : State) : (clearQueued c s).ev = s.ev := rfl
@[simp] theorem clearQueued_free (c : Chan) (s : State) : (clearQueued c s).free = s.free := rfl
@[simp] theorem clearQueued_pending (c : Chan) (s : State) : (clearQueued c s).pending = s.pending := rfl

/-! ### `handTransmit` -/

@[simp] theorem handTransmit_resetLow (a : TxArrival) (s : State) : (handTransmit a s).resetLow = s.resetLow := rfl
@[simp] theorem handTransmit_timebase (a : TxArrival) (s : State) : (handTransmit a s).timebase = s.timebase := rfl
@[simp] theorem handTransmit_intOut (a : TxArrival) (s : State) : (handTransmit a s).intOut = s.intOut := rfl
@[simp] theorem handTransmit_laneOut (a : TxArrival) (s : State) : (handTransmit a s).laneOut = s.laneOut := rfl
@[simp] theorem handTransmit_mem (a : TxArrival) (s : State) : (handTransmit a s).mem = s.mem := rfl
@[simp] theorem handTransmit_host (a : TxArrival) (s : State) : (handTransmit a s).host = s.host := rfl
@[simp] theorem handTransmit_presented (a : TxArrival) (s : State) : (handTransmit a s).presented = s.presented := rfl
@[simp] theorem handTransmit_answer (a : TxArrival) (s : State) : (handTransmit a s).answer = s.answer := rfl
@[simp] theorem handTransmit_port (a : TxArrival) (s : State) : (handTransmit a s).port = s.port := rfl
@[simp] theorem handTransmit_reqs (a : TxArrival) (s : State) : (handTransmit a s).reqs = s.reqs := rfl
@[simp] theorem handTransmit_wm (a : TxArrival) (s : State) : (handTransmit a s).wm = s.wm := rfl
@[simp] theorem handTransmit_cmd (a : TxArrival) (s : State) : (handTransmit a s).cmd = s.cmd := rfl
@[simp] theorem handTransmit_cap (a : TxArrival) (s : State) : (handTransmit a s).cap = s.cap := rfl
@[simp] theorem handTransmit_link (a : TxArrival) (s : State) : (handTransmit a s).link = s.link := rfl
@[simp] theorem handTransmit_tx (a : TxArrival) (s : State) :
    (handTransmit a s).tx = { s.tx with inbox := if s.link.isUp then s.tx.inbox ++ [a] else s.tx.inbox } := rfl
@[simp] theorem handTransmit_land (a : TxArrival) (s : State) : (handTransmit a s).land = s.land := rfl
@[simp] theorem handTransmit_cred (a : TxArrival) (s : State) : (handTransmit a s).cred = s.cred := rfl
@[simp] theorem handTransmit_ev (a : TxArrival) (s : State) : (handTransmit a s).ev = s.ev := rfl
@[simp] theorem handTransmit_free (a : TxArrival) (s : State) : (handTransmit a s).free = s.free := rfl
@[simp] theorem handTransmit_pending (a : TxArrival) (s : State) : (handTransmit a s).pending = s.pending := rfl

/-! ### `popTransmit` -/

@[simp] theorem popTransmit_resetLow (s : State) : (popTransmit s).resetLow = s.resetLow := rfl
@[simp] theorem popTransmit_timebase (s : State) : (popTransmit s).timebase = s.timebase := rfl
@[simp] theorem popTransmit_intOut (s : State) : (popTransmit s).intOut = s.intOut := rfl
@[simp] theorem popTransmit_laneOut (s : State) : (popTransmit s).laneOut = s.laneOut := rfl
@[simp] theorem popTransmit_mem (s : State) : (popTransmit s).mem = s.mem := rfl
@[simp] theorem popTransmit_host (s : State) : (popTransmit s).host = s.host := rfl
@[simp] theorem popTransmit_presented (s : State) : (popTransmit s).presented = s.presented := rfl
@[simp] theorem popTransmit_answer (s : State) : (popTransmit s).answer = s.answer := rfl
@[simp] theorem popTransmit_port (s : State) : (popTransmit s).port = s.port := rfl
@[simp] theorem popTransmit_reqs (s : State) : (popTransmit s).reqs = s.reqs := rfl
@[simp] theorem popTransmit_wm (s : State) : (popTransmit s).wm = s.wm := rfl
@[simp] theorem popTransmit_cmd (s : State) : (popTransmit s).cmd = s.cmd := rfl
@[simp] theorem popTransmit_cap (s : State) : (popTransmit s).cap = s.cap := rfl
@[simp] theorem popTransmit_link (s : State) : (popTransmit s).link = s.link := rfl
@[simp] theorem popTransmit_tx (s : State) : (popTransmit s).tx = { s.tx with inbox := s.tx.inbox.tail } := rfl
@[simp] theorem popTransmit_land (s : State) : (popTransmit s).land = s.land := rfl
@[simp] theorem popTransmit_cred (s : State) : (popTransmit s).cred = s.cred := rfl
@[simp] theorem popTransmit_ev (s : State) : (popTransmit s).ev = s.ev := rfl
@[simp] theorem popTransmit_free (s : State) : (popTransmit s).free = s.free := rfl
@[simp] theorem popTransmit_pending (s : State) : (popTransmit s).pending = s.pending := rfl

/-! ### `handLanding` -/

@[simp] theorem handLanding_resetLow (a : LandArrival) (s : State) : (handLanding a s).resetLow = s.resetLow := rfl
@[simp] theorem handLanding_timebase (a : LandArrival) (s : State) : (handLanding a s).timebase = s.timebase := rfl
@[simp] theorem handLanding_intOut (a : LandArrival) (s : State) : (handLanding a s).intOut = s.intOut := rfl
@[simp] theorem handLanding_laneOut (a : LandArrival) (s : State) : (handLanding a s).laneOut = s.laneOut := rfl
@[simp] theorem handLanding_mem (a : LandArrival) (s : State) : (handLanding a s).mem = s.mem := rfl
@[simp] theorem handLanding_host (a : LandArrival) (s : State) : (handLanding a s).host = s.host := rfl
@[simp] theorem handLanding_presented (a : LandArrival) (s : State) : (handLanding a s).presented = s.presented := rfl
@[simp] theorem handLanding_answer (a : LandArrival) (s : State) : (handLanding a s).answer = s.answer := rfl
@[simp] theorem handLanding_port (a : LandArrival) (s : State) : (handLanding a s).port = s.port := rfl
@[simp] theorem handLanding_reqs (a : LandArrival) (s : State) : (handLanding a s).reqs = s.reqs := rfl
@[simp] theorem handLanding_wm (a : LandArrival) (s : State) : (handLanding a s).wm = s.wm := rfl
@[simp] theorem handLanding_cmd (a : LandArrival) (s : State) : (handLanding a s).cmd = s.cmd := rfl
@[simp] theorem handLanding_cap (a : LandArrival) (s : State) : (handLanding a s).cap = s.cap := rfl
@[simp] theorem handLanding_link (a : LandArrival) (s : State) : (handLanding a s).link = s.link := rfl
@[simp] theorem handLanding_tx (a : LandArrival) (s : State) : (handLanding a s).tx = s.tx := rfl
@[simp] theorem handLanding_land (a : LandArrival) (s : State) :
    (handLanding a s).land = { s.land with inbox := if s.link.isUp then s.land.inbox ++ [a] else s.land.inbox } := rfl
@[simp] theorem handLanding_cred (a : LandArrival) (s : State) : (handLanding a s).cred = s.cred := rfl
@[simp] theorem handLanding_ev (a : LandArrival) (s : State) : (handLanding a s).ev = s.ev := rfl
@[simp] theorem handLanding_free (a : LandArrival) (s : State) : (handLanding a s).free = s.free := rfl
@[simp] theorem handLanding_pending (a : LandArrival) (s : State) : (handLanding a s).pending = s.pending := rfl

/-! ### `popLanding` -/

@[simp] theorem popLanding_resetLow (s : State) : (popLanding s).resetLow = s.resetLow := rfl
@[simp] theorem popLanding_timebase (s : State) : (popLanding s).timebase = s.timebase := rfl
@[simp] theorem popLanding_intOut (s : State) : (popLanding s).intOut = s.intOut := rfl
@[simp] theorem popLanding_laneOut (s : State) : (popLanding s).laneOut = s.laneOut := rfl
@[simp] theorem popLanding_mem (s : State) : (popLanding s).mem = s.mem := rfl
@[simp] theorem popLanding_host (s : State) : (popLanding s).host = s.host := rfl
@[simp] theorem popLanding_presented (s : State) : (popLanding s).presented = s.presented := rfl
@[simp] theorem popLanding_answer (s : State) : (popLanding s).answer = s.answer := rfl
@[simp] theorem popLanding_port (s : State) : (popLanding s).port = s.port := rfl
@[simp] theorem popLanding_reqs (s : State) : (popLanding s).reqs = s.reqs := rfl
@[simp] theorem popLanding_wm (s : State) : (popLanding s).wm = s.wm := rfl
@[simp] theorem popLanding_cmd (s : State) : (popLanding s).cmd = s.cmd := rfl
@[simp] theorem popLanding_cap (s : State) : (popLanding s).cap = s.cap := rfl
@[simp] theorem popLanding_link (s : State) : (popLanding s).link = s.link := rfl
@[simp] theorem popLanding_tx (s : State) : (popLanding s).tx = s.tx := rfl
@[simp] theorem popLanding_land (s : State) : (popLanding s).land = { s.land with inbox := s.land.inbox.tail } := rfl
@[simp] theorem popLanding_cred (s : State) : (popLanding s).cred = s.cred := rfl
@[simp] theorem popLanding_ev (s : State) : (popLanding s).ev = s.ev := rfl
@[simp] theorem popLanding_free (s : State) : (popLanding s).free = s.free := rfl
@[simp] theorem popLanding_pending (s : State) : (popLanding s).pending = s.pending := rfl

/-! ### `handCredit` -/

@[simp] theorem handCredit_resetLow (a : CreditArrival) (s : State) : (handCredit a s).resetLow = s.resetLow := rfl
@[simp] theorem handCredit_timebase (a : CreditArrival) (s : State) : (handCredit a s).timebase = s.timebase := rfl
@[simp] theorem handCredit_intOut (a : CreditArrival) (s : State) : (handCredit a s).intOut = s.intOut := rfl
@[simp] theorem handCredit_laneOut (a : CreditArrival) (s : State) : (handCredit a s).laneOut = s.laneOut := rfl
@[simp] theorem handCredit_mem (a : CreditArrival) (s : State) : (handCredit a s).mem = s.mem := rfl
@[simp] theorem handCredit_host (a : CreditArrival) (s : State) : (handCredit a s).host = s.host := rfl
@[simp] theorem handCredit_presented (a : CreditArrival) (s : State) : (handCredit a s).presented = s.presented := rfl
@[simp] theorem handCredit_answer (a : CreditArrival) (s : State) : (handCredit a s).answer = s.answer := rfl
@[simp] theorem handCredit_port (a : CreditArrival) (s : State) : (handCredit a s).port = s.port := rfl
@[simp] theorem handCredit_reqs (a : CreditArrival) (s : State) : (handCredit a s).reqs = s.reqs := rfl
@[simp] theorem handCredit_wm (a : CreditArrival) (s : State) : (handCredit a s).wm = s.wm := rfl
@[simp] theorem handCredit_cmd (a : CreditArrival) (s : State) : (handCredit a s).cmd = s.cmd := rfl
@[simp] theorem handCredit_cap (a : CreditArrival) (s : State) : (handCredit a s).cap = s.cap := rfl
@[simp] theorem handCredit_link (a : CreditArrival) (s : State) : (handCredit a s).link = s.link := rfl
@[simp] theorem handCredit_tx (a : CreditArrival) (s : State) : (handCredit a s).tx = s.tx := rfl
@[simp] theorem handCredit_land (a : CreditArrival) (s : State) : (handCredit a s).land = s.land := rfl
@[simp] theorem handCredit_cred (a : CreditArrival) (s : State) :
    (handCredit a s).cred = { s.cred with inbox := if s.link.isUp then s.cred.inbox ++ [a] else s.cred.inbox } := rfl
@[simp] theorem handCredit_ev (a : CreditArrival) (s : State) : (handCredit a s).ev = s.ev := rfl
@[simp] theorem handCredit_free (a : CreditArrival) (s : State) : (handCredit a s).free = s.free := rfl
@[simp] theorem handCredit_pending (a : CreditArrival) (s : State) : (handCredit a s).pending = s.pending := rfl

/-! ### `popCredit` -/

@[simp] theorem popCredit_resetLow (s : State) : (popCredit s).resetLow = s.resetLow := rfl
@[simp] theorem popCredit_timebase (s : State) : (popCredit s).timebase = s.timebase := rfl
@[simp] theorem popCredit_intOut (s : State) : (popCredit s).intOut = s.intOut := rfl
@[simp] theorem popCredit_laneOut (s : State) : (popCredit s).laneOut = s.laneOut := rfl
@[simp] theorem popCredit_mem (s : State) : (popCredit s).mem = s.mem := rfl
@[simp] theorem popCredit_host (s : State) : (popCredit s).host = s.host := rfl
@[simp] theorem popCredit_presented (s : State) : (popCredit s).presented = s.presented := rfl
@[simp] theorem popCredit_answer (s : State) : (popCredit s).answer = s.answer := rfl
@[simp] theorem popCredit_port (s : State) : (popCredit s).port = s.port := rfl
@[simp] theorem popCredit_reqs (s : State) : (popCredit s).reqs = s.reqs := rfl
@[simp] theorem popCredit_wm (s : State) : (popCredit s).wm = s.wm := rfl
@[simp] theorem popCredit_cmd (s : State) : (popCredit s).cmd = s.cmd := rfl
@[simp] theorem popCredit_cap (s : State) : (popCredit s).cap = s.cap := rfl
@[simp] theorem popCredit_link (s : State) : (popCredit s).link = s.link := rfl
@[simp] theorem popCredit_tx (s : State) : (popCredit s).tx = s.tx := rfl
@[simp] theorem popCredit_land (s : State) : (popCredit s).land = s.land := rfl
@[simp] theorem popCredit_cred (s : State) : (popCredit s).cred = { s.cred with inbox := s.cred.inbox.tail } := rfl
@[simp] theorem popCredit_ev (s : State) : (popCredit s).ev = s.ev := rfl
@[simp] theorem popCredit_free (s : State) : (popCredit s).free = s.free := rfl
@[simp] theorem popCredit_pending (s : State) : (popCredit s).pending = s.pending := rfl

/-! ### `State.withQueue` -/

@[simp] theorem State.withQueue_resetLow (s : State) (q : List Instr) :
    (State.withQueue s q).resetLow = s.resetLow := rfl
@[simp] theorem State.withQueue_timebase (s : State) (q : List Instr) :
    (State.withQueue s q).timebase = s.timebase := rfl
@[simp] theorem State.withQueue_intOut (s : State) (q : List Instr) : (State.withQueue s q).intOut = s.intOut := rfl
@[simp] theorem State.withQueue_laneOut (s : State) (q : List Instr) :
    (State.withQueue s q).laneOut = s.laneOut := rfl
@[simp] theorem State.withQueue_mem (s : State) (q : List Instr) : (State.withQueue s q).mem = s.mem := rfl
@[simp] theorem State.withQueue_host (s : State) (q : List Instr) : (State.withQueue s q).host = s.host := rfl
@[simp] theorem State.withQueue_presented (s : State) (q : List Instr) :
    (State.withQueue s q).presented = s.presented := rfl
@[simp] theorem State.withQueue_answer (s : State) (q : List Instr) : (State.withQueue s q).answer = s.answer := rfl
@[simp] theorem State.withQueue_port (s : State) (q : List Instr) : (State.withQueue s q).port = s.port := rfl
@[simp] theorem State.withQueue_reqs (s : State) (q : List Instr) : (State.withQueue s q).reqs = s.reqs := rfl
@[simp] theorem State.withQueue_wm (s : State) (q : List Instr) : (State.withQueue s q).wm = s.wm := rfl
@[simp] theorem State.withQueue_cmd (s : State) (q : List Instr) : (State.withQueue s q).cmd = s.cmd := rfl
@[simp] theorem State.withQueue_cap (s : State) (q : List Instr) : (State.withQueue s q).cap = s.cap := rfl
@[simp] theorem State.withQueue_link (s : State) (q : List Instr) : (State.withQueue s q).link = s.link := rfl
@[simp] theorem State.withQueue_tx (s : State) (q : List Instr) : (State.withQueue s q).tx = s.tx := rfl
@[simp] theorem State.withQueue_land (s : State) (q : List Instr) : (State.withQueue s q).land = s.land := rfl
@[simp] theorem State.withQueue_cred (s : State) (q : List Instr) : (State.withQueue s q).cred = s.cred := rfl
@[simp] theorem State.withQueue_ev (s : State) (q : List Instr) : (State.withQueue s q).ev = s.ev := rfl
@[simp] theorem State.withQueue_free (s : State) (q : List Instr) : (State.withQueue s q).free = s.free := rfl
@[simp] theorem State.withQueue_pending (s : State) (q : List Instr) : (State.withQueue s q).pending = q := rfl

end Sys2Proof.Machine
end

