-- ==== Sys2Proof/Laws/Steps.lean ====
section
/-! SUPPORT. What the shared operations do, said once for each: the form of a step, the end of a device access, the
arrival of a host access, the taking of a record, posting, the searches over channel numbers, the outgoing lane,
disposals and damage reports. -/

namespace Sys2Proof.Machine

/-! ### The form of a step -/

/-- While RESET_N is low a step leaves the state (R8, R17). -/
theorem live_low (f : State → State) (s : State) (h : s.resetLow = true) : live f s = .next s := by
  simp [live, h]

/-- With RESET_N high a step is its change. -/
theorem live_on (f : State → State) (s : State) (h : s.on) : live f s = .next (f s) := by
  simp [live, show s.resetLow = false from h]

/-! ### Ends of device accesses -/

/-- The end of the granted device access, as the row that recognises it (R9, R16). -/
theorem deviceEnd_serves (p : Purpose) (mine : Purpose → Bool) (e : AccessEnd) (s : State) (r : DevReq)
    (h : s.serves p r) (hm : mine p = true) :
    live (deviceEnd mine e) s = .next (ownerGoesOn e r (endDevice r e s)) := by
  obtain ⟨h1, h2, h3⟩ := h
  simp [live, h1, deviceEnd, atDeviceEnd, h2, h3, hm]

/-- A row that does not recognise the access in progress changes nothing (log 2). -/
theorem deviceEnd_other (mine : Purpose → Bool) (e : AccessEnd) (s : State)
    (h : ∀ r, s.port.granted = some (.device r) → mine r.purpose = false) : live (deviceEnd mine e) s = .next s := by
  unfold live deviceEnd atDeviceEnd
  split
  · rfl
  · split
    · rename_i r hr
      simp [h r hr]
    · rfl
    · rfl

/-! ### Host accesses -/

/-- A read that the guard holds back (R5, R153). -/
theorem arrive_held (a : HostAccess) (s : State) (h : HeldRead) (hw : a.write = false)
    (hg : guardVerdict (recordWords a.start a.words) s = some h) :
    arrive a s = { s with host := .held a, land := { s.land with heldRead := some h } } := by
  simp [arrive, hw, hg]

/-- A write, and a read that passes, go to WAITING (R3, R5). -/
theorem arrive_waiting (a : HostAccess) (s : State)
    (h : a.write = true ∨ guardVerdict (recordWords a.start a.words) s = none) :
    arrive a s = { s with host := .waiting a } := by
  unfold arrive
  rcases h with h | h
  · simp [h]
  · cases a.write <;> simp [h]

/-- An access presented in IDLE arrives (R3). -/
theorem presentAccess_idle (a : HostAccess) (s : State) (h : s.on) (hi : s.host = .idle) :
    presentAccess a s = arrive a s := by
  simp [presentAccess, show s.resetLow = false from h, hi]

/-- One presented in any other state, or while RESET_N is low, is left without ready (R3, R8). -/
theorem presentAccess_busy (a : HostAccess) (s : State) (h : s.resetLow = true ∨ s.host ≠ .idle) :
    presentAccess a s = leaveSelect a s := by
  unfold presentAccess
  split
  · rfl
  · cases hh : s.host <;> simp_all

/-- With nothing presented, or outside IDLE, nothing arrives (R3). -/
theorem arriveNext_none (s : State) (h : s.host ≠ .idle ∨ s.presented = none) : arriveNext s = s := by
  unfold arriveNext
  cases hh : s.host <;> cases hp : s.presented <;> simp_all

/-- In IDLE the presented access arrives (R3). -/
theorem arriveNext_some (a : HostAccess) (s : State) (h : s.host = .idle) (hp : s.presented = some a) :
    arriveNext s = arrive a { s with presented := none } := by
  simp [arriveNext, h, hp]

/-- After the Host Port has looked, no access stays presented in IDLE (R3). -/
theorem arriveNext_idle (s : State) (h : (arriveNext s).host = .idle) : arriveNext s = s ∧ s.presented = none := by
  unfold arriveNext at h ⊢
  cases hh : s.host <;> cases hp : s.presented <;> simp_all [arrive]
  split at h <;> simp_all

/-! ### Records and commands -/

/-- The CONTROL words depend on the anchor alone (R18, R19). -/
theorem control_congr (m n : Matcher) (h : m.anchor = n.anchor) (a : Nat) : m.control? a = n.control? a := by
  have hb : m.base = n.base := by simp [Matcher.base, h]
  unfold Matcher.control?
  rw [hb]

/-- So does the command arrival of a record (R23). -/
theorem command_congr (m n : Matcher) (h : m.anchor = n.anchor) (r : WriteRecord) : r.command? m = r.command? n := by
  simp [WriteRecord.command?, control_congr m n h]

/-- A record in HANDOFF, taken by a row that recognises it (R7, R22; log 9). -/
theorem takeRecord_offers (mine : Matcher → WriteRecord → Bool) (s : State) (r : WriteRecord) (h : s.offers r)
    (hm : mine s.wm r = true) : live (takeRecord mine) s = .next (arriveNext (applyCommand r (s.wordsTaken r))) := by
  obtain ⟨h1, h2, h3⟩ := h
  simp [live, h1, takeRecord, h2, hm, applyRecord, h3, State.wordsTaken]

/-- The code of a command that starts is its word's (R23). -/
theorem starts_code (s : State) (r : WriteRecord) (w : Word) (c : Command) (s2 : State) (h : s.starts r w c s2) :
    c.code.toNat = commandCode w := by
  obtain ⟨-, -, -, h4, -⟩ := h
  subst h4
  simp [commandOf, commandCode, bits]

/-- A command that ends at its start answers (R26, R27). -/
theorem starts_answers (s : State) (r : WriteRecord) (w : Word) (c : Command) (s2 : State) (h : s.starts r w c s2)
    (res : Result) (d : Word) : endCommand res d s2 = s2.answers c res d := by
  obtain ⟨-, -, -, -, h5⟩ := h
  subst h5
  simp [endCommand, State.answers, Executing.finish, CommandUnit.isRunning, detailReq, fullWord]

/-! ### Events -/

/-- Posting changes the Event Unit and its request alone (R166, R172). -/
theorem post_eq (k : EventKind) (c : Chan) (d1 d2 : Word) (s : State) :
    post k c d1 d2 s = { s with
      ev := (post k c d1 d2 s).ev
      reqs := { s.reqs with event := (post k c d1 d2 s).reqs.event } } := rfl

/-- An access that ended OK posts no MEMORY_FAULT. -/
@[simp] theorem postFaultIf_ok (c : Chan) (o : Origin) (a : Nat) (s : State) : postFaultIf .ok c o a s = s := rfl

/-- One that ended with FAULT posts it with its origin and address (R15, R165). -/
@[simp] theorem postFaultIf_fault (kept : List Bool) (data : List Word) (c : Chan) (o : Origin) (a : Nat) (s : State) :
    postFaultIf (.fault kept data) c o a s
      = post .memoryFault c (BitVec.ofNat 32 o.code) (BitVec.ofNat 32 a) s := rfl

/-! ### Searches -/

/-- The first of a list for which `f` has a value. -/
theorem findSome_first {α β : Type} (f : α → Option β) (o : α) (r : β) (front rest : List α)
    (h1 : ∀ p ∈ front, f p = none) (h2 : f o = some r) : (front ++ o :: rest).findSome? f = some r := by
  induction front with
  | nil => simp [h2]
  | cons x xs ih => simp [h1 x (by simp), ih (fun p hp => h1 p (by simp [hp]))]

/-- The channels below `m` stand before it. -/
theorem allChans_split : ∀ m : Chan, allChans = allChans.take m.val ++ m :: allChans.drop (m.val + 1) := by decide

/-- And only they. -/
theorem lt_of_mem_take : ∀ m k : Chan, k ∈ allChans.take m.val → k < m := by decide

/-- The lowest channel with a property is the one found. -/
theorem find_lowest (p : Chan → Bool) (m : Chan) (h : p m = true) (hl : ∀ k, k < m → p k = false) :
    allChans.find? p = some m := by
  rw [List.find?_eq_some_iff_append]
  exact ⟨h, _, _, allChans_split m, fun k hk => by simp [hl k (lt_of_mem_take m k hk)]⟩

/-! ### The outgoing lane, disposals, damage reports -/

/-- What the transmitter puts on the outgoing lane (R83). -/
theorem laneStream_eq (l : LinkController) (t : TransmitEngine) : laneStream l t =
    if l.state = .off then [none]
    else match t.sending with
      | none => [some .idle]
      | some x => sendWords x.words := by
  unfold laneStream
  split
  · rfl
  · cases t.sending <;> simp [laneOfWords, sendWords]

/-- Outside UP a disposal counts a refusal and does nothing else (R150, R176; log 15). -/
theorem dispose_not_up (x : LandEntry) (reason : Option Reason) (s : State) (h : s.link.state ≠ .up) :
    dispose x reason s = match reason with
      | none => s
      | some _ => count (Counters.refuse x.chan) s := by
  have hu : s.link.isUp = false := by simp [LinkController.isUp, h]
  cases reason <;> simp [dispose, hu]

/-- A damage report is taken at once or joins the arrivals that wait (log 35). -/
theorem reportDamage_cases (s : State) :
    (s.land.inbox = [] ∧ reportDamage s = askNak s)
    ∨ (s.land.inbox ≠ [] ∧ reportDamage s = { s with land := { s.land with inbox := s.land.inbox ++ [.damage] } }) := by
  unfold reportDamage
  cases h : s.land.inbox <;> simp

end Sys2Proof.Machine
end

