-- ==== Sys2Proof/Tests/Slice0.lean ====
section
/-! SUPPORT. The author's own tests: well-formedness refused where it must be, one or two small steps of each command
with the result a rule of the spec gives, and, for each statement with hypotheses, a state and operands that meet them
(`witness_<statement>`). -/

namespace Sys2Proof.Tests

open Sys2Proof.Machine

set_option maxRecDepth 20000

/-! ### Well-formedness: one ill-formed command for each check -/

theorem test_wf_pin_reset : (Instr.pinReset (List.replicate 9 true)).wf = false := by decide
theorem test_wf_read_burst : (Instr.hostReadArrival 0 [15#4, 15#4, 15#4]).wf = false := by decide
theorem test_wf_write_burst : (Instr.hostWriteArrival 0 []).wf = false := by decide
theorem test_wf_end : (Instr.hostAccessEnd (.fault (List.replicate 9 true) [])).wf = false := by decide
theorem test_wf_end_data : (Instr.channelRecordReadEnd (.fault [] (List.replicate 9 0#32))).wf = false := by decide
theorem test_wf_timeout : (Instr.memoryResponseTimeout [] (List.replicate 8 0#32)).wf = false := by decide
theorem test_wf_lane : (Instr.dataReceived (.handed [])).wf = false := by decide
theorem test_wf_accepts : (Instr.hostReadArrival 0 (List.replicate 8 15#4)).wf = true := by decide

/-! ### Small states -/

/-- After RESET_N_RELEASE with straps 1. -/
def on : State := { State.reset with resetLow := false, wm := { Matcher.reset with anchor := 1#4 } }

/-- An outbound channel: destination 5, capture on, four slots of 64 bytes at 0x1000. -/
def outCfg : ChanCfg := ⟨.outbound 5 true, 64, 4, 0x1000⟩

/-- An inbound channel: guard limit 10, two slots posted, four slots of 64 bytes at 0x2000. -/
def inCfg : ChanCfg := ⟨.inbound 10 2, 64, 4, 0x2000⟩

/-- Channel 3 outbound with the given slots, channel 4 inbound with the given slots, both ACTIVE. -/
def loaded (outs : List OutSlot) (ins : List InSlot) : State :=
  { on with
    wm := { on.wm with chans := (on.wm.chans.set 3 ⟨.active outCfg, 0⟩).set 4 ⟨.active inCfg, 1⟩ }
    cap := { on.cap with rings := on.cap.rings.set 3 ⟨outs, 0, 0⟩ }
    land := { on.land with rings := on.land.rings.set 4 ⟨ins, 0, 0⟩ }
    cred := { on.cred with recv := on.cred.recv.set 4 ⟨1, .total 2, false⟩ } }

/-- A slot with a state, a buffer and a length. -/
def slot (st : OutState) (b : Option Buf) (len : Nat) : OutSlot := ⟨st, b, len, true, none⟩

/-- The link UP with parameters and lock. -/
def up (s : State) : State :=
  { s with link := { s.link with state := .up, localEpoch := 1, heard := some 7,
                                 params := some ⟨3, 10, 1, 100, 500⟩, rx := ⟨true, 0, none⟩ } }

/-- A device access is granted. -/
def serving (p : Purpose) (write : Bool) (a : Nat) (ws : List BusWord) (s : State) : State :=
  { s with port := { s.port with granted := some (.device ⟨p, write, a, ws⟩), timer := some 100 } }

/-- The Host Port holds a record that ended OK. -/
def offering (ws : List RecordWord) (s : State) : State := { s with host := .handoff ⟨0, ws, true⟩ }

/-- A full-word write to a byte offset of the control block. -/
def control (off : Nat) (w : Word) : RecordWord := ⟨0x1000000 + off, 15#4, w⟩

/-- The state after a command. -/
def after (c : Instr) (s : State) : State :=
  match exec c s with
  | .next t => t
  | .fault _ => s
  | .refused _ => s

/-- The executing command is RUNNING. -/
def running (code : BitVec 8) (s : State) : State :=
  { s with cmd := ⟨some ⟨⟨code, 9#8, 3, 0#32, 0#32, 0#32⟩, .running⟩, none⟩ }

/-- Channel 3's destination with credit. -/
def credited (s : State) : State :=
  { s with cred := { s.cred with send := s.cred.send.set 5 ⟨0, some 2, some 1, .open⟩ } }

/-- A buffer record. -/
def withBuf (b : Buf) (x : Buffer) (s : State) : State := { s with cap := { s.cap with bufs := s.cap.bufs.set b x } }

/-- The lane report of a frame. -/
def laneOf (f : Frame) : List LinkWord := laneOfWords f.words

/-- A good frame has been handed over and taken. -/
def received (c : Receipt → Instr) (f : Frame) (s : State) : State := after (c .taken) (after (c (.handed (laneOf f))) s)

/-- The Event Unit RUNNING with a ring of 16 records at 0x4000. -/
def events (s : State) : State := { s with ev := { s.ev with run := .running, ringCfg := some ⟨0x4000, 16⟩ } }

/-! ### One or two steps of each command -/

/-- R87: the nine bytes 0x31 to 0x39 give 0xCBF4_3926. -/
theorem test_crc_vector :
    crcBytes [0x31#8, 0x32#8, 0x33#8, 0x34#8, 0x35#8, 0x36#8, 0x37#8, 0x38#8, 0x39#8] = 0xCBF43926#32 := by decide

/-- R17: the port is free after pin reset, whatever was granted. -/
theorem test_pin_reset : (after (.pinReset []) (serving .respWord true 0 [] on)).port.granted = none := by decide

/-- R8, R17: the write in TRANSFER reaches memory in the words the operand keeps. -/
theorem test_pin_reset_keeps_word :
    memRead (after (.pinReset [true]) (serving .respWord true 0x40 [⟨15#4, 0x11223344#32⟩] on)).mem 0x41 = 0x33#8 := by
  decide

/-- R18: ANCHOR × 0x100_0000. -/
theorem test_release_anchor : (after (.resetNRelease 15#4) State.reset).wm.base = 0xF000000 := by decide

/-- R3, R5: a read of no guarded slot goes to WAITING. -/
theorem test_read_waits : (after (.hostReadArrival 0 [15#4]) on).host = .waiting ⟨false, 0, [⟨15#4, 0#32⟩]⟩ := by decide

/-- R46, R153: a read of a LANDING slot is held for the guard limit of its channel. -/
theorem test_read_held : (after (.hostReadArrival 0x804 [15#4]) (loaded [] [⟨.landing, false⟩, ⟨.host, false⟩])).land.heldRead
    = some ⟨[(4, 0)], 10⟩ := by decide

/-- R1: a burst length of 3 does not exist. -/
theorem test_read_burst_stops :
    exec (.hostReadArrival 0 [15#4, 15#4, 15#4]) on = .fault .burstLength := rfl

theorem test_write_waits : (after (.hostWriteArrival 1 [⟨15#4, 5#32⟩]) on).host = .waiting ⟨true, 1, [⟨15#4, 5#32⟩]⟩ := by
  decide

/-- R3, R7: a read presented while a record is in HANDOFF arrives when the record has been taken. -/
theorem test_presented_arrives :
    (after .completedWriteRecord (after (.hostReadArrival 0 [15#4]) (offering [] on))).host
      = .waiting ⟨false, 0, [⟨15#4, 0#32⟩]⟩ := by decide

/-- R3, R5, R7: its verdict sees what the record left: here a slot in LANDING holds it. -/
theorem test_presented_held :
    (after .completedWriteRecord (after (.hostReadArrival 0x800 [15#4])
      (offering [] (loaded [] [⟨.landing, false⟩])))).land.heldRead = some ⟨[(4, 0)], 10⟩ := by decide

/-- R8: a select presented while RESET_N is low arrives at its release. -/
theorem test_presented_at_release :
    (after (.resetNRelease 0#4) (after (.hostWriteArrival 1 [⟨15#4, 5#32⟩]) State.reset)).host
      = .waiting ⟨true, 1, [⟨15#4, 5#32⟩]⟩ := by decide

/-- A host read and a device request wait. -/
def contested : State :=
  { on with host := .waiting ⟨false, 0, [⟨15#4, 0#32⟩]⟩
            reqs := { on.reqs with command := some ⟨.respWord, true, 0x1000010, [⟨15#4, 1#32⟩]⟩ } }

/-- R11: the first contested grant goes to the host, the next to the device. -/
theorem test_grant_host_first : (after .memoryGrant contested).port.lastSide = .host := by decide

theorem test_grant_alternates :
    (after .memoryGrant (after (.hostAccessEnd .ok) (after .memoryGrant contested))).port.lastSide = .device := by decide

/-- R1, R9, R85: the enabled lanes of a write reach memory; the record is in HANDOFF (R7). -/
theorem test_write_end :
    let t := after (.hostAccessEnd .ok) { on with
      host := .transfer ⟨true, 0x10, [⟨0b0110#4, 0x11223344#32⟩]⟩, port := { on.port with granted := some .host } }
    memRead t.mem 0x40 = 0#8 ∧ memRead t.mem 0x41 = 0x33#8 ∧ t.host = .handoff ⟨0x40, [⟨0x40, 0b0110#4, 0x11223344#32⟩], true⟩
    := by decide

/-- R14: words that memory did not answer read as 0. -/
theorem test_timeout_read :
    (after (.memoryResponseTimeout [] [7#32]) { on with
      host := .transfer ⟨false, 0x10, [⟨15#4, 0#32⟩, ⟨15#4, 0#32⟩]⟩
      port := { on.port with granted := some .host, timer := some 0 } }).answer = some ⟨false, [7#32, 0#32], false⟩ := by
  decide

/-- R15, R28: a response write that never ends ends with FAULT. -/
theorem test_timeout_device :
    (after (.memoryResponseTimeout [] []) { running 1 (serving .respWord true 0 [] on) with
      port := ⟨some (.device ⟨.respWord, true, 0, []⟩), .device, .command, .link, some 0⟩ }).cmd.executing = none := by
  decide

/-- R62: a word written to the payload of an OPEN slot of a capture channel takes a buffer. -/
theorem test_record_captures :
    let t := after .completedWriteRecord (offering [⟨0x1010, 15#4, 0x44332211#32⟩] (loaded [slot .open none 0] []))
    (t.cap.slot? 3 0).map (·.state) = some .filling ∧ t.cap.bufs[(0 : Buf)].bytes = [(4, 0x11#8), (5, 0x22#8), (6, 0x33#8), (7, 0x44#8)]
    := by decide

/-- R56, R57: a commit of length 4 at the commit cursor. -/
theorem test_record_commits :
    (after .completedWriteRecord (offering [⟨0x1000, 15#4, 0x80000004#32⟩]
      (loaded [slot .open none 0, slot .open none 0] []))).cap.rings[(3 : Chan)].slots.map (·.state) = [.committed, .open] := by
  decide

theorem test_argument_word : (after .argumentWordWrite (offering [⟨0x1000008, 0b0011#4, 0xAABBCCDD#32⟩] on)).wm.arg2
    = 0xCCDD#32 := by decide

/-- R168, R175: the consumer index reaches the producer index, and the line falls. -/
theorem test_consumer_lowers_line :
    let s := events on
    (after .consumerIndexWrite (offering [control 0x20 3#32] { s with
      intOut := true, wm := { s.wm with intEnable := 1#32 }, ev := { s.ev with producer := 3 } })).intOut = false := by decide

theorem test_enable_raises_line :
    let s := events on
    (after .interruptControlWrite (offering [control 0x24 1#32] { s with ev := { s.ev with producer := 3 } })).intOut = true := by
  decide

/-- R23, R26, R31: ECHO with tag 0x12. -/
theorem test_echo :
    (after .echo (offering [control 0 0x00001201#32] on)).cmd.executing
      = some ⟨⟨1#8, 0x12#8, 0, 0#32, 0#32, 0#32⟩, .detail .done 0x04160001#32⟩ := by decide

/-- R33: the record of channel 2 is at the anchor plus 0x140. -/
theorem test_load_reads :
    ((after .loadChannel (offering [control 0 0x00020002#32] on)).reqs.channelRecord).map (·.addr) = some 0x1000140 := by
  decide

/-- R40: STOP_CHANNEL of a channel that is OFF. -/
theorem test_stop_idle : (after .stopChannel (offering [control 0 0x00020003#32] on)).cmd.executing.map (·.phase)
    = some (.detail .channelIdle 0#32) := by decide

/-- R78: a committed slot is completed STOPPED, a filling one is OPEN. -/
theorem test_stop_outbound :
    (after .stopChannel (offering [control 0 0x00030003#32]
      (loaded [slot .committed none 4, slot .filling none 0, slot .inFlight none 4] []))).cap.rings[(3 : Chan)].slots.map (·.state)
      = [.completing, .open, .inFlight] := by decide

theorem test_link_enable_reads :
    ((after .linkEnable (offering [control 0 4#32] on)).reqs.linkRecord).map (·.addr) = some 0x1000300 := by decide

/-- R94, R101: LINK_DISABLE in UP waits for four acknowledgements in OFF. -/
theorem test_link_disable :
    let t := after .linkDisable (offering [control 0 5#32] (up on))
    t.link.state = .off ∧ t.link.acks = 4 ∧ t.cmd.executing.map (·.phase) = some .running := by decide

/-- R173: check 2, a ring of 15 records. -/
theorem test_events_start_refused :
    (after .eventsStart (offering [control 0 6#32] { on with wm := { on.wm with arg1 := 0x4000#32, arg2 := 15#32 } })).cmd.executing.map
      (·.phase) = some (.detail .badParameter 2#32) := by decide

theorem test_events_start :
    (after .eventsStart (offering [control 0 6#32] { on with wm := { on.wm with arg1 := 0x4000#32, arg2 := 16#32 } })).ev.ringCfg
      = some ⟨0x4000, 16⟩ := by decide

theorem test_events_stop : (after .eventsStop (offering [control 0 7#32] (events on))).ev.run = .stopped := by decide

/-- R179: the first burst goes to the anchor plus 0x400. -/
theorem test_snapshot : ((after .snapshot (offering [control 0 8#32] on)).reqs.event).map (·.addr) = some 0x1000400 := by
  decide

theorem test_bad_command : (after .badCommand (offering [control 0 9#32] on)).cmd.executing.map (·.phase)
    = some (.detail .badCommand 0#32) := by decide

/-- R27: result DONE is 1, ECHO is 1, tag 9, channel 3. -/
theorem test_response_word :
    let s := { on with cmd := ⟨some ⟨⟨1#8, 9#8, 3, 0#32, 0#32, 0#32⟩, .detail .done 5#32⟩, none⟩ }
    ((after (.responseDetailWriteEnd .ok) (serving .respDetail true 0 [] s)).reqs.command).map (·.words)
      = some [⟨15#4, 0x03010901#32⟩] := by decide

theorem test_response_ends :
    (after (.responseWordWriteEnd .ok) (serving .respWord true 0 [] (running 1 on))).cmd = ⟨none, none⟩ := by decide

/-- Memory with one word written. -/
def word (a : Nat) (w : Word) (s : State) : State := { s with mem := memWriteWord s.mem a 15#4 w }

/-- R33, R38, R141: an INBOUND record, guard limit 10, two posted of four slots of 64 bytes at 0x2000. -/
theorem test_load_inbound :
    let s := word 0x1000140 0x00040002#32 (word 0x1000144 0x2000#32 (word 0x100014C 0x0002000A#32 (running 2 on)))
    let t := after (.channelRecordReadEnd .ok)
      (serving (.channelRecord 2) false 0x1000140 (List.replicate 8 ⟨15#4, 0#32⟩) s)
    t.wm.chans[(2 : Chan)] = ⟨.active inCfg, 1#8⟩ ∧ t.land.rings[(2 : Chan)].landCursor = 0
      ∧ t.land.rings[(2 : Chan)].releaseCursor = 2 := by decide

/-- R93: retry limit 3, ack delay 10, sync timeout 1 ms, ack timeout 100, credit refresh 500. -/
theorem test_link_record :
    let s := word 0x1000300 0x00010A03#32 (word 0x1000304 0x01F40064#32 (running 4 on))
    let t := after (.linkRecordReadEnd .ok) (serving .linkRecord false 0x1000300 (List.replicate 8 ⟨15#4, 0#32⟩) s)
    t.link.state = .down ∧ t.link.params = some ⟨3, 10, 1, 100, 500⟩ := by decide

/-- R64, R65: a frame of length 4 with no captured byte needs words 3 and 4, one burst of 8 words. -/
theorem test_staging_begins :
    ((after (.stagingBegin 3) (credited (loaded [slot .committed none 4] []))).reqs.captureRead).map (fun r => (r.addr, r.words.length))
      = some (0x1000, 8) := by decide

/-- A staging read of channel 3's slot 0 into buffer 0 is granted. -/
def staging : State :=
  let s := withBuf 0 ⟨.loading, some .staging, some (3, 0), []⟩ (credited (loaded [slot .staging (some 0) 4] []))
  serving (.staging 0) false 0x1000 (List.replicate 8 ⟨15#4, 0#32⟩)
    { s with cap := { s.cap with jobs := [⟨false, 3, 0, 4, 0, [⟨0, 8⟩], none⟩] } }

theorem test_staging_ends :
    let t := after (.stagingReadEnd .ok) (word 0x1010 0x44332211#32 staging)
    (t.cap.slot? 3 0).map (·.state) = some .ready ∧ t.cap.bufs[(0 : Buf)].payload 4 = [0x11#8, 0x22#8, 0x33#8, 0x44#8] := by
  decide

/-- R67: the slot is completed MEMORY_FAULT, and the cursor moves on. -/
theorem test_staging_faults :
    let t := after (.stagingReadEnd (.fault [] [])) staging
    ((t.cap.slot? 3 0).bind (·.done)).map (·.status) = some .memoryFault := by decide

/-- A refetch claim for channel 3's slot 0 waits. -/
def claiming : State :=
  let s := loaded [slot .inFlight none 4] []
  { s with cap := { s.cap with refetch := some ⟨3, 0, 4, none⟩ } }

theorem test_refetch_granted : (after .refetchClaimGranted claiming).cap.bufs[(0 : Buf)].purpose = some .refetch := by decide

theorem test_refetch_ends :
    let s := after .memoryGrant (after .refetchClaimGranted claiming)
    (after (.refetchReadEnd .ok) s).cap.bufs[(0 : Buf)].state = .ready := by decide

/-- The write-back of a completed slot is at a phase. -/
def writingBack (p : WbPhase) (st : Status) : State :=
  let s := loaded [⟨.completing, none, 4, true, some ⟨st, 77#32, some ⟨5#12, 2#8, 1⟩⟩⟩] []
  { s with cap := { s.cap with wbQueue := [(3, 0)], wbPhase := p } }

/-- R76: length 4, notify 1, status DELIVERED. -/
theorem test_writeback_header :
    ((after (.writebackHeaderBurstEnd .ok) (serving .wbHeader true 0x1000 [] (writingBack .header .delivered))).reqs.captureRecord).map
      (·.words) = some [⟨15#4, 0x00018004#32⟩] := by decide

theorem test_writeback_word0 :
    let t := after (.writebackWord0End .ok) (serving .wbWord0 true 0x1000 [] (writingBack .word0 .delivered))
    (t.cap.slot? 3 0).map (·.state) = some .open ∧ t.ev.counters.chans[(3 : Chan)].delivered = 1#32 := by decide

/-- R96: local epoch 1, heard 7. -/
theorem test_send_init :
    let s := up on
    ((after .sendInit { s with link := { s.link with initRequest := true } }).tx.sending).map (fun x => x.words.head?)
      = some (some 0x00070115#32) := by decide

/-- R125: disposed-through 3, no refusal. -/
theorem test_send_ack :
    let s := up on
    ((after .sendAck { s with tx := { s.tx with queue := [.ack] }, land := { s.land with disposed := some 3#12 } }).tx.sending).map
      (fun x => x.words.head?) = some (some 0x01003002#32) := by decide

theorem test_send_nak :
    let s := up on
    let t := after .sendNak { s with tx := { s.tx with queue := [.nak] }, land := { s.land with expected := 9#12 } }
    t.tx.sending.map (fun x => x.words.head?) = some (some 0x9003#32) ∧ t.ev.counters.naksSent = 1#32 := by decide

/-- R83: the frame's link words go on the lane, an idle word after them. -/
theorem test_lane_frame :
    let s := up on
    let t := after .sendNak { s with tx := { s.tx with queue := [.nak] }, land := { s.land with expected := 9#12 } }
    t.laneOut.take 2 = [some .startMark, some (.data 0x9003#32)] ∧ t.laneOut.drop 3 = [some .endMark, some .idle] := by
  decide

/-- R130: channel 4, OPEN, generation 1, posted total 2. -/
theorem test_send_credit :
    let s := up (loaded [] [])
    ((after .sendCredit { s with tx := { s.tx with queue := [.credit 4] } }).tx.sending).map (fun x => x.words.take 2)
      = some [0x00010144#32, 2#32] := by decide

/-- Channel 3's slot 0 is READY in buffer 0. -/
def readyToSend : State :=
  up (withBuf 0 ⟨.ready, some .staging, some (3, 0), [(0, 9#8), (1, 0#8), (2, 0#8), (3, 0#8), (4, 0xAB#8)]⟩
    (credited (loaded [slot .ready (some 0) 1, slot .open none 0] [])))

/-- R85, R107: DATA to destination 5 with sequence 0 and length 1. -/
theorem test_first_send :
    let t := after .firstSend readyToSend
    t.tx.sending.map (fun x => x.words.take 3) = some [0x00100051#32, 9#32, 0xAB#32]
      ∧ t.tx.replay = [⟨0#12, 3, 0, 1, 1, none⟩] ∧ t.cred.send[(5 : Chan)].sent = 1#16 := by decide

/-- A replay pass rests on the sent frame of channel 3, refetched in buffer 0. -/
def resending : State :=
  let s := up (withBuf 0 ⟨.ready, some .refetch, some (3, 0), [(0, 9#8)]⟩ (loaded [slot .inFlight (some 0) 1] []))
  { s with cap := { s.cap with refetch := some ⟨3, 0, 1, some 0⟩ }
           tx := { s.tx with replay := [⟨7#12, 3, 0, 1, 1, none⟩], nextSeq := 8#12, pass := some ⟨7#12, false⟩
                             refetch := some 7#12, ackTimer := some 100 } }

theorem test_resend :
    let t := after .resend resending
    t.tx.replay.map (·.sends) = [2] ∧ t.tx.pass = none ∧ t.cap.bufs[(0 : Buf)].state = .sending := by decide

/-- R83, R101: an abandoned frame stops in favour of idle words, and of silence in OFF. -/
theorem test_lane_abandoned :
    let s := after .firstSend readyToSend
    (linkReset .lockLost s).laneOut = [some .idle] ∧ (linkReset .linkDisable s).laneOut = [none] := by decide

theorem test_send_end : (after (.frameSendEnd .whole) (after .firstSend readyToSend)).cap.bufs[(0 : Buf)].state = .free := by
  decide

/-- The frame of `readyToSend` has been sent. -/
def sent : State := after (.frameSendEnd .whole) (after .firstSend readyToSend)

/-- R111: the slot is completed DELIVERED. -/
theorem test_ack_received :
    let t := received .ackReceived (.ack (some 0#12) []) sent
    ((t.cap.slot? 3 0).bind (·.done)).map (·.status) = some .delivered ∧ t.tx.replay = [] := by decide

/-- R90: an ACK that has been handed over and not taken is discarded at the notice of a link reset, uncounted. -/
theorem test_ack_discarded :
    let s := after (.ackReceived (.handed (laneOf (.ack (some 9#12) [])))) (up on)
    let t := after .transmitLinkReset (linkReset .lockLost s)
    s.tx.inbox = [.ack (some 9#12) []] ∧ t.tx.inbox = [] ∧ t.ev.counters.staleFrames = 0#32 := by decide

/-- R112: a pass starts, and a refetch is asked for. -/
theorem test_nak_received :
    let t := received .nakReceived (.nak 0#12) sent
    t.tx.pass = some ⟨0#12, false⟩ ∧ t.cap.refetch = some ⟨3, 0, 1, none⟩ := by decide

theorem test_ack_timer :
    (after .ackTimerExpiry { sent with tx := { sent.tx with ackTimer := some 0 } }).ev.counters.ackTimeouts = 1#32 := by decide

theorem test_init_timer :
    (after .initTimerExpiry { on with link := { on.link with state := .sync, initTimer := some 0 } }).link.initRequest = true := by
  decide

/-- R84, R95: eight good words find lock; the first epoch is 1. -/
theorem test_lock_acquired :
    let t := after (.lockAcquired (List.replicate 8 .idle)) { on with link := { on.link with state := .down } }
    t.link.state = .sync ∧ t.link.localEpoch = 1#8 := by decide

theorem test_lock_lost : (after (.lockLost (List.replicate 4 .violation)) (up on)).link.lastCause = .lockLost := by decide

/-- R88, R121: a DATA frame with a wrong CRC asks for a NAK. -/
theorem test_damaged_frame :
    let t := after (.damagedFrame [.startMark, .data 1#32, .data 0#32, .endMark]) (up on)
    t.ev.counters.crcErrors = 1#32 ∧ t.tx.queue = [.nak] := by decide

theorem test_init_received :
    (after (.initReceived (laneOf (.init 4#8 (some 2#8)))) { on with link := { on.link with
      state := .sync, localEpoch := 2, rx := ⟨true, 0, none⟩ } }).link.state = .up := by decide

theorem test_sync_timer :
    (after .syncTimerExpiry { on with link := { on.link with state := .sync, syncTimer := some 0 } }).link.lastCause = .syncTimeout := by
  decide

theorem test_status_again :
    let s := serving .linkStatus true 0x100002C [] (up on)
    ((after (.linkStatusWriteEnd .ok) { s with link := { s.link with statusAgain := true } }).reqs.linkStatus).isSome = true := by
  decide

/-- The sent frame's link has been reset. -/
def resetOnce : State := linkReset .lockLost sent

/-- R126: the replay entry's slot is completed LINK_LOST. -/
theorem test_transmit_reset :
    ((((after .transmitLinkReset resetOnce).cap.slot? 3 0).bind (·.done)).map (·.status)) = some .linkLost := by decide

/-- R81: a READY slot is COMMITTED again. -/
theorem test_capture_reset :
    ((after .captureLinkReset (linkReset .lockLost readyToSend)).cap.slot? 3 0).map (·.state) = some .committed := by decide

/-- R54, R81: with the peer's record still CLOSED the slot is COMMITTED, and the cursor stays. -/
theorem test_capture_reset_closed :
    let s := { readyToSend with cred := { readyToSend.cred with send := readyToSend.cred.send.set 5 ⟨0, some 2, some 1, .closed⟩ } }
    let t := after .captureLinkReset (linkReset .lockLost s)
    (t.cap.slot? 3 0).map (·.state) = some .committed ∧ t.cap.rings[(3 : Chan)].transmitCursor = 0 := by decide

/-- R160: a landing that has not begun is discarded, and its slot POSTED again. -/
theorem test_landing_reset :
    let s := received .dataReceived (.data 4 0#12 9#32 [0xAB#8]) (up (loaded [] [⟨.posted, false⟩, ⟨.posted, false⟩]))
    ((after .landingLinkReset (linkReset .lockLost s)).land.slot? 4 0).map (·.state) = some .posted := by decide

theorem test_credit_reset :
    (after .creditLinkReset (linkReset .lockLost (up (loaded [] [])))).cred.recv[(4 : Chan)].posted = .unknown := by decide

/-- R145, R147, R148: the frame lands in slot 0; its first burst is one word at slot offset 16. -/
theorem test_data_received :
    let t := received .dataReceived (.data 4 0#12 9#32 [0xAB#8]) (up (loaded [] [⟨.posted, false⟩, ⟨.posted, false⟩]))
    (t.land.slot? 4 0).map (·.state) = some .landing ∧ t.reqs.landing = some ⟨.landPayload, true, 0x2010, [⟨1#4, 0xAB#32⟩]⟩ := by
  decide

/-- R145: no slot POSTED is a credit violation and a refusal. -/
theorem test_data_refused :
    let t := received .dataReceived (.data 4 0#12 9#32 [0xAB#8]) (up (loaded [] [⟨.host, false⟩, ⟨.host, false⟩]))
    t.ev.counters.creditViolations = 1#32 ∧ t.land.refusals = [⟨0#12, 4, .noSlot⟩] := by decide

/-- A landing into channel 4's slot 0 is at the head, in a phase. -/
def landing (p : LandPhase) (f : Bool) : State :=
  let s := up (loaded [] [⟨.landing, true⟩, ⟨.posted, false⟩])
  { s with land := { s.land with expected := 1, queue := [⟨0#12, 1#8, 4, 1, .landing ⟨0, 9#32, [0xAB#8], p, f, false, true⟩⟩] } }

/-- R149: header word 1 holds sequence 0 and epoch 1, word 2 the Timebase, word 3 the user word. -/
theorem test_landing_payload :
    ((after (.landingPayloadWriteEnd .ok) (serving .landPayload true 0x2010 [] (landing (.payload [⟨4, 1⟩]) false))).reqs.landing).map
      (·.words) = some [⟨0#4, 0#32⟩, ⟨15#4, 0x00010000#32⟩, ⟨15#4, 0#32⟩, ⟨15#4, 9#32⟩] := by decide

theorem test_landing_header :
    ((after (.landingHeaderWriteEnd .ok) (serving .landHeader true 0x2000 [] (landing .header false))).reqs.landing).map
      (·.words) = some [⟨15#4, 0x00018001#32⟩] := by decide

theorem test_landing_word0 :
    let t := after (.landingWord0WriteEnd .ok) (serving .landWord0 true 0x2000 [] (landing .control false))
    (t.land.slot? 4 0).map (·.state) = some .host ∧ t.land.disposed = some 0#12 ∧ t.land.batch = 1 := by decide

theorem test_landing_fault :
    (after (.landingWord0WriteEnd (.fault [] [])) (serving .landWord0 true 0x2000 [] (landing .control false))).land.refusals
      = [⟨0#12, 4, .landingFault⟩] := by decide

/-- R150, R176: a refusal disposed of while the link is not UP is counted, and not listed. -/
theorem test_refusal_counted_when_down :
    let t := dispose ⟨0#12, 1#8, 4, 1, .refusal .noSlot⟩ (some .noSlot) on
    t.ev.counters.chans[(4 : Chan)].refusals = 1#32 ∧ t.land.refusals = [] ∧ t.land.disposed = none := by decide

theorem test_ack_delay :
    let s := up on
    (after .ackDelayExpiry { s with land := { s.land with ackDelay := some 0 } }).tx.queue = [.ack] := by decide

/-- A read of channel 4's slot 0 is held, its guard timer due. -/
def heldDue : State :=
  let s := loaded [] [⟨.landing, false⟩]
  { s with host := .held ⟨false, 0x800, [⟨15#4, 0#32⟩]⟩, land := { s.land with heldRead := some ⟨[(4, 0)], 0⟩ } }

theorem test_guard_timer :
    let t := after .guardTimerExpiry heldDue
    t.host = .waiting ⟨false, 0x800, [⟨15#4, 0#32⟩]⟩ ∧ t.ev.counters.tornReads = 1#32 := by decide

/-- R135: the first CREDIT of generation 1 with total 2. -/
theorem test_credit_received :
    (received .creditReceived (.credit 5 true 1#8 2#16) (up on)).cred.send[(5 : Chan)]
      = ⟨0#16, some 2#16, some 1#8, .open⟩ := by decide

/-- R135: a total more than 32767 ahead is ignored and counted. -/
theorem test_credit_refused :
    let t := received .creditReceived (.credit 5 true 1#8 32768#16) (up on)
    t.cred.send[(5 : Chan)].generation = none ∧ t.ev.counters.staleFrames = 1#32 := by decide

theorem test_refresh :
    let s := up (loaded [] [])
    (after .refreshTimerExpiry { s with cred := { s.cred with refresh := some 0 } }).tx.queue = [.credit 4] := by decide

/-- An event waits at the head of the queue, its ring write granted. -/
def eventWriting (k : RingKind) : State :=
  let s := serving (.ring k) true 0x4000 [] (events on)
  { s with ev := { s.ev with queue := [⟨.linkUp, 0, 1#32, 0#32, 5#32⟩], ring := some ⟨k, 0x4000, []⟩, lostCount := 2#32 } }

/-- R169: the producer write of index 1 follows the record. -/
theorem test_event_record :
    ((after (.eventRecordWriteEnd .ok) (eventWriting .event)).reqs.event).map (fun r => (r.addr, r.words))
      = some (0x1000028, [⟨15#4, 1#32⟩]) := by decide

theorem test_events_lost : (after (.eventsLostWriteEnd .ok) (eventWriting (.lost 2#32))).ev.lostCount = 0#32 := by decide

theorem test_events_lost_fault :
    (after (.eventsLostWriteEnd (.fault [] [])) (eventWriting (.lost 2#32))).ev.lostHold = true := by decide

theorem test_producer_write :
    let s := eventWriting .producer
    let t := after (.producerWriteEnd .ok) { s with wm := { s.wm with intEnable := 1#32 } }
    t.ev.producer = 1 ∧ t.intOut = true := by decide

theorem test_start_producer :
    (after (.startProducerWriteEnd .ok) (running 6 (eventWriting .start))).cmd.executing.map (·.phase) = some (.detail .done 0#32) := by
  decide

/-- R180: the tenth burst ends SNAPSHOT with the image time. -/
theorem test_snapshot_ends :
    let s := running 8 (serving .snapshot true 0x1000520 [] on)
    (after (.snapshotBurstEnd .ok) { s with ev := { s.ev with snap := some ⟨Counters.zero, 99#32, 9, none⟩ } }).cmd.executing.map
      (·.phase) = some (.detail .done 99#32) := by decide

/-! ### States for the witnesses -/

/-- A write of eight words that wraps at the top of the memory space is in TRANSFER. -/
def hostWriting : State :=
  { on with host := .transfer ⟨true, 0x3FFFFFF, List.replicate 8 ⟨15#4, 5#32⟩⟩, port := { on.port with granted := some .host } }

/-- A read of the same words is in TRANSFER. -/
def hostReading : State :=
  { on with host := .transfer ⟨false, 0x3FFFFFF, List.replicate 8 ⟨15#4, 5#32⟩⟩, port := { on.port with granted := some .host } }

/-- A command executes and another waits. -/
def twoCommands : State :=
  { running 1 on with cmd := { (running 1 on).cmd with waiting := some ⟨1#8, 8#8, 3, 0#32, 0#32, 0#32⟩ } }

/-- A command is in phase DETAIL. -/
def detailing : State := { on with cmd := ⟨some ⟨⟨1#8, 9#8, 3, 0#32, 0#32, 0#32⟩, .detail .done 5#32⟩, none⟩ }

/-- The command word `w` starts its command in `s`. -/
def startedBy (w : Word) (s : State) : Prop :=
  State.starts (offering [control 0 w] s) ⟨0, [control 0 w], true⟩ w (commandOf w s.wm)
    { s with host := .idle, cmd := ⟨some ⟨commandOf w s.wm, .running⟩, none⟩ }

/-- Arguments of EVENTS_START. -/
def args (a n : Nat) : State :=
  { on with wm := { on.wm with arg1 := BitVec.ofNat 32 a, arg2 := BitVec.ofNat 32 n } }

/-- Arguments of EVENTS_START whose ring meets channel 4. -/
def argsMeeting : State :=
  let s := loaded [] []
  { s with wm := { s.wm with arg1 := 0x1F00#32, arg2 := 1024#32 } }

/-- Direction, size code and count of a record's first word. -/
def numbers (w : Word) : Nat × Nat × Nat := (w.toNat % 4, w.toNat / 2 ^ 8 % 8, w.toNat / 2 ^ 16 % 512)

/-- The record of `test_load_inbound` is being read. -/
def recordRead : State :=
  serving (.channelRecord 2) false 0x1000140 (List.replicate 8 ⟨15#4, 0#32⟩)
    (word 0x1000140 0x00040002#32 (word 0x1000144 0x2000#32 (word 0x100014C 0x0002000A#32 (running 2 on))))

/-- Two host-owned slots and a device-owned one. -/
def openSlots : State := loaded [slot .open none 0, slot .open none 0, slot .held none 4] []

/-- The channel of `openSlots` STOPPING, with open slots only. -/
def stoppingSlots : State :=
  let s := loaded [slot .open none 0] []
  { s with wm := { s.wm with chans := s.wm.chans.set 3 ⟨.stopping outCfg, 0⟩ } }

/-- Inbound slots: one of the host, one posted. -/
def inSlots : State := up (loaded [] [⟨.host, true⟩, ⟨.posted, false⟩])

/-- Two posted slots and `n` refusals in the landing queue. -/
def postedSlots (n : Nat) : State :=
  let s := up (loaded [] [⟨.posted, false⟩, ⟨.posted, false⟩])
  { s with land := { s.land with queue := List.replicate n ⟨0#12, 1#8, 4, 1, .refusal .noSlot⟩ } }

/-- Every buffer has a state and a purpose, but the first `n` are FREE. -/
def pool (n : Nat) (st : BufState) (p : BufPurpose) (s : State) : State :=
  { s with cap := { s.cap with bufs := tabulate (fun b => if b.val < n then Buffer.free else ⟨st, some p, none, []⟩) } }

/-- Fourteen buffers are bound for capture. -/
def poolBound : State := pool 2 .frozen .capture openSlots

/-- No buffer is FREE. -/
def poolFull : State := pool 0 .ready .staging openSlots

/-- Slot 0 of channel 3 is FILLING in buffer 0. -/
def filling : State := withBuf 0 ⟨.capturing, some .capture, some (3, 0), []⟩ (loaded [slot .filling (some 0) 0] [])

/-- A committed slot that may be staged. -/
def stageable : State := credited (loaded [slot .committed none 4] [])

/-- The same with one FREE buffer. -/
def stageableFull : State := pool 1 .ready .staging stageable

/-- A committed slot with its own frozen buffer. -/
def frozenSlot : State := withBuf 0 ⟨.frozen, some .capture, some (3, 0), []⟩ (credited (loaded [slot .committed (some 0) 4] []))

/-- The first of two refetch reads of channel 3's slot 0 into buffer 0 is granted. -/
def refetching : State :=
  let s := withBuf 0 ⟨.loading, some .refetch, some (3, 0), []⟩ (up (loaded [slot .inFlight (some 0) 4] []))
  serving (.refetch 0) false 0x1000 (List.replicate 8 ⟨15#4, 0#32⟩)
    { s with cap := { s.cap with jobs := [⟨true, 3, 0, 4, 0, [⟨0, 8⟩, ⟨8, 1⟩], none⟩], refetch := some ⟨3, 0, 4, some 0⟩ } }

/-- The job of `staging` has been ended while its read is granted. -/
def dropping (d : Drop) : State :=
  { staging with cap := { staging.cap with jobs := [⟨false, 3, 0, 4, 0, [⟨0, 8⟩], some d⟩] } }

/-- A refetch claim waits, no buffer is FREE, and channel 3 has a READY staging buffer. -/
def reclaiming : State :=
  let s := withBuf 0 ⟨.ready, some .staging, some (3, 0), []⟩
    (pool 0 .ready .capture (loaded [slot .ready (some 0) 4, slot .inFlight none 4] []))
  { s with cap := { s.cap with refetch := some ⟨3, 1, 4, none⟩ } }

/-- A refetch claim waits, no buffer is FREE, and none can be reclaimed. -/
def claimingFull : State := pool 0 .sending .staging claiming

/-- One acknowledgement is outstanding in DOWN, with lock held. -/
def lastAck : State := { on with link := { on.link with state := .down, acks := 1, rx := ⟨true, 0, none⟩ } }

/-- DOWN, out of lock. -/
def down : State := { on with link := { on.link with state := .down } }

/-- SYNC with a local epoch. -/
def sync (e : Epoch) : State := { on with link := { on.link with state := .sync, localEpoch := e, rx := ⟨true, 0, none⟩ } }

/-- The INIT request is pending in UP. -/
def initPending (s : State) : State :=
  { up s with link := { (up s).link with initRequest := true } }

/-- One control frame request is queued in UP. -/
def queued (r : CtlReq) : State := { up on with tx := { on.tx with queue := [r] } }

/-- `resending` with a second entry at its last send. -/
def resendingTwo : State :=
  { resending with tx := { resending.tx with replay := resending.tx.replay ++ [⟨8#12, 3, 1, 1, 4, none⟩] } }

/-- The pass of `resendingTwo` rests on the second entry. -/
def passAtSecond : State := { resendingTwo with tx := { resendingTwo.tx with pass := some ⟨8#12, false⟩ } }

/-- A record write waits ungranted, and the consumer index has left no room for it. -/
def roomless : State :=
  { events on with
    wm := { (events on).wm with consumer := 3#32 }
    ev := { (events on).ev with producer := 2, ring := some ⟨.event, 0x4020, []⟩ } }

/-- Channel 3's peer is CLOSED, its two slots in the given states. -/
def closing (a b : OutState) : State :=
  let s := loaded [slot a none 4, slot b none 4] []
  { s with cred := { s.cred with send := s.cred.send.set 5 ⟨0, some 2, some 1, .closed⟩ } }

/-- A frame has been handed to the Transmit Engine. -/
def holding (a : TxArrival) (s : State) : State := { s with tx := { s.tx with inbox := [a] } }

/-- A DATA frame has been handed to the Landing Engine. -/
def handedData (s : State) : State := { s with land := { s.land with inbox := [.data 4 0#12 9#32 [0xAB#8]] } }

/-- Channel 4 STOPPING with one slot in the given state. -/
def stoppingIn (st : InState) : State :=
  let s := loaded [] [⟨st, false⟩]
  { s with wm := { s.wm with chans := s.wm.chans.set 4 ⟨.stopping inCfg, 1⟩ } }

/-- The host presents an access that the Host Port has not taken. -/
def presenting (a : HostAccess) (s : State) : State := { s with presented := some a }

/-- An EVENTS_LOST record is requested in RUNNING and not yet granted, with no queued event. -/
def lostWaiting : State :=
  { events on with
    ev := { (events on).ev with ring := some ⟨.lost 2#32, 0x4000, []⟩, lostCount := 2#32 }
    reqs := { on.reqs with event := some ⟨.ring (.lost 2#32), true, 0x4000, []⟩ } }

/-- An abandoned send waits to be reported. -/
def abandoning (b : Option Buf) : State := { on with tx := { on.tx with abandoned := [⟨[], b⟩] } }

/-! ### Witnesses: states and operands that meet the hypotheses of the statements -/

theorem witness_StepTakesFront :
    ({ on with pending := [.memoryGrant, .echo] } : State).pending = .memoryGrant :: [.echo]
    ∧ on.pending = [] := by
  decide

theorem witness_IdleMicrosecond :
    on.pending = []
    ∧ State.reset.resetLow = true
    ∧ anyTimerDue { on with link := { on.link with initTimer := some 0 } } = true
    ∧ on.on
    ∧ anyTimerDue on = false := by
  unfold State.on
  decide

theorem witness_ResetValues :
    (serving .respWord true 0x40 [⟨15#4, 1#32⟩] on).writeInHand = some (0x40, [⟨15#4, 1#32⟩])
    ∧ hostWriting.writeInHand = some (0xFFFFFFC, List.replicate 8 ⟨15#4, 5#32⟩)
    ∧ on.writeInHand = none := by
  decide

theorem witness_AnchorFromStraps :
    State.reset.resetLow = true
    ∧ on.on
    ∧ (∀ kept, Instr.memoryGrant ≠ .pinReset kept)
    ∧ (∀ straps, Instr.memoryGrant ≠ .resetNRelease straps)
    ∧ (∃ t, exec .memoryGrant on = .next t) := ⟨rfl, rfl, nofun, nofun, _, rfl⟩

theorem witness_LowAndStops :
    State.reset.resetLow = true
    ∧ Instr.memoryGrant.wf = true
    ∧ (∀ kept, Instr.memoryGrant ≠ .pinReset kept)
    ∧ (∀ straps, Instr.memoryGrant ≠ .resetNRelease straps)
    ∧ (∀ a es, Instr.memoryGrant ≠ .hostReadArrival a es)
    ∧ (∀ a ws, Instr.memoryGrant ≠ .hostWriteArrival a ws)
    ∧ (Instr.hostWriteArrival 0 [⟨15#4, 0#32⟩]).wf = true
    ∧ (∀ kept, Instr.hostWriteArrival 0 [⟨15#4, 0#32⟩] ≠ .pinReset kept)
    ∧ (∀ straps, Instr.hostWriteArrival 0 [⟨15#4, 0#32⟩] ≠ .resetNRelease straps)
    ∧ burstLengthOk 3 = false
    ∧ burstLengthOk 16 = false := ⟨rfl, rfl, nofun, nofun, nofun, nofun, rfl, nofun, nofun, rfl, rfl⟩

theorem witness_HostArrivals :
    on.on
    ∧ burstLengthOk 1 = true
    ∧ burstLengthOk 8 = true
    ∧ on.host = .idle
    ∧ contested.host ≠ .idle
    ∧ guardVerdict (recordWords 0 [⟨15#4, 0#32⟩]) on = none
    ∧ guardVerdict (recordWords 0x203C (List.replicate 2 ⟨15#4, 0#32⟩)) (loaded [] [⟨.landing, false⟩, ⟨.landing, true⟩]) = some ⟨[(4, 0), (4, 1)], 10⟩
    ∧ holdingSlot? (loaded [] [⟨.landing, false⟩]) ⟨0x2000, 1#4, 0#32⟩ = some ((4, 0), 10)
    ∧ ¬ (contested.on ∧ contested.host = .idle)
    ∧ ¬ (State.reset.on ∧ State.reset.host = .idle)
    ∧ on.presented = none
    ∧ (presenting ⟨true, 0, [⟨15#4, 5#32⟩]⟩ on).host = .idle
    ∧ (presenting ⟨true, 0, [⟨15#4, 5#32⟩]⟩ on).presented = some ⟨true, 0, [⟨15#4, 5#32⟩]⟩
    ∧ guardVerdict (recordWords (HostAccess.start ⟨false, 0x800, [⟨15#4, 0#32⟩]⟩) [⟨15#4, 0#32⟩]) (presenting ⟨false, 0x800, [⟨15#4, 0#32⟩]⟩ (loaded [] [⟨.landing, false⟩])) = some ⟨[(4, 0)], 10⟩
    ∧ recordWords 0x203C (List.replicate 2 ⟨15#4, 0#32⟩) = [⟨0x203C, 15#4, 0#32⟩] ++ [⟨0x2040, 15#4, 0#32⟩]
    ∧ guardVerdict [⟨0x203C, 15#4, 0#32⟩] (loaded [] [⟨.landing, false⟩, ⟨.landing, true⟩]) = some ⟨[(4, 0)], 10⟩ := by
  unfold State.on
  decide

theorem witness_Arbitration :
    on.on
    ∧ (serving .respWord true 0 [] on).port.granted ≠ none
    ∧ contested.port.granted = none
    ∧ on.host.request? = none
    ∧ pickDevice on.reqs .link .link = none
    ∧ contested.host.request? = some ⟨false, 0, [⟨15#4, 0#32⟩]⟩
    ∧ contested.port.lastSide = .device
    ∧ pickDevice contested.reqs .link .link = contested.reqs.command
    ∧ contested.reqs.command ≠ none
    ∧ ({ contested with port := { contested.port with lastSide := .host } } : State).port.lastSide = .host
    ∧ contested.reqs.landing = none
    ∧ contested.reqs.captureRead = none
    ∧ recordOrder .link = [.capture] ++ .command :: [.event, .link]
    ∧ contested.reqs.ofRecordOwner .capture = none
    ∧ (∀ o ∈ [RecordOwner.capture, .command, .event, .link], on.reqs.ofRecordOwner o = none)
    ∧ tableOrder .link = [] ++ .matcher :: [.link]
    ∧ (∀ o ∈ [TableOwner.matcher, .link], on.reqs.ofTableOwner o = none) := by
  unfold State.on
  decide

theorem witness_HostAccessEnds :
    hostWriting.on
    ∧ hostWriting.port.granted = some .host
    ∧ hostWriting.host = .transfer ⟨true, 0x3FFFFFF, List.replicate 8 ⟨15#4, 5#32⟩⟩
    ∧ hostReading.host = .transfer ⟨false, 0x3FFFFFF, List.replicate 8 ⟨15#4, 5#32⟩⟩
    ∧ hostReading.port.granted = some .host := by
  unfold State.on
  decide

theorem witness_MemoryBytes :
    MemoryLaw hostWriting
    ∧ MemoryLaw hostReading
    ∧ (List.replicate 8 (⟨15#4, 5#32⟩ : BusWord)).length ≤ 8
    ∧ (List.replicate 8 (⟨15#4, 5#32⟩ : BusWord))[7]? = some ⟨15#4, 5#32⟩
    ∧ (15#4).getLsbD 3 = true := by
  unfold MemoryLaw
  decide

theorem witness_MemoryBytes_frame : let s := serving .respWord true 0x40 [⟨0b0001#4, 5#32⟩] on
    ∀ w, s.writeInHand = some w → ¬ enabledByte w 0x41 := by
  intro s w h
  obtain rfl : (0x40, [⟨0b0001#4, 5#32⟩]) = w := Option.some.inj h
  rintro ⟨k, hk, j, hj, hb, hx⟩
  obtain rfl := List.mem_singleton.1 hk
  obtain rfl : j = 1 := by simp only at hx; omega
  simp at hb

theorem witness_MemoryResponseLimit :
    on.on
    ∧ on.port.timer ≠ some 0
    ∧ ({ hostWriting with port := { hostWriting.port with timer := some 0 } } : State).port.timer = some 0
    ∧ hostWriting.port.granted = some .host
    ∧ ({ serving .respWord true 0 [] on with port := ⟨some (.device ⟨.respWord, true, 0, []⟩), .device, .command, .link, some 0⟩ } : State).port.timer = some 0 := by
  unfold State.on
  decide

theorem witness_RecordTaken :
    on.on
    ∧ ({ on with host := .handoff ⟨0, [], false⟩ } : State).host = .handoff ⟨0, [], false⟩
    ∧ (offering [control 0xC 1#32] on).offers ⟨0, [control 0xC 1#32], true⟩
    ∧ WriteRecord.writes ControlWord.isArgument on.wm ⟨0, [control 0xC 1#32], true⟩ = true
    ∧ WriteRecord.writes (fun k => decide (k = .consumer)) on.wm ⟨0, [control 0x20 1#32], true⟩ = true
    ∧ WriteRecord.writes (fun k => decide (k = .intEnable)) on.wm ⟨0, [control 0x24 1#32], true⟩ = true
    ∧ WriteRecord.command? ⟨0, [control 0 9#32], true⟩ on.wm = some 9#32
    ∧ WriteRecord.command? ⟨0, [control 0xC 1#32], true⟩ on.wm = none
    ∧ (∀ v ∈ [control 0xC 1#32, ⟨0x1000000, 7#4, 1#32⟩], ¬ (v.addr = on.wm.base ∧ v.be = 15#4))
    ∧ [control 0xC 1#32, control 0 9#32] = [control 0xC 1#32] ++ control 0 9#32 :: []
    ∧ ((control 0 9#32).addr = on.wm.base ∧ (control 0 9#32).be = 15#4) := by
  unfold State.on State.offers
  decide

theorem witness_RecordTaken_idle :
    (∀ r, on.host ≠ .handoff r) := nofun

theorem witness_LatchWrites :
    (offering [control 0x4 1#32] on).offers ⟨0, [control 0x4 1#32], true⟩
    ∧ WriteRecord.command? ⟨0, [control 0x4 1#32], true⟩ on.wm = none
    ∧ (15#4 : BitVec 4) ≠ 0#4
    ∧ (control 0x4 1#32).addr = on.wm.base + 0x4
    ∧ (control 0x8 1#32).addr = on.wm.base + 0x8
    ∧ (control 0xC 1#32).addr = on.wm.base + 0xC
    ∧ (control 0x24 1#32).addr = on.wm.base + 0x24
    ∧ (control 0x20 1#32).addr = on.wm.base + 0x20
    ∧ WriteRecord.command? ⟨0, [control 0 5#32], true⟩ on.wm = some 5#32
    ∧ commandCode 5#32 ≠ 6
    ∧ Instr.memoryGrant ∉ recordRows
    ∧ Instr.responseWordWriteEnd .ok ∉ recordRows
    ∧ roomless.ev.ring = some ⟨.event, 0x4020, []⟩
    ∧ roomless.ev.ringCfg = some ⟨0x4000, 16⟩
    ∧ (roomless.ev.producer + 1) % 16 = roomless.wm.consumer.toNat
    ∧ roomless.port.granted = none
    ∧ on.ev.ring = none
    ∧ (eventWriting .event).port.granted.isSome = true := by
  unfold State.offers
  decide

theorem witness_CommandWaitsOrOverruns :
    (offering [control 0 1#32] (running 1 on)).offers ⟨0, [control 0 1#32], true⟩
    ∧ WriteRecord.command? ⟨0, [control 0 1#32], true⟩ on.wm = some 1#32
    ∧ ((offering [control 0 1#32] (running 1 on)).wordsTaken ⟨0, [control 0 1#32], true⟩).cmd = (running 1 on).cmd
    ∧ (running 1 on).cmd.waiting = none
    ∧ ((offering [control 0 1#32] twoCommands).wordsTaken ⟨0, [control 0 1#32], true⟩).cmd = twoCommands.cmd
    ∧ twoCommands.cmd.waiting ≠ none := by
  unfold State.offers
  decide

theorem witness_EchoAndBadCommand :
    startedBy 0x00001201#32 on
    ∧ startedBy 0x100#32 on
    ∧ startedBy 9#32 on
    ∧ startedBy 255#32 on
    ∧ commandCode 0x00001201#32 = 1
    ∧ commandCode 0x100#32 = 0
    ∧ 8 < commandCode 9#32 := ⟨⟨⟨rfl, rfl, rfl⟩, rfl, rfl, rfl, rfl⟩, ⟨⟨rfl, rfl, rfl⟩, rfl, rfl, rfl, rfl⟩, ⟨⟨rfl, rfl, rfl⟩, rfl, rfl, rfl, rfl⟩, ⟨⟨rfl, rfl, rfl⟩, rfl, rfl, rfl, rfl⟩, by decide⟩

theorem witness_TableCommandsStart :
    startedBy 0x000F0002#32 on
    ∧ startedBy 0x00030002#32 (loaded [] [])
    ∧ startedBy 4#32 on
    ∧ startedBy 4#32 (up on)
    ∧ startedBy 5#32 on
    ∧ startedBy 5#32 (up on)
    ∧ commandCode 0x000F0002#32 = 2
    ∧ on.wm.chans[(15 : Chan)].state = .off
    ∧ (loaded [] []).wm.chans[(3 : Chan)].state ≠ .off
    ∧ on.link.state = .off
    ∧ (up on).link.state ≠ .off := ⟨⟨⟨rfl, rfl, rfl⟩, rfl, rfl, rfl, rfl⟩, ⟨⟨rfl, rfl, rfl⟩, rfl, rfl, rfl, rfl⟩, ⟨⟨rfl, rfl, rfl⟩, rfl, rfl, rfl, rfl⟩, ⟨⟨rfl, rfl, rfl⟩, rfl, rfl, rfl, rfl⟩, ⟨⟨rfl, rfl, rfl⟩, rfl, rfl, rfl, rfl⟩, ⟨⟨rfl, rfl, rfl⟩, rfl, rfl, rfl, rfl⟩, by decide⟩

theorem witness_EventsStartStart :
    startedBy 6#32 (args 0x1 16)
    ∧ startedBy 6#32 (args 0x10000000 16)
    ∧ startedBy 6#32 (args 0x4000 15)
    ∧ startedBy 6#32 (args 0x4000 1025)
    ∧ startedBy 6#32 (args 0xFFFFF10 16)
    ∧ startedBy 6#32 (args 0x1F00 1024)
    ∧ startedBy 6#32 (events on)
    ∧ startedBy 6#32 argsMeeting
    ∧ startedBy 6#32 (args 0xFFFC000 1024)
    ∧ on.ev.run = .stopped
    ∧ (events on).ev.run ≠ .stopped
    ∧ 0xFFFFFFF < 0xFFFFF10 + 16 * 16 - 1
    ∧ rangesMeet 0x1F00 (16 * 1024) inCfg.base inCfg.bytes = true
    ∧ argsMeeting.wm.cfg? 4 = some inCfg
    ∧ ¬ 0xFFFFFFF < 0xFFFC000 + 16 * 1024 - 1
    ∧ (∀ ch, (args 0xFFFC000 1024).wm.cfg? ch = none) := ⟨⟨⟨rfl, rfl, rfl⟩, rfl, rfl, rfl, rfl⟩, ⟨⟨rfl, rfl, rfl⟩, rfl, rfl, rfl, rfl⟩, ⟨⟨rfl, rfl, rfl⟩, rfl, rfl, rfl, rfl⟩, ⟨⟨rfl, rfl, rfl⟩, rfl, rfl, rfl, rfl⟩, ⟨⟨rfl, rfl, rfl⟩, rfl, rfl, rfl, rfl⟩, ⟨⟨rfl, rfl, rfl⟩, rfl, rfl, rfl, rfl⟩, ⟨⟨rfl, rfl, rfl⟩, rfl, rfl, rfl, rfl⟩, ⟨⟨rfl, rfl, rfl⟩, rfl, rfl, rfl, rfl⟩, ⟨⟨rfl, rfl, rfl⟩, rfl, rfl, rfl, rfl⟩, by decide⟩

theorem witness_EventsStopAndSnapshotStart :
    startedBy 7#32 on
    ∧ startedBy 7#32 (events on)
    ∧ startedBy 7#32 lostWaiting
    ∧ startedBy 8#32 on
    ∧ lostWaiting.ev.run = .running
    ∧ lostWaiting.ev.ring = some ⟨.lost 2#32, 0x4000, []⟩
    ∧ lostWaiting.reqs.event ≠ none
    ∧ lostWaiting.ev.queue = []
    ∧ lostWaiting.port.granted = none
    ∧ on.ev.run = .stopped
    ∧ (events on).ev.run = .running
    ∧ (events on).ev.queue = []
    ∧ (events on).ev.ring = none := ⟨⟨⟨rfl, rfl, rfl⟩, rfl, rfl, rfl, rfl⟩, ⟨⟨rfl, rfl, rfl⟩, rfl, rfl, rfl, rfl⟩, ⟨⟨rfl, rfl, rfl⟩, rfl, rfl, rfl, rfl⟩, ⟨⟨rfl, rfl, rfl⟩, rfl, rfl, rfl, rfl⟩, by decide⟩

theorem witness_ResponseWritesEnd :
    (serving .respDetail true 0 [] detailing).serves .respDetail ⟨.respDetail, true, 0, []⟩
    ∧ detailing.cmd.executing = some ⟨⟨1#8, 9#8, 3, 0#32, 0#32, 0#32⟩, .detail .done 5#32⟩
    ∧ (serving .respWord true 0 [] on).serves .respWord ⟨.respWord, true, 0, []⟩
    ∧ (running 1 on).cmd.waiting = none
    ∧ twoCommands.cmd.waiting = some ⟨1#8, 8#8, 3, 0#32, 0#32, 0#32⟩ := by
  unfold State.serves
  decide

theorem witness_WrittenFields :
    1023 < 1024
    ∧ 15 < 16 := by
  decide

theorem witness_ChannelRecordChecks :
    numbers 0x00020000#32 = (0, 0, 2)
    ∧ numbers 0x00020003#32 = (3, 0, 2)
    ∧ numbers 0x00020501#32 = (1, 5, 2)
    ∧ numbers 0x00010001#32 = (1, 0, 1)
    ∧ numbers 0x01010001#32 = (1, 0, 257)
    ∧ numbers 0x01000401#32 = (1, 4, 256)
    ∧ numbers 0x00020001#32 = (1, 0, 2)
    ∧ numbers 0x00020002#32 = (2, 0, 2)
    ∧ 2 ^ 28 ≤ (0x10000000#32 : Word).toNat
    ∧ (0x4020#32 : Word).toNat % (64 * 2 ^ 0) ≠ 0
    ∧ 0xFFFFFFF < (0xFFFFFC0#32 : Word).toNat + 64 * 2 ^ 0 * 2 - 1
    ∧ ¬ 0xFFFFFFF < (0xFFFFF80#32 : Word).toNat + 64 * 2 ^ 0 * 2 - 1
    ∧ 2 < (0x00030000#32 : Word).toNat / 2 ^ 16 % 512
    ∧ rangesMeet 0x1000FC0 64 on.wm.base 0x1000 = true
    ∧ ¬ rangesMeet 0x1001000 64 on.wm.base 0x1000 = true
    ∧ (loaded [] []).wm.cfg? 3 = some outCfg
    ∧ rangesMeet 0x10C0 128 outCfg.base outCfg.bytes = true
    ∧ ¬ rangesMeet 0x1100 128 outCfg.base outCfg.bytes = true
    ∧ (events on).ev.run ≠ .stopped
    ∧ (events on).ev.ringCfg = some ⟨0x4000, 16⟩
    ∧ rangesMeet 0x40C0 64 0x4000 (16 * 16) = true
    ∧ outCfg.dest? = some 5
    ∧ (∀ m, on.wm.cfg? m = none)
    ∧ 0 < 64
    ∧ rangesMeet 0x1000 64 0x103F 1 = true
    ∧ rangesMeet 0x1000 64 0x1040 1 = false := by
  decide

theorem witness_ChannelRecordReadEnds :
    recordRead.serves (.channelRecord 2) ⟨.channelRecord 2, false, 0x1000140, List.replicate 8 ⟨15#4, 0#32⟩⟩
    ∧ (RecordFields.ofWords (memReadBurst on.mem 0x1000140 8)).geometry = some 1
    ∧ (RecordFields.ofWords (memReadBurst recordRead.mem 0x1000140 8)).geometry = none
    ∧ overlapCheck 2 (RecordFields.ofWords (memReadBurst recordRead.mem 0x1000140 8)).cfg recordRead = none
    ∧ (RecordFields.ofWords (memReadBurst recordRead.mem 0x1000140 8)).cfg.dir = .inbound 10 2
    ∧ overlapCheck 2 inCfg (loaded [] []) = some (.overlap, 4#32)
    ∧ overlapCheck 2 outCfg on = none
    ∧ outCfg.dir = .outbound 5 true
    ∧ (0x00040002#32 : Word).toNat % 4 = 2
    ∧ (0x01000401#32 : Word).toNat % 4 ≠ 2 := by
  unfold State.serves
  decide

theorem witness_CommitTaken :
    (offering [⟨0x1000, 15#4, 0x80000000#32⟩] openSlots).slotWrite (⟨0x1000, 15#4, 0x80000000#32⟩) 3 0 0
    ∧ (offering [⟨0x1040, 15#4, 0x80000031#32⟩] openSlots).slotWrite (⟨0x1040, 15#4, 0x80000031#32⟩) 3 1 0
    ∧ (offering [⟨0x1000, 15#4, 0x80000030#32⟩] openSlots).slotWrite (⟨0x1000, 15#4, 0x80000030#32⟩) 3 0 0
    ∧ (offering [⟨0x1000, 15#4, 0x80000030#32⟩] stoppingSlots).slotWrite (⟨0x1000, 15#4, 0x80000030#32⟩) 3 0 0
    ∧ (0x80000000#32 : Word).getLsbD 31 = true
    ∧ openSlots.wm.isInbound 3 = false
    ∧ hostOwns 3 1 openSlots = true
    ∧ openSlots.wm.chans[(3 : Chan)].state = .active outCfg
    ∧ (0x80000000#32 : Word).toNat % 1024 = 0
    ∧ outCfg.capacity < (0x80000031#32 : Word).toNat % 1024
    ∧ (0x80000030#32 : Word).toNat % 1024 ≤ outCfg.capacity
    ∧ stoppingSlots.wm.chans[(3 : Chan)].state = .stopping outCfg
    ∧ hostOwns 3 0 stoppingSlots = true
    ∧ openSlots.cap.slot? 3 0 = some (slot .open none 0)
    ∧ (slot .open none 0).buf = none
    ∧ filling.cap.slot? 3 0 = some (slot .filling (some 0) 0)
    ∧ (slot .filling (some 0) 0).buf = some 0 := ⟨⟨by decide, ⟨0, rfl, rfl, rfl⟩, by decide⟩, ⟨by decide, ⟨0, rfl, rfl, rfl⟩, by decide⟩, ⟨by decide, ⟨0, rfl, rfl, rfl⟩, by decide⟩, ⟨by decide, ⟨0, rfl, rfl, rfl⟩, by decide⟩, by decide⟩

theorem witness_HandoversInTurn :
    1 < ([slot .held none 4, slot .open none 0] : List OutSlot).length
    ∧ (OutRing.mk [slot .held none 4, slot .open none 0] 1 0).commitCursor = 1
    ∧ (0 : Nat) ≠ (OutRing.mk [slot .held none 4, slot .open none 0] 1 0).commitCursor
    ∧ 1 < ([⟨.held, false⟩, ⟨.host, false⟩] : List InSlot).length
    ∧ (InRing.mk [⟨.held, false⟩, ⟨.host, false⟩] 1 0).releaseCursor = 1
    ∧ (0 : Nat) ≠ (InRing.mk [⟨.held, false⟩, ⟨.host, false⟩] 1 0).releaseCursor := by
  decide

theorem witness_ReleasesAndDuplicates :
    (offering [⟨0x2000, 15#4, 0x80000000#32⟩] inSlots).slotWrite (⟨0x2000, 15#4, 0x80000000#32⟩) 4 0 0
    ∧ (offering [⟨0x2040, 15#4, 0x80000000#32⟩] inSlots).slotWrite (⟨0x2040, 15#4, 0x80000000#32⟩) 4 1 0
    ∧ (offering [⟨0x1080, 15#4, 0x80000004#32⟩] openSlots).slotWrite (⟨0x1080, 15#4, 0x80000004#32⟩) 3 2 0
    ∧ (offering [⟨0x1080, 15#4, 4#32⟩] openSlots).slotWrite (⟨0x1080, 15#4, 4#32⟩) 3 2 0
    ∧ (offering [⟨0x10BC, 1#4, 0#32⟩] openSlots).slotWrite (⟨0x10BC, 1#4, 0#32⟩) 3 2 15
    ∧ inSlots.wm.isInbound 4 = true
    ∧ hostOwns 4 0 inSlots = true
    ∧ hostOwns 4 1 inSlots = false
    ∧ openSlots.wm.isInbound 3 = false
    ∧ hostOwns 3 2 openSlots = false
    ∧ (4#32 : Word).getLsbD 31 = false
    ∧ openSlots.wm.cfg? 3 = some outCfg
    ∧ outCfg.base ≤ 0x1000
    ∧ 0x10FF < outCfg.base + outCfg.size * outCfg.count
    ∧ ¬ 0x1100 < outCfg.base + outCfg.size * outCfg.count
    ∧ openSlots.wm.classify 0x10FC = .slot 3 3 15
    ∧ openSlots.wm.classify 0x1100 = .plain
    ∧ openSlots.wm.classify 0x1000024 = .control .intEnable
    ∧ openSlots.wm.classify 0x1000028 = .plain
    ∧ (∀ d ∈ allChans.take 3, openSlots.wm.cfg? d = none) := ⟨⟨by decide, ⟨0, rfl, rfl, rfl⟩, by decide⟩, ⟨by decide, ⟨0, rfl, rfl, rfl⟩, by decide⟩, ⟨by decide, ⟨0, rfl, rfl, rfl⟩, by decide⟩, ⟨by decide, ⟨0, rfl, rfl, rfl⟩, by decide⟩, ⟨by decide, ⟨0, rfl, rfl, rfl⟩, by decide⟩, by decide⟩

theorem witness_CaptureStores :
    (offering [⟨0x100C, 15#4, 9#32⟩] openSlots).slotWrite (⟨0x100C, 15#4, 9#32⟩) 3 0 3
    ∧ (offering [⟨0x103C, 8#4, 9#32⟩] openSlots).slotWrite (⟨0x103C, 8#4, 9#32⟩) 3 0 15
    ∧ (offering [⟨0x100C, 15#4, 9#32⟩] poolBound).slotWrite (⟨0x100C, 15#4, 9#32⟩) 3 0 3
    ∧ (offering [⟨0x100C, 15#4, 9#32⟩] poolFull).slotWrite (⟨0x100C, 15#4, 9#32⟩) 3 0 3
    ∧ (offering [⟨0x100C, 15#4, 9#32⟩] filling).slotWrite (⟨0x100C, 15#4, 9#32⟩) 3 0 3
    ∧ openSlots.wm.chans[(3 : Chan)].state = .active outCfg
    ∧ outCfg.captureOn = true
    ∧ openSlots.cap.slot? 3 0 = some (slot .open none 0)
    ∧ openSlots.cap.captureCount < 14
    ∧ openSlots.cap.freeBuf? = some 0
    ∧ 14 ≤ poolBound.cap.captureCount
    ∧ poolFull.cap.freeBuf? = none
    ∧ filling.cap.slot? 3 0 = some (slot .filling (some 0) 0) := ⟨⟨by decide, ⟨0, rfl, rfl, rfl⟩, by decide⟩, ⟨by decide, ⟨0, rfl, rfl, rfl⟩, by decide⟩, ⟨by decide, ⟨0, rfl, rfl, rfl⟩, by decide⟩, ⟨by decide, ⟨0, rfl, rfl, rfl⟩, by decide⟩, ⟨by decide, ⟨0, rfl, rfl, rfl⟩, by decide⟩, by decide⟩

theorem witness_StopsStart :
    startedBy 0x00020003#32 on
    ∧ startedBy 0x00040003#32 (loaded [] [⟨.landing, false⟩])
    ∧ startedBy 0x00040003#32 (loaded [] [⟨.posted, false⟩])
    ∧ startedBy 0x00030003#32 (loaded [slot .filling none 0] [])
    ∧ startedBy 0x00030003#32 (loaded [slot .committed none 4] [])
    ∧ startedBy 0x00030003#32 filling
    ∧ startedBy 0x00030003#32 staging
    ∧ startedBy 0x00030003#32 frozenSlot
    ∧ commandCode 0x00020003#32 = 3
    ∧ on.wm.chans[(2 : Chan)].state = .off
    ∧ (loaded [] [⟨.landing, false⟩]).wm.chans[(4 : Chan)].state = .active inCfg
    ∧ inCfg.isInbound = true
    ∧ (loaded [] []).wm.chans[(3 : Chan)].state = .active outCfg
    ∧ outCfg.isInbound = false
    ∧ (loaded [] [⟨.landing, false⟩]).land.rings[(4 : Chan)].slots.any (fun x => decide (x.state = .landing)) = true
    ∧ (loaded [] [⟨.posted, false⟩]).land.rings[(4 : Chan)].slots.all (fun x => decide (x.state ≠ .landing)) = true
    ∧ (loaded [slot .committed none 4] []).outStates 3 = [.committed]
    ∧ (loaded [slot .filling none 0] []).outStates 3 = [.filling]
    ∧ filling.cap.slot? 3 0 = some (slot .filling (some 0) 0)
    ∧ filling.cap.bufs[(0 : Buf)].state = .capturing
    ∧ staging.cap.slot? 3 0 = some (slot .staging (some 0) 4)
    ∧ staging.cap.bufs[(0 : Buf)].state = .loading
    ∧ staging.port.readingInto 0 = true
    ∧ frozenSlot.cap.slot? 3 0 = some (slot .committed (some 0) 4)
    ∧ frozenSlot.cap.bufs[(0 : Buf)].state = .frozen := ⟨⟨⟨rfl, rfl, rfl⟩, rfl, rfl, rfl, rfl⟩, ⟨⟨rfl, rfl, rfl⟩, rfl, rfl, rfl, rfl⟩, ⟨⟨rfl, rfl, rfl⟩, rfl, rfl, rfl, rfl⟩, ⟨⟨rfl, rfl, rfl⟩, rfl, rfl, rfl, rfl⟩, ⟨⟨rfl, rfl, rfl⟩, rfl, rfl, rfl, rfl⟩, ⟨⟨rfl, rfl, rfl⟩, rfl, rfl, rfl, rfl⟩, ⟨⟨rfl, rfl, rfl⟩, rfl, rfl, rfl, rfl⟩, ⟨⟨rfl, rfl, rfl⟩, rfl, rfl, rfl, rfl⟩, by decide⟩

theorem witness_PostsAndRing :
    (running 1 on).cmd.executing = some ⟨⟨1#8, 9#8, 3, 0#32, 0#32, 0#32⟩, .running⟩
    ∧ (events on).ev.run = .running
    ∧ (List.replicate 7 (0 : Nat)).length < 8
    ∧ 8 ≤ (List.replicate 8 (0 : Nat)).length
    ∧ on.ev.run ≠ .running
    ∧ (events on).ev.ringCfg = some ⟨0x4000, 16⟩
    ∧ (events on).ev.ring = none
    ∧ (events on).ev.lostHold = false
    ∧ (0 + 1) % 16 ≠ (0#32 : Word).toNat
    ∧ ¬ (15 + 1) % 16 ≠ (0#32 : Word).toNat
    ∧ ({ (events on).ev with lostCount := 1#32 } : EventUnit).lostCount ≠ 0#32
    ∧ ({ (events on).ev with queue := [⟨.linkUp, 0, 1#32, 0#32, 5#32⟩] } : EventUnit).queue = ⟨.linkUp, 0, 1#32, 0#32, 5#32⟩ :: []
    ∧ (events on).ev.queue = []
    ∧ ({ (events on).ev with lostHold := true } : EventUnit).lostHold = true
    ∧ ({ (events on).ev with run := .draining } : EventUnit).run = .draining
    ∧ (eventWriting .event).ev.ring = some ⟨.event, 0x4000, []⟩
    ∧ roomless.reqs.event = none
    ∧ ({ on with reqs := { on.reqs with event := some ⟨.snapshot, true, 0, []⟩ } } : State).reqs.event ≠ none
    ∧ (eventWriting .event).port.eventBusy = true
    ∧ roomless.port.eventBusy = false := by
  decide

theorem witness_SlotCompletion :
    (loaded [slot .committed none 4] []).cap.slot? 3 0 = some (slot .committed none 4)
    ∧ (loaded [slot .committed none 4] []).cap.wbPhase = .idle
    ∧ (loaded [slot .committed none 4] []).cap.wbQueue = []
    ∧ (writingBack .header .delivered).cap.wbPhase ≠ .idle
    ∧ staging.cap.slot? 3 0 = some (slot .staging (some 0) 4)
    ∧ staging.cap.bufs[(0 : Buf)].state = .loading
    ∧ staging.port.readingInto 0 = true
    ∧ on.port.readingInto 0 = false
    ∧ readyToSend.cap.bufs[(0 : Buf)].state = .ready
    ∧ filling.cap.bufs[(0 : Buf)].state = .capturing
    ∧ (after .firstSend readyToSend).cap.bufs[(0 : Buf)].state = .sending
    ∧ (sendRecord (closing .ready .open) 3).peer = .closed
    ∧ (closing .ready .open).cap.rings[(3 : Chan)].transmitCursor < (closing .ready .open).cap.rings[(3 : Chan)].slots.length
    ∧ (closing .ready .open).cap.slot? 3 ((0 + 0) % 2) = some (slot .ready none 4)
    ∧ (closing .ready .open).cap.slot? 3 ((0 + 1) % 2) = some (slot .open none 4)
    ∧ (closing .committed .ready).cap.slot? 3 ((0 + 1) % 2) = some (slot .ready none 4)
    ∧ (sendRecord readyToSend 3).peer ≠ .closed := by
  decide

theorem witness_ReadPlans :
    [3, 255].Pairwise (· < ·)
    ∧ (∀ o ∈ [3, 255], o < 256)
    ∧ 1 ≤ 1
    ∧ on.cap.bufs[(0 : Buf)].plan 1 = ⟨0, 8⟩ :: []
    ∧ Buffer.plan ⟨.loading, none, none, (List.range 8).map (fun k => (k, 0#8))⟩ 4 = []
    ∧ ({ on with reqs := { on.reqs with captureRead := some ⟨.staging 0, false, 0, []⟩ } } : State).reqs.captureRead ≠ none
    ∧ staging.port.readBusy = true
    ∧ on.reqs.captureRead = none
    ∧ on.port.readBusy = false
    ∧ staging.cap.jobs = [] ++ ⟨false, 3, 0, 4, 0, [⟨0, 8⟩], none⟩ :: [] := by
  decide

theorem witness_StagingBegins :
    stageable.on
    ∧ stageable.cap.slot? 3 stageable.cap.rings[(3 : Chan)].transmitCursor = some (slot .committed none 4)
    ∧ stagingWanted 3 stageable = true
    ∧ 2 ≤ stageable.cap.freeCount
    ∧ stageable.cap.refetchClaim? = none
    ∧ (3 : Chan) = stageable.cap.lastGranted + 1 + 3
    ∧ (∀ k : Chan, k < 3 → stagingClaim (stageable.cap.lastGranted + 1 + k) stageable = false)
    ∧ stageable.cap.freeBuf? = some 0
    ∧ stagingWanted 3 frozenSlot = true
    ∧ frozenSlot.cap.bufs[(0 : Buf)].state = .frozen
    ∧ stagingWanted 3 openSlots = false
    ∧ stagingWanted 3 stageableFull = true
    ∧ stageableFull.cap.freeCount < 2 := by
  unfold State.on
  decide

theorem witness_ReadEnds :
    staging.serves (.staging 0) ⟨.staging 0, false, 0x1000, List.replicate 8 ⟨15#4, 0#32⟩⟩
    ∧ staging.cap.job? 0 = some ⟨false, 3, 0, 4, 0, [⟨0, 8⟩], none⟩
    ∧ refetching.serves (.refetch 0) ⟨.refetch 0, false, 0x1000, List.replicate 8 ⟨15#4, 0#32⟩⟩
    ∧ refetching.cap.job? 0 = some ⟨true, 3, 0, 4, 0, [⟨0, 8⟩, ⟨8, 1⟩], none⟩
    ∧ (dropping .free).cap.job? 0 = some ⟨false, 3, 0, 4, 0, [⟨0, 8⟩], some .free⟩
    ∧ (dropping .freeze).cap.job? 0 = some ⟨false, 3, 0, 4, 0, [⟨0, 8⟩], some .freeze⟩ := by
  unfold State.serves
  decide

theorem witness_RefetchGranted :
    claiming.on
    ∧ claiming.cap.refetchClaim? = some ⟨3, 0, 4, none⟩
    ∧ claiming.cap.freeBuf? = some 0
    ∧ on.cap.refetch = none
    ∧ reclaiming.cap.refetchClaim? = some ⟨3, 1, 4, none⟩
    ∧ reclaiming.cap.freeBuf? = none
    ∧ reclaiming.cap.bufs[(0 : Buf)] = ⟨.ready, some .staging, some (3, 0), []⟩
    ∧ reclaiming.cap.slot? 3 reclaiming.cap.rings[(3 : Chan)].transmitCursor = some (slot .ready (some 0) 4)
    ∧ (∀ d : Chan, d < 3 → reclaiming.cap.slot? d 0 = none)
    ∧ claimingFull.cap.refetchClaim? = some ⟨3, 0, 4, none⟩
    ∧ claimingFull.cap.freeBuf? = none
    ∧ claimingFull.cap.reclaimable? = none
    ∧ resending.tx.refetch ≠ none
    ∧ resending.cap.refetch = some ⟨3, 0, 1, some 0⟩
    ∧ resending.cap.bufs[(0 : Buf)].state = .ready
    ∧ on.tx.refetch = none
    ∧ refetching.cap.refetch = some ⟨3, 0, 4, some 0⟩
    ∧ refetching.cap.bufs[(0 : Buf)].state = .loading
    ∧ refetching.port.readingInto 0 = true
    ∧ resending.port.readingInto 0 = false
    ∧ on.cap.bufs[(0 : Buf)].binding = none
    ∧ resending.cap.bufs[(0 : Buf)].binding = some (3, 0)
    ∧ claiming.cap.refetch = some ⟨3, 0, 4, none⟩ := by
  unfold State.on
  decide

theorem witness_WritebackEnds :
    (writingBack .header .delivered).cap.wbQueue = (3, 0) :: []
    ∧ ((writingBack .header .delivered).cap.slot? 3 0).bind (·.done) = some ⟨.delivered, 77#32, some ⟨5#12, 2#8, 1⟩⟩
    ∧ (serving .wbHeader true 0x1000 [] (writingBack .header .delivered)).serves .wbHeader ⟨.wbHeader, true, 0x1000, []⟩
    ∧ (serving .wbWord0 true 0x1000 [] (writingBack .word0 .stopped)).serves .wbWord0 ⟨.wbWord0, true, 0x1000, []⟩
    ∧ (writingBack .word0 .delivered).wm.isStopping 3 = false
    ∧ stoppingSlots.wm.isStopping 3 = true
    ∧ (∀ y ∈ stoppingSlots.cap.rings[(3 : Chan)].slots, y.state = .open) := by
  unfold State.serves
  decide

theorem witness_FramesRoundTrip :
    (Frame.data 15 0xFFF#12 0#32 (List.replicate 1 7#8)).inRange
    ∧ (Frame.data 0 0#12 0#32 (List.replicate 1008 7#8)).inRange
    ∧ (Frame.ack none (List.replicate 32 ⟨0#12, 0, .closed⟩)).inRange
    ∧ (up on).link.state ≠ .off
    ∧ (up on).link.rx = ⟨true, 0, none⟩
    ∧ (List.replicate 1008 (7#8 : Byte)).length ≤ 1008
    ∧ (List.replicate 32 (⟨0#12, 0, .closed⟩ : RefusalEntry)).length ≤ 32
    ∧ (wordsOfBytes [1#8, 2#8, 3#8, 4#8, 5#8])[1]? = some 5#32
    ∧ parseFrame [0xC0100051#32, 9#32, 0xFFFFFF07#32] = some (.data 5 0#12 9#32 [7#8])
    ∧ parseFrame [0xFE005C12#32, 0xFFFE0001#32] = some (.ack none [⟨1#12, 0, .tooLong⟩])
    ∧ parseFrame [0x01005012#32, 0x0003F001#32] = some (.ack (some 5#12) [⟨1#12, 15, .landingFault⟩])
    ∧ parseFrame [0xFF007FF3#32] = some (.nak 7#12)
    ∧ parseFrame [0xFF07FFF4#32, 0xFFFF0009#32] = some (.credit 15 true 7#8 9#16)
    ∧ parseFrame [0xFF0703F5#32] = some (.init 3#8 (some 7#8))
    ∧ parseFrame [0xFF0703E5#32] = some (.init 3#8 none) := by
  unfold Frame.inRange
  decide

theorem witness_LinkResetNotices :
    on.on
    ∧ on.link.txNotices = 0
    ∧ resetOnce.link.txNotices ≠ 0
    ∧ resetOnce.link.capNotices ≠ 0
    ∧ resetOnce.link.landNotices ≠ 0
    ∧ resetOnce.link.credNotices ≠ 0
    ∧ resetOnce.tx.replay = [⟨0#12, 3, 0, 1, 1, none⟩]
    ∧ (resetOnce.cap.slot? 3 0).isSome = true
    ∧ (landing .header false).lands ⟨0#12, 1#8, 4, 1, .landing ⟨0, 9#32, [0xAB#8], .header, false, false, true⟩⟩ ⟨0, 9#32, [0xAB#8], .header, false, false, true⟩ []
    ∧ headBegun resetOnce.land.queue = false
    ∧ 2 ≤ resetOnce.link.acks
    ∧ lastAck.link.acks ≤ 1
    ∧ (running 5 lastAck).cmd.executing = some ⟨⟨5#8, 9#8, 3, 0#32, 0#32, 0#32⟩, .running⟩
    ∧ ({ running 5 lastAck with link := { lastAck.link with state := .off } } : State).link.state ≠ .down
    ∧ lastAck.link.state = .down
    ∧ lastAck.link.rx.lock = true
    ∧ lastAck.cmd.executing = none
    ∧ ({ lastAck with link := { lastAck.link with rx := LaneRx.reset } } : State).link.rx.lock = false
    ∧ resetOnce.wm.isStopping 4 = false
    ∧ (linkReset .lockLost staging).link.capNotices ≠ 0
    ∧ staging.port.readingInto 0 = true
    ∧ staging.cap.bufs[(0 : Buf)].binding = some (3, 0)
    ∧ staging.cap.refetch = none
    ∧ LandEntry.verdict ⟨0#12, 1#8, 4, 1, .landing ⟨0, 9#32, [0xAB#8], .waiting, false, false, false⟩⟩ = .landing ⟨0, 9#32, [0xAB#8], .waiting, false, false, false⟩ := by
  unfold State.on State.lands
  decide

theorem witness_LinkAccessEnds :
    (serving .linkStatus true 0 [] on).serves .linkStatus ⟨.linkStatus, true, 0, []⟩
    ∧ on.link.statusAgain = false
    ∧ ({ on with link := { on.link with statusAgain := true } } : State).link.statusAgain = true
    ∧ (serving .linkRecord false 0x1000300 (List.replicate 8 ⟨15#4, 0#32⟩) on).serves .linkRecord ⟨.linkRecord, false, 0x1000300, List.replicate 8 ⟨15#4, 0#32⟩⟩
    ∧ linkParams 0x00010A00#32 0x01F40064#32= ⟨0, 10, 1, 100, 500⟩
    ∧ linkParams 0x00010A0F#32 0x01F40064#32= ⟨15, 10, 1, 100, 500⟩
    ∧ linkParams 0x00010A0E#32 0x01F40013#32= ⟨14, 10, 1, 19, 500⟩
    ∧ linkParams 0x00010001#32 0x01F40014#32= ⟨1, 0, 1, 20, 500⟩
    ∧ linkParams 0x00010101#32 0x00310014#32= ⟨1, 1, 1, 20, 49⟩
    ∧ linkParams 0x00000101#32 0x00320014#32= ⟨1, 1, 0, 20, 50⟩
    ∧ linkParams 0x00010101#32 0x00320014#32= ⟨1, 1, 1, 20, 50⟩ := by
  unfold State.serves
  decide

theorem witness_LinkAccessEnds_other :
    (∀ r, on.port.granted = some (.device r) → r.purpose ≠ .linkStatus) := nofun

theorem witness_LaneReports :
    down.on
    ∧ down.link.state = .down
    ∧ down.link.acks = 0
    ∧ down.link.rx.lock = false
    ∧ down.link.rx.run < 8
    ∧ (List.replicate 8 LinkWord.idle).length = 8 - down.link.rx.run
    ∧ (∀ v ∈ List.replicate 8 LinkWord.idle, v ≠ .violation)
    ∧ resetOnce.link.acks ≠ 0
    ∧ (up on).link.state ≠ .down
    ∧ (up on).link.rx.lock = true
    ∧ (up on).link.rx.frame = none
    ∧ (up on).link.rx.run < 4
    ∧ lastAck.link.rx = ⟨true, 0, none⟩
    ∧ runLane ⟨true, 0, some []⟩ [.idle] = some (⟨true, 0, none⟩, .framing)
    ∧ runLane ⟨true, 0, some [1#32]⟩ [.endMark] = some (⟨true, 0, none⟩, .frameEnd [1#32])
    ∧ judgeFrame [1#32] = .framingError
    ∧ judgeFrame [1#32, 0#32] = .crcError true
    ∧ judgeFrame [2#32, 0#32] = .crcError false
    ∧ ([] : List Word).length < 2
    ∧ (0#32 : Word) ≠ crcWords [1#32]
    ∧ parseFrame [1#32] = none
    ∧ parseFrame [3#32] = some (.nak 0#12)
    ∧ (0#32 : Word).toNat % 16 = 0
    ∧ 5 < (6#32 : Word).toNat % 16
    ∧ on.land.nakFlag = false
    ∧ ({ on with land := { on.land with nakFlag := true } } : State).land.nakFlag = true
    ∧ on.land.inbox = []
    ∧ (handedData inSlots).land.inbox ≠ []
    ∧ LinkWord.idle ≠ .violation
    ∧ LinkWord.endMark ≠ .startMark
    ∧ (List.replicate 259 0#32).length < 260
    ∧ 260 ≤ (List.replicate 260 0#32).length
    ∧ laneWord ⟨false, 7, none⟩ .idle = (⟨true, 0, none⟩, some .lockFound)
    ∧ laneWord ⟨false, 6, none⟩ .idle = (⟨false, 7, none⟩, none)
    ∧ parseFrame [0x00000001#32, 9#32] = none
    ∧ parseFrame (0x3F100001#32 :: List.replicate 254 0#32) = none
    ∧ (parseFrame (0x3F000001#32 :: List.replicate 253 0#32)).isSome = true
    ∧ parseFrame (0x00000212#32 :: List.replicate 33 0#32) = none
    ∧ (parseFrame (0x00000202#32 :: List.replicate 32 0#32)).isSome = true
    ∧ parseFrame [0x00100001#32, 9#32] = none
    ∧ parseFrame [0x00000012#32] = none
    ∧ parseFrame [3#32, 0#32] = none
    ∧ parseFrame [4#32] = none
    ∧ parseFrame [5#32, 0#32] = none := by
  unfold State.on
  decide

theorem witness_InitReceived :
    (sync 2).hears (laneOf (.init 4#8 (some 2#8))) ⟨true, 0, none⟩ (.init 4#8 (some 2#8))
    ∧ (sync 2).link.state = .sync
    ∧ (some 2#8 : Option Epoch) = some (sync 2).link.localEpoch
    ∧ (sync 2).hears (laneOf (.init 4#8 none)) ⟨true, 0, none⟩ (.init 4#8 none)
    ∧ (none : Option Epoch) ≠ some (sync 2).link.localEpoch
    ∧ (up on).hears (laneOf (.init 7#8 none)) ⟨true, 0, none⟩ (.init 7#8 none)
    ∧ (up on).link.heard = some 7#8
    ∧ (up on).hears (laneOf (.init 8#8 none)) ⟨true, 0, none⟩ (.init 8#8 none)
    ∧ (up on).link.heard ≠ some 8#8
    ∧ lastAck.hears (laneOf (.init 7#8 none)) ⟨true, 0, none⟩ (.init 7#8 none)
    ∧ lastAck.link.state = .down := by
  unfold State.hears
  decide

theorem witness_LinkTimers :
    on.on
    ∧ ({ sync 2 with link := { (sync 2).link with initTimer := some 0, syncTimer := some 0 } } : State).link.initTimer = some 0
    ∧ (sync 2).link.state = .sync
    ∧ ¬ (on.link.initTimer = some 0 ∧ on.link.state = .sync)
    ∧ ¬ (on.link.syncTimer = some 0 ∧ on.link.state = .sync)
    ∧ on.land.ackDelay ≠ some 0
    ∧ ({ up on with land := { on.land with ackDelay := some 0 } } : State).land.ackDelay = some 0 := by
  unfold State.on
  decide

theorem witness_ControlSends :
    (up on).on
    ∧ initTurn on = false
    ∧ initTurn (initPending on) = true
    ∧ upTurn (queued .ack) = true
    ∧ (queued .ack).tx.queue.head? = some .ack
    ∧ (queued .nak).tx.queue.head? = some .nak
    ∧ (queued (.credit 4)).tx.queue.head? = some (.credit 4)
    ∧ ctlTurn? on = none
    ∧ (loaded [] []).cred.recv[(4 : Chan)].posted = .total 2#16
    ∧ on.cred.recv[(4 : Chan)].posted = .none
    ∧ (loaded [] []).wm.chans[(4 : Chan)].state ≠ .off
    ∧ on.wm.chans[(4 : Chan)].state = .off := by
  unfold State.on
  decide

theorem witness_FirstSends :
    readyToSend.on
    ∧ upTurn readyToSend = true
    ∧ readyToSend.tx.queue = []
    ∧ readyToSend.tx.pass = none
    ∧ readyToSend.tx.replay.length < 32
    ∧ readyToSend.tx.lastServed + 1 + 3 = (3 : Chan)
    ∧ readyToSend.cap.slot? 3 readyToSend.cap.rings[(3 : Chan)].transmitCursor = some (slot .ready (some 0) 1)
    ∧ (sendRecord readyToSend 3).peer = .open
    ∧ 0 < (sendRecord readyToSend 3).available
    ∧ (∀ m : Chan, m < 3 → offered? (readyToSend.tx.lastServed + 1 + m) readyToSend = none)
    ∧ readyToSend.wm.cfg? 3 = some outCfg
    ∧ outCfg.dest? = some 5
    ∧ upTurn on = false
    ∧ (∀ c : Chan, offered? c on = none)
    ∧ mapLookup [(0, 9#8), (4, 0xAB#8)] (4 + 0) = some 0xAB#8
    ∧ mapLookup [(3, 9#8)] 3 = some 9#8 := by
  unfold State.on
  decide

theorem witness_Resends :
    resending.on
    ∧ resending.tx.sending = none
    ∧ resending.link.initRequest = false
    ∧ resending.link.state = .up
    ∧ resending.tx.queue = []
    ∧ resending.tx.pass = some ⟨7#12, false⟩
    ∧ resending.tx.refetch = some 7#12
    ∧ resending.tx.entry? 7#12 = some ⟨7#12, 3, 0, 1, 1, none⟩
    ∧ resending.cap.refetch = some ⟨3, 0, 1, some 0⟩
    ∧ resending.cap.bufs[(0 : Buf)].state = .ready
    ∧ resending.wm.cfg? 3 = some outCfg
    ∧ resending.tx.entry? 8#12 = none
    ∧ resendingTwo.tx.entry? 8#12 = some ⟨8#12, 3, 1, 1, 4, none⟩
    ∧ resending.link.retries < 4
    ∧ 1 ≤ resending.link.retries
    ∧ on.tx.refetch ≠ some 7#12 := by
  unfold State.on
  decide

theorem witness_SendEnds :
    on.on
    ∧ on.tx.sending = none
    ∧ (after .sendNak (queued .nak)).tx.sending.map (·.buf) = some none
    ∧ (after .firstSend readyToSend).tx.sending.map (·.buf) = some (some 0)
    ∧ (after .firstSend readyToSend).cap.bufs[(0 : Buf)].binding = some (3, 0)
    ∧ (withBuf 0 ⟨.sending, some .staging, none, []⟩ on).cap.bufs[(0 : Buf)].binding = none
    ∧ on.tx.abandoned = []
    ∧ (abandoning none).tx.abandoned = [⟨[], none⟩]
    ∧ (abandoning (some 0)).tx.abandoned = [⟨[], some 0⟩]
    ∧ on.link.txNotices = 0
    ∧ (linkReset .lockLost (after .firstSend readyToSend)).link.txNotices ≠ 0 := by
  unfold State.on
  decide

theorem witness_AckReceived :
    sent.hears (laneOf (.ack (some 0#12) [])) ⟨true, 0, none⟩ (.ack (some 0#12) [])
    ∧ sent.link.state = .up
    ∧ sent.tx.replay = [] ++ ⟨0#12, 3, 0, 1, 1, none⟩ :: []
    ∧ sent.tx.pass = none
    ∧ sent.tx.refetch = none
    ∧ (∀ x ∈ sent.tx.replay, x.seq ≠ 1#12)
    ∧ lastAck.hears (laneOf (.ack none [])) ⟨true, 0, none⟩ (.ack none [])
    ∧ lastAck.link.state ≠ .up
    ∧ resendingTwo.hears (laneOf (.ack (some 7#12) [])) ⟨true, 0, none⟩ (.ack (some 7#12) [])
    ∧ resendingTwo.tx.replay = [] ++ ⟨7#12, 3, 0, 1, 1, none⟩ :: [⟨8#12, 3, 1, 1, 4, none⟩]
    ∧ resendingTwo.tx.pass = some ⟨7#12, false⟩
    ∧ (∀ z ∈ ([⟨8#12, 3, 1, 1, 4, none⟩] : List ReplayEntry), z.seq ≠ 7#12)
    ∧ resending.tx.pass = some ⟨7#12, false⟩
    ∧ passAtSecond.tx.pass = some ⟨8#12, false⟩
    ∧ (holding (.ack (some 0#12) []) sent).tx.inbox = .ack (some 0#12) [] :: []
    ∧ on.tx.inbox = []
    ∧ ({ passAtSecond with tx := { passAtSecond.tx with pass := some ⟨7#12, true⟩ } } : State).tx.pass = some ⟨7#12, true⟩ := by
  unfold State.hears
  decide

theorem witness_NakAndAckTimer :
    sent.hears (laneOf (.nak 0#12)) ⟨true, 0, none⟩ (.nak 0#12)
    ∧ sent.tx.entry? 0#12 = some ⟨0#12, 3, 0, 1, 1, none⟩
    ∧ sent.tx.pass = none
    ∧ sent.tx.entry? 5#12 = none
    ∧ lastAck.hears (laneOf (.nak 0#12)) ⟨true, 0, none⟩ (.nak 0#12)
    ∧ passAtSecond.tx.entry? 7#12 = some ⟨7#12, 3, 0, 1, 1, none⟩
    ∧ seqBefore 7#12 8#12 = true
    ∧ seqBefore 8#12 8#12 = false
    ∧ passAtSecond.tx.pass = some ⟨8#12, false⟩
    ∧ on.tx.ackTimer ≠ some 0
    ∧ ({ sent with tx := { sent.tx with ackTimer := some 0 } } : State).tx.ackTimer = some 0
    ∧ on.tx.replay = []
    ∧ sent.tx.replay = ⟨0#12, 3, 0, 1, 1, none⟩ :: []
    ∧ ({ sent with tx := { sent.tx with pass := some ⟨0#12, true⟩ } } : State).tx.pass = some ⟨0#12, true⟩
    ∧ (holding (.nak 0#12) sent).tx.inbox = .nak 0#12 :: []
    ∧ on.tx.inbox = [] := by
  unfold State.hears
  decide

theorem witness_DataReceived :
    inSlots.hears (laneOf (.data 4 0#12 9#32 [0xAB#8])) ⟨true, 0, none⟩ (.data 4 0#12 9#32 [0xAB#8])
    ∧ inSlots.link.state = .up
    ∧ inSlots.land.expected = 0#12
    ∧ inSlots.land.queue.length < 4
    ∧ inSlots.wm.chans[(4 : Chan)].state = .active inCfg
    ∧ inCfg.isInbound = true
    ∧ ¬ inCfg.capacity < 48
    ∧ inCfg.capacity < 49
    ∧ inSlots.land.rings[(4 : Chan)].slots[inSlots.land.rings[(4 : Chan)].landCursor]? = some ⟨.host, true⟩
    ∧ (postedSlots 0).land.rings[(4 : Chan)].slots[(postedSlots 0).land.rings[(4 : Chan)].landCursor]? = some ⟨.posted, false⟩
    ∧ (up on).wm.chans[(4 : Chan)].state = .off
    ∧ lastAck.hears (laneOf (.data 4 0#12 9#32 [0xAB#8])) ⟨true, 0, none⟩ (.data 4 0#12 9#32 [0xAB#8])
    ∧ 4 ≤ (postedSlots 4).land.queue.length
    ∧ seqBefore 0#12 1#12 = true
    ∧ seqBefore 0#12 2047#12 = true
    ∧ seqBefore 0#12 4064#12 = false
    ∧ seqIn32Before 4064#12 0#12 = true
    ∧ seqIn32Before 4063#12 0#12 = false
    ∧ (landing .control false).land.disposed = none
    ∧ (landing .control false).land.queue ≠ []
    ∧ LandEntry.verdict ⟨0#12, 1#8, 4, 1, .refusal .noSlot⟩ = .refusal .noSlot
    ∧ planBursts (payloadOffsets 1) = ⟨4, 1⟩ :: []
    ∧ Landing.phase ⟨0, 9#32, [0xAB#8], .waiting, false, false, false⟩ = .waiting
    ∧ (handedData inSlots).land.inbox = .data 4 0#12 9#32 [0xAB#8] :: []
    ∧ on.land.inbox = []
    ∧ ({ on with land := { on.land with inbox := [.damage] } } : State).land.inbox = .damage :: [] := by
  unfold State.hears
  decide

theorem witness_Disposals :
    (up on).link.state = .up
    ∧ on.link.state ≠ .up
    ∧ ageRefusals 32#12 none [⟨0#12, 0, .closed⟩, ⟨1#12, 0, .closed⟩] = ⟨1#12, 0, .closed⟩ :: []
    ∧ on.link.state ≠ .up := by
  decide

theorem witness_LandingWriteEnds :
    (landing .header false).lands ⟨0#12, 1#8, 4, 1, .landing ⟨0, 9#32, [0xAB#8], .header, false, false, true⟩⟩ ⟨0, 9#32, [0xAB#8], .header, false, false, true⟩ []
    ∧ (landing .control false).lands ⟨0#12, 1#8, 4, 1, .landing ⟨0, 9#32, [0xAB#8], .control, false, false, true⟩⟩ ⟨0, 9#32, [0xAB#8], .control, false, false, true⟩ []
    ∧ (landing (.payload [⟨4, 1⟩]) false).lands ⟨0#12, 1#8, 4, 1, .landing ⟨0, 9#32, [0xAB#8], (.payload [⟨4, 1⟩]), false, false, true⟩⟩ ⟨0, 9#32, [0xAB#8], (.payload [⟨4, 1⟩]), false, false, true⟩ []
    ∧ (landing (.payload [⟨4, 4⟩, ⟨8, 1⟩]) false).lands ⟨0#12, 1#8, 4, 1, .landing ⟨0, 9#32, [0xAB#8], (.payload [⟨4, 4⟩, ⟨8, 1⟩]), false, false, true⟩⟩ ⟨0, 9#32, [0xAB#8], (.payload [⟨4, 4⟩, ⟨8, 1⟩]), false, false, true⟩ []
    ∧ (serving .landPayload true 0 [] (landing (.payload [⟨4, 1⟩]) false)).serves .landPayload ⟨.landPayload, true, 0, []⟩
    ∧ (serving .landHeader true 0 [] (landing .header false)).serves .landHeader ⟨.landHeader, true, 0, []⟩
    ∧ (serving .landWord0 true 0 [] (landing .control false)).serves .landWord0 ⟨.landWord0, true, 0, []⟩
    ∧ (landing .control false).land.slot? 4 0 = some ⟨.landing, true⟩
    ∧ [0xAB#8][4 * 4 + 0 - 16]? = some 0xAB#8
    ∧ AccessEnd.fault [] [] ≠ .ok
    ∧ LandEntry.verdict ⟨0#12, 1#8, 4, 1, .refusal .noSlot⟩ = .refusal .noSlot
    ∧ Landing.phase ⟨0, 9#32, [0xAB#8], .header, false, false, true⟩ ≠ .waiting
    ∧ Landing.phase ⟨0, 9#32, [0xAB#8], .waiting, false, false, false⟩ = .waiting
    ∧ planBursts (payloadOffsets 1) = ⟨4, 1⟩ :: []
    ∧ inDrained 4 (stoppingIn .posted) = true
    ∧ inDrained 4 (stoppingIn .landing) = false
    ∧ (stoppingIn .posted).wm.chans[(4 : Chan)].state = .stopping inCfg := by
  unfold State.serves State.lands
  decide

theorem witness_HeldReads :
    heldDue.on
    ∧ heldDue.land.heldRead = some ⟨[(4, 0)], 0⟩
    ∧ ((4, 0) : Chan × Nat) ∈ [((4, 0) : Chan × Nat)]
    ∧ heldDue.host = .held ⟨false, 0x800, [⟨15#4, 0#32⟩]⟩
    ∧ [((4, 0) : Chan × Nat)].filter (fun x => decide (x ≠ (4, 0))) = []
    ∧ [((4, 0) : Chan × Nat), (4, 1)].filter (fun x => decide (x ≠ (4, 0))) ≠ []
    ∧ on.land.heldRead = none := by
  unfold State.on
  decide

theorem witness_CreditReceived :
    (up on).hears (laneOf (.credit 5 true 1#8 2#16)) ⟨true, 0, none⟩ (.credit 5 true 1#8 2#16)
    ∧ (up on).link.state = .up
    ∧ lastAck.hears (laneOf (.credit 5 true 1#8 2#16)) ⟨true, 0, none⟩ (.credit 5 true 1#8 2#16)
    ∧ 32767 < (SendRecord.mk 0#16 (some 32768#16) (some 1#8) .open).available
    ∧ (SendRecord.mk 0#16 (some 32767#16) (some 1#8) .open).available ≤ 32767
    ∧ (up (credited (loaded [] []))).cred.send[(5 : Chan)].generation = some 1#8
    ∧ (∀ c : Chan, on.wm.cfg? c = none)
    ∧ ({ on with cred := { on.cred with inbox := [⟨5, true, 1#8, 2#16⟩] } } : State).cred.inbox = ⟨5, true, 1#8, 2#16⟩ :: []
    ∧ on.cred.inbox = []
    ∧ (loaded [] []).wm.cfg? 3 = some outCfg
    ∧ outCfg.dest? = some 5
    ∧ (∀ m : Chan, (loaded [] []).wm.usesDest (some 5) m = true → m = 3) := by
  unfold State.hears
  decide

theorem witness_CreditRequests :
    on.link.state ≠ .up
    ∧ (up (loaded [] [])).link.state = .up
    ∧ (loaded [] []).wm.isActive 4 = true
    ∧ (loaded [] []).wm.isActive 0 = false
    ∧ (loaded [] []).cred.recv[(4 : Chan)].posted = .total 2#16
    ∧ (loaded [] []).wm.isInbound 4 = true
    ∧ (loaded [] []).wm.isInbound 3 = false
    ∧ on.on
    ∧ on.cred.refresh ≠ some 0
    ∧ ({ on with cred := { on.cred with refresh := some 0 } } : State).cred.refresh = some 0
    ∧ ({ up (loaded [] []) with cred := { (loaded [] []).cred with refresh := some 0 } } : State).cred.refresh = some 0
    ∧ CtlReq.credit 4 ∉ (up (loaded [] [])).tx.queue
    ∧ (loaded [] []).cred.recv[(4 : Chan)].queued = false := by
  unfold State.on
  decide

theorem witness_EventAccessEnds :
    (eventWriting .event).serves (.ring .event) ⟨.ring .event, true, 0x4000, []⟩
    ∧ (eventWriting (.lost 2#32)).serves (.ring (.lost 2#32)) ⟨.ring (.lost 2#32), true, 0x4000, []⟩
    ∧ (eventWriting .producer).serves (.ring .producer) ⟨.ring .producer, true, 0x4000, []⟩
    ∧ (eventWriting .start).serves (.ring .start) ⟨.ring .start, true, 0x4000, []⟩
    ∧ (eventWriting .event).ev.ringCfg = some ⟨0x4000, 16⟩
    ∧ AccessEnd.fault [] [] ≠ .ok
    ∧ (serving .snapshot true 0 [] on).serves .snapshot ⟨.snapshot, true, 0, []⟩
    ∧ ({ on with ev := { on.ev with snap := some ⟨Counters.zero, 0#32, 8, none⟩ } } : State).ev.snap = some ⟨Counters.zero, 0#32, 8, none⟩
    ∧ 8 < 9
    ∧ 9 ≤ 9
    ∧ ({ (events on).ev with run := .draining } : EventUnit).run = .draining
    ∧ on.ev.queue = []
    ∧ on.ev.ring = none
    ∧ on.ev.run ≠ .draining
    ∧ on.ev.snap = none
    ∧ on.ev.lastAccess = .snapshot
    ∧ (eventWriting .event).ev.ring ≠ none
    ∧ ({ (events on).ev with lastAccess := .ring } : EventUnit).lastAccess = .ring := by
  unfold State.serves
  decide

theorem witness_StepKeeps :
    MemoryLaw sent
    ∧ InterruptLaw sent
    ∧ CaptureLaw sent
    ∧ CreditLaw sent
    ∧ ControlQueueLaw sent
    ∧ QueueLaw sent
    ∧ PortLaw { hostWriting with port := { hostWriting.port with timer := some 4000 } }
    ∧ PortLaw on
    ∧ MailboxLaw twoCommands
    ∧ GenerationLaw sent := by
  unfold MemoryLaw InterruptLaw CaptureLaw CreditLaw ControlQueueLaw QueueLaw GenerationLaw PortLaw MailboxLaw
  decide

theorem witness_ReplayOrder : ReplayOrderLaw { resendingTwo with tx := { resendingTwo.tx with nextSeq := 9#12 } }
    ∧ ReplayOrderLaw sent := by
  exact ⟨⟨by decide, by decide, trivial⟩, by decide, trivial⟩

theorem witness_Presented : PresentedLaw on ∧ PresentedLaw (presenting ⟨true, 0, [⟨15#4, 5#32⟩]⟩ (offering [] on)) :=
  ⟨fun _ _ => rfl, nofun⟩

theorem witness_Held : HeldLaw heldDue ∧ HeldLaw sent := by
  refine ⟨⟨by decide, fun h hh => ?_⟩, by decide, nofun⟩
  obtain rfl := Option.some.inj hh
  decide

theorem witness_Areas : EventRingLaw (events (loaded [] [])) ∧ AreasLaw (events (loaded [] [])) := by
  have key : ∀ c, (events (loaded [] [])).wm.cfg? c = if c = 3 then some outCfg else if c = 4 then some inCfg else none := by
    decide
  refine ⟨by exact ⟨by decide, by decide, by decide, by decide⟩, nofun, fun c cfg h => ?_⟩
  rw [key] at h
  split_ifs at h with h3 h4
  · obtain rfl := Option.some.inj h
    subst h3
    refine ⟨by unfold ChanCfg.clearOf; decide, fun r hr => ?_, fun d cfg' hd h' => ?_⟩
    · obtain rfl := Option.some.inj hr
      unfold ChanCfg.clearOf
      decide
    · rw [key, if_neg hd] at h'
      split_ifs at h'
      obtain rfl := Option.some.inj h'
      unfold ChanCfg.clearOf
      decide
  · obtain rfl := Option.some.inj h
    subst h4
    refine ⟨by unfold ChanCfg.clearOf; decide, fun r hr => ?_, fun d cfg' hd h' => ?_⟩
    · obtain rfl := Option.some.inj hr
      unfold ChanCfg.clearOf
      decide
    · rw [key, if_neg hd] at h'
      split_ifs at h'
      obtain rfl := Option.some.inj h'
      unfold ChanCfg.clearOf
      decide

theorem witness_LaneOut : LaneOutLaw on ∧ LaneOutLaw (after .sendNak (queued .nak)) := by
  refine ⟨⟨by decide, fun h => absurd rfl h⟩, by decide, fun _ => ⟨by decide, fun x h => ?_⟩⟩
  obtain rfl := Option.some.inj h
  decide

theorem witness_ReleasesAndDuplicates_again :
    openSlots.violates ⟨0x1084, 15#4, 5#32⟩ 3 2
    ∧ (applySlots [⟨0x1084, 15#4, 5#32⟩] openSlots).violates ⟨0x10BC, 1#4, 0#32⟩ 3 2
    ∧ ({ openSlots with host := .idle } : State).writesSlot ⟨0x1080, 15#4, 4#32⟩ 3 2 0 :=
  ⟨⟨by decide, 1, ⟨by decide, by decide⟩, by decide⟩, ⟨by decide, 15, ⟨by decide, by decide⟩, by decide⟩,
    by decide, by decide⟩

theorem witness_CaptureStores_plain :
    (offering [⟨0x1008, 15#4, 9#32⟩] openSlots).slotWrite ⟨0x1008, 15#4, 9#32⟩ 3 0 2
    ∧ (offering [⟨0x1000, 3#4, 0x80000004#32⟩] openSlots).slotWrite ⟨0x1000, 3#4, 0x80000004#32⟩ 3 0 0
    ∧ (offering [⟨0x2010, 15#4, 9#32⟩] inSlots).slotWrite ⟨0x2010, 15#4, 9#32⟩ 4 0 4
    ∧ hostOwns 3 0 openSlots = true ∧ hostOwns 4 0 inSlots = true ∧ inCfg.captureOn = false :=
  ⟨⟨by decide, ⟨0, rfl, rfl, rfl⟩, by decide⟩, ⟨by decide, ⟨0, rfl, rfl, rfl⟩, by decide⟩,
    ⟨by decide, ⟨0, rfl, rfl, rfl⟩, by decide⟩, by decide, by decide, by decide⟩

theorem witness_LinkResetNotices_sole :
    (∀ d j y, readyToSend.cap.slot? d j = some y → y.buf = some 0 → (d, j) = ((3, 0) : Chan × Nat))
    ∧ readyToSend.cap.slot? 3 0 = some (slot .ready (some 0) 1) ∧ readyToSend.cap.bufs[(0 : Buf)].binding = some (3, 0)
    ∧ readyToSend.cap.bufs[(0 : Buf)].purpose ≠ some .capture ∧ readyToSend.cap.refetch = none := by
  refine ⟨fun d j y h hb => ?_, by decide, by decide, by decide, by decide⟩
  have key : ∀ d : Chan, readyToSend.cap.rings[d].slots
      = if d = 3 then [slot .ready (some 0) 1, slot .open none 0] else [] := by decide
  change readyToSend.cap.rings[d].slots[j]? = some y at h
  rw [key] at h
  split_ifs at h with hd
  · rcases j with _ | _ | j
    · rw [hd]
    · obtain rfl := Option.some.inj h
      cases hb
    · cases h
  · cases h

theorem witness_StepKeeps_next : ∃ t, step { sent with pending := [.memoryGrant] } = .next t := ⟨_, rfl⟩

end Sys2Proof.Tests
end

namespace Sys2Proof.Machine

/-- The fields that the laws of the host port, the mailbox and the outgoing lane speak of, and the anchor. `busy`: a
command executes; `silent`: the link is OFF. -/
structure Watched where
  anchor : BitVec 4
  host : HostPort
  held : Option HeldRead
  busy : Bool
  waiting : Option Command
  silent : Bool
  sending : Option Send
  laneOut : List (Option LinkWord)

/-- Those fields of a state. -/
def State.watched (s : State) : Watched :=
  ⟨s.wm.anchor, s.host, s.land.heldRead, s.cmd.executing.isSome, s.cmd.waiting, decide (s.link.state = .off),
    s.tx.sending, s.laneOut⟩

/-- A record update that keeps the lane, the Host Port and, of the units, the watched fields. -/
@[simp] theorem watched_update (t : State) (b : Bool) (now : Word) (i : Bool) (m : List Host.Cell)
    (p : Option HostAccess) (a : Option HostAnswer) (g : MemPort) (q : Requests) (w : Matcher) (c : CommandUnit)
    (u : CaptureUnit) (l : LinkController) (x : TransmitEngine) (e : LandingEngine) (d : CreditUnit) (v : EventUnit)
    (f : Nat) (n : List Instr) (hw : w.anchor = t.wm.anchor) (hb : c.executing.isSome = t.cmd.executing.isSome)
    (hc : c.waiting = t.cmd.waiting) (hl : l.state = .off ↔ t.link.state = .off) (hx : x.sending = t.tx.sending)
    (he : e.heldRead = t.land.heldRead) :
    State.watched ⟨b, now, i, t.laneOut, m, t.host, p, a, g, q, w, c, u, l, x, e, d, v, f, n⟩ = t.watched := by
  simp only [State.watched, hw, hb, hc, hl, hx, he]

theorem watched_foldl {α : Type} (f : State → α → State) (h : ∀ s a, (f s a).watched = s.watched) (l : List α)
    (s : State) : (l.foldl f s).watched = s.watched := by
  induction l generalizing s with
  | nil => rfl
  | cons a l ih => simp only [List.foldl_cons, ih, h]

/-! ### The watched fields of the units -/

@[simp] theorem Matcher.latch_anchor (w : ControlWord) (be : BitVec 4) (d : Word) (m : Matcher) :
    (m.latch w be d).anchor = m.anchor := by
  cases w <;> rfl

@[simp] theorem LinkController.enter_state (st : LinkState) (l : LinkController) : (l.enter st).state = st := by rfl

@[simp] theorem TransmitEngine.raise_sending (q : Seq) (t : TransmitEngine) : (t.raise q).sending = t.sending := by rfl

@[simp] theorem TransmitEngine.takeNew_sending (x : ReplayEntry) (n : Nat) (t : TransmitEngine) :
    (t.takeNew x n).sending = t.sending := by rfl

@[simp] theorem LandingEngine.onRing_heldRead (c : Chan) (f : InRing → InRing) (u : LandingEngine) :
    (u.onRing c f).heldRead = u.heldRead := by rfl

@[simp] theorem LandingEngine.raiseBatch_heldRead (n : Nat) (u : LandingEngine) :
    (u.raiseBatch n).heldRead = u.heldRead := by rfl

@[simp] theorem LandingEngine.dispose_heldRead (q : Seq) (r : Option RefusalEntry) (u : LandingEngine) :
    (u.dispose q r).heldRead = u.heldRead := by rfl

/-! ### Requests, commands, counters, events -/

@[simp] theorem present_watched (r : DevReq) (s : State) : (present r s).watched = s.watched := by rfl

@[simp] theorem endCommand_watched (r : Result) (d : Word) (s : State) : (endCommand r d s).watched = s.watched := by
  unfold endCommand; simp

@[simp] theorem count_watched (f : Counters → Counters) (s : State) : (count f s).watched = s.watched := by rfl

@[simp] theorem driveInt_watched (s : State) : (driveInt s).watched = s.watched := by rfl

@[simp] theorem runRing_watched (s : State) : (runRing s).watched = s.watched := by rfl

@[simp] theorem post_watched (k : EventKind) (c : Chan) (d1 d2 : Word) (s : State) :
    (post k c d1 d2 s).watched = s.watched := by rfl

@[simp] theorem postFault_watched (c : Chan) (o : Origin) (addr : Nat) (s : State) :
    (postFault c o addr s).watched = s.watched := by rfl

@[simp] theorem postFaultIf_watched (e : AccessEnd) (c : Chan) (o : Origin) (addr : Nat) (s : State) :
    (postFaultIf e c o addr s).watched = s.watched := by
  unfold postFaultIf; split <;> simp

@[simp] theorem withdrawRecord_watched (s : State) : (withdrawRecord s).watched = s.watched := by rfl

@[simp] theorem finishDrain_watched (s : State) : (finishDrain s).watched = s.watched := by
  unfold finishDrain; split <;> simp

@[simp] theorem clearHold_watched (s : State) : (clearHold s).watched = s.watched := by rfl

@[simp] theorem consumerChanged_watched (s : State) : (consumerChanged s).watched = s.watched := by
  unfold consumerChanged; dsimp only; (repeat' split) <;> simp

@[simp] theorem afterRing_watched (s : State) : (afterRing s).watched = s.watched := by
  unfold afterRing; simp

@[simp] theorem installRing_watched (base size : Word) (s : State) :
    (installRing base size s).watched = s.watched := by rfl

@[simp] theorem startEvents_watched (cmd : Command) (s : State) : (startEvents cmd s).watched = s.watched := by
  unfold startEvents; (repeat' split) <;> simp

@[simp] theorem stopEvents_watched (s : State) : (stopEvents s).watched = s.watched := by
  unfold stopEvents; split <;> simp

@[simp] theorem startSnapshot_watched (cmd : Command) (s : State) : (startSnapshot cmd s).watched = s.watched := by rfl

@[simp] theorem endStartWrite_watched (e : AccessEnd) (r : DevReq) (s : State) :
    (endStartWrite e r s).watched = s.watched := by
  unfold endStartWrite; split <;> simp

@[simp] theorem endRingWrite_watched (k : RingKind) (e : AccessEnd) (r : DevReq) (s : State) :
    (endRingWrite k e r s).watched = s.watched := by
  unfold endRingWrite; split <;> simp

@[simp] theorem endSnapBurst_watched (e : AccessEnd) (r : DevReq) (s : State) :
    (endSnapBurst e r s).watched = s.watched := by
  unfold endSnapBurst; dsimp only; (repeat' split) <;> simp

/-! ### Control frame requests and the Credit Unit -/

@[simp] theorem requestCtl_watched (r : CtlReq) (s : State) : (requestCtl r s).watched = s.watched := by rfl

@[simp] theorem requestCredit_watched (c : Chan) (s : State) : (requestCredit c s).watched = s.watched := by rfl

@[simp] theorem reportPosted_watched (c : Chan) (s : State) : (reportPosted c s).watched = s.watched := by
  unfold reportPosted; split <;> simp

@[simp] theorem creditLoaded_watched (c : Chan) (g : BitVec 8) (k : Nat) (s : State) :
    (creditLoaded c g k s).watched = s.watched := by rfl

@[simp] theorem refreshCredits_watched (s : State) : (refreshCredits s).watched = s.watched := by
  unfold refreshCredits; apply watched_foldl; intro s c; split <;> simp

@[simp] theorem creditUpChan_watched (s : State) (c : Chan) : (creditUpChan s c).watched = s.watched := by
  unfold creditUpChan; split <;> simp

@[simp] theorem creditLinkUp_watched (s : State) : (creditLinkUp s).watched = s.watched := by
  unfold creditLinkUp; simp [watched_foldl _ creditUpChan_watched]

@[simp] theorem chargeSend_watched (c : Chan) (s : State) : (chargeSend c s).watched = s.watched := by rfl

/-! ### The Capture Unit -/

@[simp] theorem presentRead_watched (s : State) : (presentRead s).watched = s.watched := by rfl

@[simp] theorem removeJob_watched (b : Buf) (s : State) : (removeJob b s).watched = s.watched := by rfl

@[simp] theorem dropJob_watched (b : Buf) (d : Drop) (s : State) : (dropJob b d s).watched = s.watched := by
  unfold dropJob; split <;> simp

@[simp] theorem startWriteback_watched (s : State) : (startWriteback s).watched = s.watched := by
  unfold startWriteback; (repeat' split) <;> simp

@[simp] theorem releaseBuf_watched (b : Buf) (s : State) : (releaseBuf b s).watched = s.watched := by
  unfold releaseBuf; split <;> simp

@[simp] theorem enterCompleting_watched (c : Chan) (i : Nat) (st : Status) (sent : Option SentInfo) (s : State) :
    (enterCompleting c i st sent s).watched = s.watched := by rfl

@[simp] theorem releaseSlotBuf_watched (c : Chan) (i : Nat) (s : State) :
    (releaseSlotBuf c i s).watched = s.watched := by
  unfold releaseSlotBuf; split <;> simp

@[simp] theorem completeSlot_watched (c : Chan) (i : Nat) (st : Status) (sent : Option SentInfo) (s : State) :
    (completeSlot c i st sent s).watched = s.watched := by
  unfold completeSlot; simp

@[simp] theorem passTransmit_watched (c : Chan) (s : State) : (passTransmit c s).watched = s.watched := by rfl

@[simp] theorem drainClosed_watched (c : Chan) (n : Nat) (s : State) : (drainClosed c n s).watched = s.watched := by
  induction n generalizing s with
  | zero => rfl
  | succ n ih => unfold drainClosed; split <;> simp [ih]

@[simp] theorem settleClosed_watched (c : Chan) (s : State) :
    (settleClosed c s).watched = s.watched := drainClosed_watched c _ s

@[simp] theorem recordCommit_watched (c : Chan) (i len : Nat) (notify : Bool) (s : State) :
    (recordCommit c i len notify s).watched = s.watched := by rfl

@[simp] theorem acceptCommit_watched (c : Chan) (i : Nat) (s : State) : (acceptCommit c i s).watched = s.watched := by
  unfold acceptCommit; simp

@[simp] theorem rejectCommit_watched (c : Chan) (i len : Nat) (s : State) :
    (rejectCommit c i len s).watched = s.watched := by
  unfold rejectCommit; simp

@[simp] theorem takeCommit_watched (c : Chan) (i len : Nat) (notify : Bool) (s : State) :
    (takeCommit c i len notify s).watched = s.watched := by
  unfold takeCommit; dsimp only; (repeat' split) <;> simp

@[simp] theorem captureWord_watched (c : Chan) (i off : Nat) (be : BitVec 4) (d : Word) (s : State) :
    (captureWord c i off be d s).watched = s.watched := by rfl

@[simp] theorem planReads_watched (refetch : Bool) (c : Chan) (i len : Nat) (b : Buf) (s : State) :
    (planReads refetch c i len b s).watched = s.watched := by
  unfold planReads; split <;> simp

@[simp] theorem beginStaging_watched (c : Chan) (s : State) : (beginStaging c s).watched = s.watched := by
  unfold beginStaging; (repeat' split) <;> simp

@[simp] theorem finishDropped_watched (b : Buf) (d : Drop) (s : State) :
    (finishDropped b d s).watched = s.watched := by rfl

@[simp] theorem storeBurst_watched (j : ReadJob) (r : DevReq) (s : State) :
    (storeBurst j r s).watched = s.watched := by rfl

@[simp] theorem acceptRead_watched (j : ReadJob) (r : DevReq) (s : State) :
    (acceptRead j r s).watched = s.watched := by
  unfold acceptRead; split <;> simp

@[simp] theorem faultStaging_watched (j : ReadJob) (r : DevReq) (s : State) :
    (faultStaging j r s).watched = s.watched := by
  unfold faultStaging; simp

@[simp] theorem endStagingRead_watched (b : Buf) (e : AccessEnd) (r : DevReq) (s : State) :
    (endStagingRead b e r s).watched = s.watched := by
  unfold endStagingRead; (repeat' split) <;> simp

@[simp] theorem grantRefetch_watched (s : State) : (grantRefetch s).watched = s.watched := by
  unfold grantRefetch; (repeat' split) <;> simp

@[simp] theorem cancelCaptureRefetch_watched (s : State) : (cancelCaptureRefetch s).watched = s.watched := by
  unfold cancelCaptureRefetch; dsimp only; (repeat' split) <;> simp

@[simp] theorem setChan_watched (c : Chan) (st : ChanState) (s : State) : (setChan c st s).watched = s.watched := by rfl

@[simp] theorem emptyFilling_watched (c : Chan) (s : State) (i : Nat) : (emptyFilling c s i).watched = s.watched := by
  unfold emptyFilling; (repeat' split) <;> simp

@[simp] theorem stopSlot_watched (c : Chan) (s : State) (i : Nat) : (stopSlot c s i).watched = s.watched := by
  unfold stopSlot; (repeat' split) <;> simp

@[simp] theorem finishOutDrain_watched (c : Chan) (s : State) : (finishOutDrain c s).watched = s.watched := by
  unfold finishOutDrain; split <;> simp

@[simp] theorem stopOutbound_watched (c : Chan) (cfg : ChanCfg) (s : State) :
    (stopOutbound c cfg s).watched = s.watched := by
  unfold stopOutbound
  simp [watched_foldl _ (stopSlot_watched c), watched_foldl _ (emptyFilling_watched c)]

@[simp] theorem resetSlot_watched (c : Chan) (s : State) (i : Nat) : (resetSlot c s i).watched = s.watched := by
  unfold resetSlot; (repeat' split) <;> simp

@[simp] theorem resetChan_watched (s : State) (c : Chan) : (resetChan s c).watched = s.watched := by
  unfold resetChan; rw [watched_foldl _ (fun s i => resetSlot_watched c s i)]

@[simp] theorem captureReset_watched (s : State) : (captureReset s).watched = s.watched := by
  unfold captureReset; rw [watched_foldl _ (fun s c => resetChan_watched s c), cancelCaptureRefetch_watched]

@[simp] theorem toWord0_watched (c : Chan) (i : Nat) (s : State) : (toWord0 c i s).watched = s.watched := by
  unfold toWord0; split <;> simp

@[simp] theorem endWbHeader_watched (e : AccessEnd) (r : DevReq) (s : State) :
    (endWbHeader e r s).watched = s.watched := by
  unfold endWbHeader; split <;> simp

@[simp] theorem countReturned_watched (c : Chan) (st : Status) (s : State) :
    (countReturned c st s).watched = s.watched := by
  unfold countReturned; (repeat' split) <;> simp

@[simp] theorem postDone_watched (c : Chan) (i : Nat) (notify : Bool) (st : Status) (s : State) :
    (postDone c i notify st s).watched = s.watched := by
  unfold postDone; split <;> simp

@[simp] theorem returnOut_watched (c : Chan) (i : Nat) (notify : Bool) (st : Status) (s : State) :
    (returnOut c i notify st s).watched = s.watched := by
  unfold returnOut; simp

@[simp] theorem endWbWord0_watched (e : AccessEnd) (r : DevReq) (s : State) :
    (endWbWord0 e r s).watched = s.watched := by
  unfold endWbWord0; (repeat' split) <;> simp

/-! ### The Link Controller -/

@[simp] theorem callStatus_watched (s : State) : (callStatus s).watched = s.watched := by rfl

@[simp] theorem statusEnd_watched (e : AccessEnd) (r : DevReq) (s : State) :
    (statusEnd e r s).watched = s.watched := by
  unfold statusEnd; dsimp only; (repeat' split) <;> simp

theorem enterSync_watched (s : State) (h : s.link.state = .down) : (enterSync s).watched = s.watched := by
  unfold enterSync; simp [h]

@[simp] theorem trySync_watched (s : State) : (trySync s).watched = s.watched := by
  unfold trySync
  split
  · next h => exact enterSync_watched s h.1
  · rfl

@[simp] theorem acknowledge_watched (s : State) : (acknowledge s).watched = s.watched := by
  unfold acknowledge; dsimp only; (repeat' split) <;> simp

theorem enterUp_watched (s : State) (h : s.link.state = .sync) : (enterUp s).watched = s.watched := by
  unfold enterUp; simp [h]

@[simp] theorem postDown_watched (cause : Cause) (s : State) : (postDown cause s).watched = s.watched := by
  unfold postDown; split <;> simp

@[simp] theorem startEnable_watched (s : State) : (startEnable s).watched = s.watched := by
  unfold startEnable; split <;> simp

@[simp] theorem setRx_watched (rx : LaneRx) (s : State) : (setRx rx s).watched = s.watched := by rfl

@[simp] theorem lockFound_watched (ws : List LinkWord) (s : State) : (lockFound ws s).watched = s.watched := by
  unfold lockFound; split <;> simp

/-! ### The Transmit Engine -/

@[simp] theorem cancelRefetch_watched (s : State) : (cancelRefetch s).watched = s.watched := by
  unfold cancelRefetch; split <;> simp

@[simp] theorem requestRefetch_watched (x : ReplayEntry) (s : State) :
    (requestRefetch x s).watched = s.watched := by rfl

@[simp] theorem haltPass_watched (s : State) : (haltPass s).watched = s.watched := by rfl

@[simp] theorem popCtl_watched (s : State) : (popCtl s).watched = s.watched := by rfl

@[simp] theorem resetBatch_watched (s : State) : (resetBatch s).watched = s.watched := by rfl

@[simp] theorem reportEnd_watched (x : Send) (s : State) : (reportEnd x s).watched = s.watched := by
  unfold reportEnd; split <;> simp

@[simp] theorem completeEntry_watched (st : ReplayEntry → Status) (s : State) (x : ReplayEntry) :
    (completeEntry st s x).watched = s.watched := by
  unfold completeEntry; split <;> simp

@[simp] theorem timerAfterRemoval_watched (s : State) : (timerAfterRemoval s).watched = s.watched := by rfl

@[simp] theorem transmitReset_watched (s : State) : (transmitReset s).watched = s.watched := by
  unfold transmitReset; simp [watched_foldl _ (completeEntry_watched _)]

/-! ### The Landing Engine -/

@[simp] theorem setInState_watched (c : Chan) (i : Nat) (st : InState) (s : State) :
    (setInState c i st s).watched = s.watched := by rfl

@[simp] theorem reportPostedTimes_watched (c : Chan) (n : Nat) (s : State) :
    (reportPostedTimes c n s).watched = s.watched := by
  induction n generalizing s with
  | zero => rfl
  | succ n ih => simp [reportPostedTimes, ih]

@[simp] theorem takeRelease_watched (c : Chan) (i : Nat) (notify : Bool) (s : State) :
    (takeRelease c i notify s).watched = s.watched := by
  unfold takeRelease; simp

@[simp] theorem askNak_watched (s : State) : (askNak s).watched = s.watched := by
  unfold askNak; split <;> simp

@[simp] theorem batchDisposal_watched (s : State) : (batchDisposal s).watched = s.watched := by
  unfold batchDisposal; dsimp only
  split
  · rw [requestCtl_watched]; rfl
  · rfl

@[simp] theorem listRefusal_watched (x : LandEntry) (r : Reason) (s : State) :
    (listRefusal x r s).watched = s.watched := by
  unfold listRefusal; simp

@[simp] theorem dispose_watched (x : LandEntry) (reason : Option Reason) (s : State) :
    (dispose x reason s).watched = s.watched := by
  unfold dispose; (repeat' split) <;> simp

@[simp] theorem setHead_watched (e : LandEntry) (l : Landing) (s : State) :
    (setHead e l s).watched = s.watched := by rfl

@[simp] theorem toHeader_watched (e : LandEntry) (l : Landing) (s : State) :
    (toHeader e l s).watched = s.watched := by rfl

@[simp] theorem toControl_watched (e : LandEntry) (l : Landing) (s : State) :
    (toControl e l s).watched = s.watched := by rfl

@[simp] theorem toPayload_watched (e : LandEntry) (l : Landing) (bursts : List Burst) (s : State) :
    (toPayload e l bursts s).watched = s.watched := by
  unfold toPayload; split <;> simp

@[simp] theorem startLanding_watched (e : LandEntry) (l : Landing) (s : State) :
    (startLanding e l s).watched = s.watched := by
  unfold startLanding; simp

@[simp] theorem runQueue_watched (q : List LandEntry) (s : State) : (runQueue q s).watched = s.watched := by
  induction q generalizing s with
  | nil => rfl
  | cons e rest ih =>
    unfold runQueue
    split
    · simp [ih]
    · split <;> simp

@[simp] theorem enqueue_watched (e : LandEntry) (s : State) : (enqueue e s).watched = s.watched := by
  unfold enqueue; split <;> simp

@[simp] theorem accept_watched (c : Chan) (q : Seq) (user : Word) (payload : List Byte) (s : State) :
    (accept c q user payload s).watched = s.watched := by
  unfold accept; dsimp only; (repeat' split) <;> simp

@[simp] theorem takeData_watched (c : Chan) (q : Seq) (user : Word) (payload : List Byte) (s : State) :
    (takeData c q user payload s).watched = s.watched := by
  unfold takeData; dsimp only; (repeat' split) <;> simp

@[simp] theorem reportDamage_watched (s : State) : (reportDamage s).watched = s.watched := by
  unfold reportDamage; split <;> simp

@[simp] theorem takeArrival_watched (a : LandArrival) (s : State) : (takeArrival a s).watched = s.watched := by
  unfold takeArrival; split <;> simp

@[simp] theorem takeDamage_watched (framing kindData : Bool) (s : State) :
    (takeDamage framing kindData s).watched = s.watched := by
  unfold takeDamage; dsimp only; (repeat' split) <;> simp

@[simp] theorem finishInDrain_watched (c : Chan) (s : State) : (finishInDrain c s).watched = s.watched := by
  unfold finishInDrain; split <;> simp

@[simp] theorem stopInbound_watched (c : Chan) (cfg : ChanCfg) (s : State) :
    (stopInbound c cfg s).watched = s.watched := by
  unfold stopInbound; simp

@[simp] theorem endLandPayload_watched (e : AccessEnd) (r : DevReq) (s : State) :
    (endLandPayload e r s).watched = s.watched := by
  unfold endLandPayload; split <;> simp

@[simp] theorem endLandHeader_watched (e : AccessEnd) (r : DevReq) (s : State) :
    (endLandHeader e r s).watched = s.watched := by
  unfold endLandHeader; split <;> simp

@[simp] theorem disposeLanding_watched (x : LandEntry) (l : Landing) (s : State) :
    (disposeLanding x l s).watched = s.watched := by
  unfold disposeLanding; split <;> simp

@[simp] theorem returnSlot_watched (x : LandEntry) (l : Landing) (st : Status) (s : State) :
    (returnSlot x l st s).watched = s.watched := by
  unfold returnSlot; dsimp only; (repeat' split) <;> simp

@[simp] theorem returnPosted_watched (c : Chan) (i : Nat) (s : State) :
    (returnPosted c i s).watched = s.watched := by rfl

/-! ### The Window Matcher and the Command Unit -/

@[simp] theorem afterLatch_watched (w : ControlWord) (be : BitVec 4) (s : State) :
    (afterLatch w be s).watched = s.watched := by
  unfold afterLatch; (repeat' split) <;> simp

@[simp] theorem latchRecordWord_watched (s : State) (w : RecordWord) : (latchRecordWord s w).watched = s.watched := by
  unfold latchRecordWord; split <;> simp

@[simp] theorem handover_watched (c : Chan) (i : Nat) (d : Word) (s : State) :
    (handover c i d s).watched = s.watched := by
  unfold handover; split <;> simp

@[simp] theorem duplicate_watched (c : Chan) (i : Nat) (s : State) : (duplicate c i s).watched = s.watched := by rfl

@[simp] theorem violation_watched (c : Chan) (i off : Nat) (s : State) :
    (violation c i off s).watched = s.watched := by rfl

@[simp] theorem plainSlotWord_watched (c : Chan) (i off : Nat) (w : RecordWord) (s : State) :
    (plainSlotWord c i off w s).watched = s.watched := by
  unfold plainSlotWord; split <;> simp

@[simp] theorem startLoad_watched (cmd : Command) (s : State) : (startLoad cmd s).watched = s.watched := by
  unfold startLoad; split <;> simp

@[simp] theorem activateOut_watched (n : Chan) (cfg : ChanCfg) (s : State) :
    (activateOut n cfg s).watched = s.watched := by
  unfold activateOut; simp

@[simp] theorem activateChan_watched (n : Chan) (cfg : ChanCfg) (s : State) :
    (activateChan n cfg s).watched = s.watched := by rfl

@[simp] theorem activateIn_watched (n : Chan) (cfg : ChanCfg) (k : Nat) (s : State) :
    (activateIn n cfg k s).watched = s.watched := by
  unfold activateIn; simp

@[simp] theorem activate_watched (n : Chan) (cfg : ChanCfg) (s : State) : (activate n cfg s).watched = s.watched := by
  unfold activate; split <;> simp

@[simp] theorem judgeRecord_watched (n : Chan) (f : RecordFields) (s : State) :
    (judgeRecord n f s).watched = s.watched := by
  unfold judgeRecord; split <;> simp

@[simp] theorem endLoad_watched (n : Chan) (e : AccessEnd) (r : DevReq) (s : State) :
    (endLoad n e r s).watched = s.watched := by
  unfold endLoad; split <;> simp

@[simp] theorem startStop_watched (cmd : Command) (s : State) : (startStop cmd s).watched = s.watched := by
  unfold startStop; (repeat' split) <;> simp

@[simp] theorem endDetail_watched (e : AccessEnd) (r : DevReq) (s : State) :
    (endDetail e r s).watched = s.watched := by
  unfold endDetail; dsimp only; split <;> simp [*]

@[simp] theorem applyLatches_watched (ws : List RecordWord) (s : State) :
    (applyLatches ws s).watched = s.watched := watched_foldl _ (fun s w => latchRecordWord_watched s w) ws s

@[simp] theorem SlotPass.word_watched (c : Chan) (i off : Nat) (w : RecordWord) (p : SlotPass) :
    (p.word c i off w).state.watched = p.state.watched := by
  unfold SlotPass.word SlotPass.violate; (repeat' split) <;> simp

@[simp] theorem slotRecordWord_watched (p : SlotPass) (w : RecordWord) :
    (slotRecordWord p w).state.watched = p.state.watched := by
  unfold slotRecordWord; split <;> simp

theorem slotWords_watched (ws : List RecordWord) (p : SlotPass) :
    (ws.foldl slotRecordWord p).state.watched = p.state.watched := by
  induction ws generalizing p with
  | nil => rfl
  | cons w ws ih => simp [ih]

@[simp] theorem applySlots_watched (ws : List RecordWord) (s : State) :
    (applySlots ws s).watched = s.watched := slotWords_watched ws _

/-! ### The rows of the units -/

@[simp] theorem captureNotice_watched (s : State) : (captureNotice s).watched = s.watched := by
  unfold captureNotice; split <;> simp

@[simp] theorem initTimerExpires_watched (s : State) : (initTimerExpires s).watched = s.watched := by
  unfold initTimerExpires; split <;> simp

@[simp] theorem damaged_watched (ws : List LinkWord) (s : State) : (damaged ws s).watched = s.watched := by
  unfold damaged; (repeat' split) <;> simp

@[simp] theorem clearQueued_watched (c : Chan) (s : State) : (clearQueued c s).watched = s.watched := by rfl

@[simp] theorem handTransmit_watched (a : TxArrival) (s : State) : (handTransmit a s).watched = s.watched := by rfl

@[simp] theorem popTransmit_watched (s : State) : (popTransmit s).watched = s.watched := by rfl

@[simp] theorem ackArrives_watched (ws : List LinkWord) (s : State) : (ackArrives ws s).watched = s.watched := by
  unfold ackArrives; (repeat' split) <;> simp

@[simp] theorem nakArrives_watched (ws : List LinkWord) (s : State) : (nakArrives ws s).watched = s.watched := by
  unfold nakArrives; (repeat' split) <;> simp

@[simp] theorem transmitNotice_watched (s : State) : (transmitNotice s).watched = s.watched := by
  unfold transmitNotice; split <;> simp

@[simp] theorem handLanding_watched (a : LandArrival) (s : State) : (handLanding a s).watched = s.watched := by rfl

@[simp] theorem popLanding_watched (s : State) : (popLanding s).watched = s.watched := by rfl

@[simp] theorem dataTaken_watched (s : State) : (dataTaken s).watched = s.watched := by
  unfold dataTaken; split <;> simp

@[simp] theorem dataArrives_watched (ws : List LinkWord) (s : State) : (dataArrives ws s).watched = s.watched := by
  unfold dataArrives; (repeat' split) <;> simp

@[simp] theorem ackDelayExpires_watched (s : State) : (ackDelayExpires s).watched = s.watched := by
  unfold ackDelayExpires; split <;> simp

@[simp] theorem settleDest_watched (d : Chan) (s : State) : (settleDest d s).watched = s.watched := by
  unfold settleDest; apply watched_foldl; intro s c; split <;> simp

@[simp] theorem takeCredit_watched (d : Chan) (isOpen : Bool) (g : BitVec 8) (v : BitVec 16) (s : State) :
    (takeCredit d isOpen g v s).watched = s.watched := by
  unfold takeCredit; dsimp only; (repeat' split) <;> simp

@[simp] theorem handCredit_watched (a : CreditArrival) (s : State) : (handCredit a s).watched = s.watched := by rfl

@[simp] theorem popCredit_watched (s : State) : (popCredit s).watched = s.watched := by rfl

@[simp] theorem creditTaken_watched (s : State) : (creditTaken s).watched = s.watched := by
  unfold creditTaken; split <;> simp

@[simp] theorem creditArrives_watched (ws : List LinkWord) (s : State) :
    (creditArrives ws s).watched = s.watched := by
  unfold creditArrives; (repeat' split) <;> simp

@[simp] theorem refreshExpires_watched (s : State) : (refreshExpires s).watched = s.watched := by
  unfold refreshExpires; split <;> simp

@[simp] theorem creditNotice_watched (s : State) : (creditNotice s).watched = s.watched := by
  unfold creditNotice; split <;> simp

end Sys2Proof.Machine

namespace Sys2Proof.Machine

/-! ## What any operation of a unit does to the watched fields

`a.Leads b`: an operation may lead from `a` to `b`. It keeps the anchor, does not bring the Host Port into or out of
TRANSFER nor into IDLE, and keeps the laws of the held read, the mailbox and the outgoing lane. -/

/-- A read is held, with a holding slot, exactly in HELD (R6, R153, R154). -/
def Watched.heldOk (w : Watched) : Prop := w.held.isSome = w.host.isHeld ∧ ∀ h, w.held = some h → h.slots ≠ []

/-- A command waits only behind an executing one (R24). -/
def Watched.mailOk (w : Watched) : Prop := w.busy = false → w.waiting = none

/-- The outgoing lane as the link and the send have it (R83). -/
def Watched.laneOk (w : Watched) : Prop :=
  w.laneOut = if w.silent then [none] else match w.sending with
    | none => [some .idle]
    | some x => sendWords x.words

structure Watched.Leads (a b : Watched) : Prop where
  anchor : b.anchor = a.anchor
  transfer : b.host.inTransfer = a.host.inTransfer
  idle : b.host = .idle → a.host = .idle
  held : a.heldOk → b.heldOk
  mail : a.mailOk → b.mailOk
  lane : a.laneOk → b.laneOk

@[simp] theorem Watched.Leads.refl (a : Watched) : a.Leads a := ⟨rfl, rfl, id, id, id, id⟩

theorem Watched.Leads.trans {a b c : Watched} (h : a.Leads b) (k : b.Leads c) : a.Leads c :=
  ⟨k.anchor.trans h.anchor, k.transfer.trans h.transfer, h.idle ∘ k.idle, k.held ∘ h.held, k.mail ∘ h.mail,
    k.lane ∘ h.lane⟩

/-- The laws of Safety.lean in these words. -/
theorem heldLaw_iff (s : State) : HeldLaw s ↔ s.watched.heldOk := Iff.rfl

theorem mailboxLaw_iff (s : State) : MailboxLaw s ↔ s.watched.mailOk := by
  simp [MailboxLaw, Watched.mailOk, State.watched]

theorem laneOk_iff (s : State) : s.watched.laneOk ↔ s.laneOut = laneStream s.link s.tx := by
  rw [laneStream_eq]
  by_cases h : s.link.state = .off
  · simp [Watched.laneOk, State.watched, h]
  · cases hx : s.tx.sending <;> simp [Watched.laneOk, State.watched, h, hx]

theorem laneOutLaw_iff (s : State) : LaneOutLaw s ↔ s.watched.laneOk := by
  rw [laneOk_iff, laneStream_eq]
  unfold LaneOutLaw
  by_cases h : s.link.state = .off
  · simp [h]
  · cases hx : s.tx.sending <;> simp [h]

theorem leads_foldl {α : Type} {w : Watched} (f : State → α → State)
    (h : ∀ s a, w.Leads s.watched → w.Leads (f s a).watched) (l : List α) (s : State) (hs : w.Leads s.watched) :
    w.Leads (l.foldl f s).watched := by
  induction l generalizing s with
  | nil => exact hs
  | cons a l ih => exact ih _ (h s a hs)

section
variable {w : Watched} {s : State}

/-! ### The outgoing lane -/

/-- A change of the link and the send that leaves the lane as they have it. -/
theorem leads_lane (h : w.Leads s.watched) (t : State) (hw : t.wm.anchor = s.wm.anchor) (hh : t.host = s.host)
    (he : t.land.heldRead = s.land.heldRead) (hb : t.cmd.executing.isSome = s.cmd.executing.isSome)
    (hc : t.cmd.waiting = s.cmd.waiting) (hl : t.laneOut = laneStream t.link t.tx) : w.Leads t.watched := by
  refine h.trans ⟨hw, congrArg _ hh, fun k => hh.symm.trans k, ?_, ?_, fun _ => (laneOk_iff t).mpr hl⟩
  · simp [Watched.heldOk, State.watched, hh, he]
  · simp [Watched.mailOk, State.watched, hb, hc]

@[simp] theorem transmit_leads (f : Frame) (b : Option Buf) (h : w.Leads s.watched) :
    w.Leads (transmit f b s).watched :=
  leads_lane h _ rfl rfl rfl rfl rfl rfl

@[simp] theorem linkReset_leads (cause : Cause) (h : w.Leads s.watched) : w.Leads (linkReset cause s).watched := by
  unfold linkReset
  rw [callStatus_watched]
  have hd : w.Leads (postDown cause (count Counters.linkReset s)).watched := by simpa using h
  exact leads_lane hd _ rfl rfl rfl rfl rfl rfl

@[simp] theorem reportReset_leads (cause : Cause) (h : w.Leads s.watched) : w.Leads (reportReset cause s).watched := by
  unfold reportReset; split <;> simp [h]

@[simp] theorem installLink_leads (p : LinkParams) (h : w.Leads s.watched) : w.Leads (installLink p s).watched := by
  unfold installLink
  rw [endCommand_watched, callStatus_watched]
  exact leads_lane h _ rfl rfl rfl rfl rfl rfl

@[simp] theorem linkRecordEnd_leads (e : AccessEnd) (r : DevReq) (h : w.Leads s.watched) :
    w.Leads (linkRecordEnd e r s).watched := by
  unfold linkRecordEnd; dsimp only; (repeat' split) <;> simp [h]

@[simp] theorem startDisable_leads (h : w.Leads s.watched) : w.Leads (startDisable s).watched := by
  unfold startDisable; split <;> simp [h]

@[simp] theorem lockLost_leads (ws : List LinkWord) (h : w.Leads s.watched) : w.Leads (lockLost ws s).watched := by
  unfold lockLost; dsimp only; (repeat' split) <;> simp [h]

@[simp] theorem takeInit_leads (epoch : Epoch) (heard : Option Epoch) (h : w.Leads s.watched) :
    w.Leads (takeInit epoch heard s).watched := by
  unfold takeInit; split
  case h_1 hs => dsimp only; split <;> simp [h, hs, enterUp_watched]
  case h_2 => split <;> simp [h]
  all_goals exact h

@[simp] theorem initArrives_leads (ws : List LinkWord) (h : w.Leads s.watched) :
    w.Leads (initArrives ws s).watched := by
  unfold initArrives; split <;> simp [h]

@[simp] theorem syncTimerExpires_leads (h : w.Leads s.watched) : w.Leads (syncTimerExpires s).watched := by
  unfold syncTimerExpires; split <;> simp [h]

/-! ### The replay pass -/

@[simp] theorem restOn_leads (x : ReplayEntry) (h : w.Leads s.watched) : w.Leads (restOn x s).watched := by
  unfold restOn retryLimitReached; (repeat' split) <;> simp [h]

@[simp] theorem movePass_leads (x : ReplayEntry) (h : w.Leads s.watched) : w.Leads (movePass x s).watched := by
  unfold movePass; dsimp only; split <;> simp [h]

@[simp] theorem startPass_leads (x : ReplayEntry) (h : w.Leads s.watched) : w.Leads (startPass x s).watched := by
  unfold startPass; simp [h]

@[simp] theorem adjustPass_leads (h : w.Leads s.watched) : w.Leads (adjustPass s).watched := by
  unfold adjustPass; (repeat' split) <;> simp [h]

@[simp] theorem takeAck_leads (d : Option Seq) (rs : List RefusalEntry) (h : w.Leads s.watched) :
    w.Leads (takeAck d rs s).watched := by
  unfold takeAck coverAck; (repeat' split) <;> simp [h, watched_foldl _ (completeEntry_watched _)]

@[simp] theorem takeNak_leads (e : Seq) (h : w.Leads s.watched) : w.Leads (takeNak e s).watched := by
  unfold takeNak coverNak; dsimp only; (repeat' split) <;> simp [h]

@[simp] theorem expiryPass_leads (h : w.Leads s.watched) : w.Leads (expiryPass s).watched := by
  unfold expiryPass; (repeat' split) <;> simp [h]

@[simp] theorem ackTaken_leads (h : w.Leads s.watched) : w.Leads (ackTaken s).watched := by
  unfold ackTaken; split <;> simp [h]

@[simp] theorem nakTaken_leads (h : w.Leads s.watched) : w.Leads (nakTaken s).watched := by
  unfold nakTaken; split <;> simp [h]

@[simp] theorem ackTimerTurn_leads (h : w.Leads s.watched) : w.Leads (ackTimerTurn s).watched := by
  unfold ackTimerTurn ackTimerExpires; split <;> simp [h]

@[simp] theorem endRefetchRead_leads (b : Buf) (e : AccessEnd) (r : DevReq) (h : w.Leads s.watched) :
    w.Leads (endRefetchRead b e r s).watched := by
  unfold endRefetchRead faultRefetch; (repeat' split) <;> simp [h]

/-! ### Sends -/

@[simp] theorem advancePass_leads (q : Seq) (h : w.Leads s.watched) : w.Leads (advancePass q s).watched := by
  unfold advancePass; split <;> simp [h]

@[simp] theorem sendInitFrame_leads (h : w.Leads s.watched) : w.Leads (sendInitFrame s).watched := by
  unfold sendInitFrame; split <;> simp [h]

@[simp] theorem sendAckFrame_leads (h : w.Leads s.watched) : w.Leads (sendAckFrame s).watched := by
  unfold sendAckFrame; split <;> simp [h]

@[simp] theorem sendNakFrame_leads (h : w.Leads s.watched) : w.Leads (sendNakFrame s).watched := by
  unfold sendNakFrame; split <;> simp [h]

@[simp] theorem sendCreditFrame_leads (h : w.Leads s.watched) : w.Leads (sendCreditFrame s).watched := by
  unfold sendCreditFrame; (repeat' split) <;> simp [h]

@[simp] theorem sendAgain_leads (x : ReplayEntry) (b : Buf) (h : w.Leads s.watched) :
    w.Leads (sendAgain x b s).watched := by
  refine advancePass_leads _ (transmit_leads _ _ ?_)
  simp [h]

@[simp] theorem resendFrame_leads (h : w.Leads s.watched) : w.Leads (resendFrame s).watched := by
  unfold resendFrame; split <;> simp [h]

@[simp] theorem firstSendFrame_leads (h : w.Leads s.watched) : w.Leads (firstSendFrame s).watched := by
  unfold firstSendFrame sendNew; split <;> simp [h]

@[simp] theorem endSend_leads (how : SendEnd) (h : w.Leads s.watched) : w.Leads (endSend how s).watched := by
  unfold endSend; (repeat' split)
  case h_1 =>
    rw [reportEnd_watched]
    exact leads_lane h _ rfl rfl rfl rfl rfl rfl
  all_goals simp [h]

/-! ### The held read -/

/-- A slot leaves LANDING: the read stays held by the slots left, or is released clear (R6, R154). -/
@[simp] theorem leaveLanding_leads (c : Chan) (i : Nat) (h : w.Leads s.watched) :
    w.Leads (leaveLanding c i s).watched := by
  refine h.trans ?_
  unfold leaveLanding
  split
  case h_2 => exact .refl _
  next k hk =>
  split
  case isFalse => exact .refl _
  generalize k.slots.filter (fun x => decide (x ≠ (c, i))) = rest
  refine ⟨rfl, ?_, ?_, ?_, id, id⟩
  · cases hh : s.host <;> cases rest <;> simp [State.watched, hh, HostPort.inTransfer]
  · cases hh : s.host <;> cases rest <;> simp [State.watched, hh]
  · rintro ⟨hs, -⟩
    have hs : s.land.heldRead.isSome = s.host.isHeld := hs
    cases hh : s.host <;> simp [hk, hh, HostPort.isHeld] at hs
    cases rest <;> simp [State.watched, Watched.heldOk, HostPort.isHeld]

@[simp] theorem landingNotice_leads (h : w.Leads s.watched) : w.Leads (landingNotice s).watched := by
  unfold landingNotice; split
  · exact h
  · rw [acknowledge_watched]
    unfold landingReset
    refine leads_foldl _ (fun s c h => by simpa using h) _ _ (leads_foldl _ (fun s e h => ?_) _ _ ?_)
    · unfold discardEntry; split <;> simp [h]
    · simpa using h

@[simp] theorem endLandWord0_leads (e : AccessEnd) (r : DevReq) (h : w.Leads s.watched) :
    w.Leads (endLandWord0 e r s).watched := by
  unfold endLandWord0; split <;> simp [h]

/-- The guard timer's expiry releases the read (R6, R155). -/
@[simp] theorem guardExpires_leads (k : HeldRead) (h : w.Leads s.watched) : w.Leads (guardExpires k s).watched := by
  have released : s.watched.Leads (State.watched { s with
      land := { s.land with heldRead := none }
      host := match s.host with
        | .held a => .waiting a
        | other => other }) := by
    refine ⟨rfl, ?_, ?_, ?_, id, id⟩ <;>
      cases hh : s.host <;> simp [State.watched, hh, HostPort.inTransfer, Watched.heldOk, HostPort.isHeld]
  unfold guardExpires; dsimp only
  split
  · rw [post_watched, count_watched]; exact h.trans released
  · rw [count_watched]; exact h.trans released

@[simp] theorem guardTurn_leads (h : w.Leads s.watched) : w.Leads (guardTurn s).watched := by
  unfold guardTurn; (repeat' split) <;> simp [h]

/-! ### Commands -/

@[simp] theorem startCommand_leads (cmd : Command) (h : w.Leads s.watched) : w.Leads (startCommand cmd s).watched := by
  unfold startCommand; split <;> simp [h]

/-- A command that waits behind an executing one. -/
theorem leads_busy (h : w.Leads s.watched) (u : CommandUnit) (hu : u.executing.isSome = true) :
    w.Leads (State.watched { s with cmd := u }) :=
  h.trans ⟨rfl, rfl, id, id, fun _ hb => absurd (hu.symm.trans hb) (by decide), id⟩

@[simp] theorem execute_leads (cmd : Command) (h : w.Leads s.watched) : w.Leads (execute cmd s).watched :=
  startCommand_leads cmd (leads_busy h _ rfl)

/-- Neither place holds a command. -/
theorem leads_vacant (h : w.Leads s.watched) : w.Leads (State.watched { s with cmd := ⟨none, none⟩ }) :=
  h.trans ⟨rfl, rfl, id, id, fun _ _ => rfl, id⟩

@[simp] theorem endResponse_leads (e : AccessEnd) (r : DevReq) (h : w.Leads s.watched) :
    w.Leads (endResponse e r s).watched := by
  have hp : w.Leads (postFaultIf e 0 .record r.addr s).watched := by simpa using h
  unfold endResponse; dsimp only
  split
  · exact execute_leads _ (leads_vacant hp)
  · exact leads_vacant hp

@[simp] theorem commandArrival_leads (cmd : Command) (h : w.Leads s.watched) :
    w.Leads (commandArrival cmd s).watched := by
  unfold commandArrival; split
  case h_1 => exact execute_leads cmd h
  case h_2 hx _ => exact leads_busy h _ (by simp [hx])
  case h_3 => simpa using h

@[simp] theorem applyRecord_leads (r : WriteRecord) (h : w.Leads s.watched) : w.Leads (applyRecord r s).watched := by
  unfold applyRecord applyCommand; (repeat' split) <;> simp [h]

/-- The owner of an ended device access goes on (R16). -/
@[simp] theorem ownerGoesOn_leads (e : AccessEnd) (r : DevReq) (h : w.Leads s.watched) :
    w.Leads (ownerGoesOn e r s).watched := by
  unfold ownerGoesOn; split <;> simp [h]

end
end Sys2Proof.Machine

namespace Sys2Proof.Machine

/-! ## What a command can do

Every command that completes has one of these effects; each law of the whole machine is then an argument over them. -/

/-- The host-side request is that of WAITING (R3). -/
theorem request?_eq_some (h : HostPort) (a : HostAccess) : h.request? = some a ↔ h = .waiting a := by
  cases h <;> simp [HostPort.request?]

/-- `Effect c s t`: the command `c` may lead from `s` to `t`. -/
inductive Effect (c : Instr) (s : State) : State → Prop
  | stays : Effect c s s
  | reset (kept : List Bool) (hc : c = .pinReset kept) :
    Effect c s { State.reset with mem := abandonedMem kept s, free := s.free, pending := s.pending }
  | released (straps : BitVec 4) (hc : c = .resetNRelease straps) :
    Effect c s (arriveNext { s with resetLow := false, timebase := 0#32, wm := { s.wm with anchor := straps } })
  | presents (a : HostAccess) : Effect c s (presentAccess a s)
  | grantsHost (a : HostAccess) (hp : s.port.granted = none) (hh : s.host = .waiting a) : Effect c s (grantHost a s)
  | grantsDevice (r : DevReq) (hp : s.port.granted = none) : Effect c s (grantDevice r s)
  | hostEnds (a : HostAccess) (e : AccessEnd) (data : List Word) (hp : s.port.granted = some .host)
    (hh : s.host = .transfer a) : Effect c s (endTransfer a e data s)
  | deviceEnds (r : DevReq) (e : AccessEnd) (hp : s.port.granted = some (.device r)) :
    Effect c s (ownerGoesOn e r (endDevice r e s))
  | takes (r : WriteRecord) (hh : s.host = .handoff r) :
    Effect c s (arriveNext (applyRecord r { s with host := .idle }))
  | inner (t : State) (ho : t.outer = s.outer) (hw : s.watched.Leads t.watched) : Effect c s t

section
variable {c : Instr} {s t : State}

/-- A step that takes place only with RESET_N high. -/
theorem effect_live {f : State → State} (hf : Effect c s (f s)) (h : live f s = .next t) : Effect c s t := by
  cases h
  split
  · exact .stays
  · exact hf

/-- The step of a unit. -/
theorem effect_unit {f : State → State} (ho : ∀ s, (f s).outer = s.outer)
    (hw : ∀ s : State, s.watched.Leads (f s).watched) (h : live f s = .next t) : Effect c s t :=
  effect_live (.inner _ (ho s) (hw s)) h

theorem effect_deviceEnd (mine : Purpose → Bool) (e : AccessEnd) : Effect c s (deviceEnd mine e s) := by
  unfold deviceEnd atDeviceEnd
  split
  case h_1 r hp =>
    split
    · exact .deviceEnds r e hp
    · exact .stays
  all_goals exact .stays

theorem effect_takeRecord (mine : Matcher → WriteRecord → Bool) : Effect c s (takeRecord mine s) := by
  unfold takeRecord
  split
  case h_1 r hh =>
    split
    · exact .takes r hh
    · exact .stays
  all_goals exact .stays

theorem effect_arbitrate : Effect c s (arbitrate s) := by
  unfold arbitrate
  split
  · exact .stays
  · next hp =>
    dsimp only
    split
    · next hr => exact .grantsHost _ hp ((request?_eq_some _ _).mp hr)
    · exact .grantsDevice _ hp
    · exact .stays

theorem effect_hostEnd (e : AccessEnd) : Effect c s (hostEnd e s) := by
  unfold hostEnd
  split
  · next hp hh => exact .hostEnds _ _ _ hp hh
  · exact .stays

theorem effect_timeout (kept : List Bool) (answered : List Word) : Effect c s (responseTimeout kept answered s) := by
  unfold responseTimeout
  split
  · split
    · next hp hh => exact .hostEnds _ _ _ hp hh
    · exact effect_deviceEnd _ _
    · exact .stays
  · exact .stays

/-- The effects of a command that completes. -/
theorem exec_effect (h : exec c s = .next t) : Effect c s t := by
  cases c with
  | pinReset kept => cases h; exact .reset kept rfl
  | resetNRelease straps =>
    cases h
    split
    · exact .released straps rfl
    · exact .stays
  | hostReadArrival addr enables =>
    simp only [exec, execHostReadArrival] at h
    split at h <;> cases h
    exact .presents _
  | hostWriteArrival addr words =>
    simp only [exec, execHostWriteArrival] at h
    split at h <;> cases h
    exact .presents _
  | memoryGrant => exact effect_live effect_arbitrate h
  | hostAccessEnd e => exact effect_live (effect_hostEnd e) h
  | memoryResponseTimeout kept answered => exact effect_live (effect_timeout kept answered) h
  | completedWriteRecord | argumentWordWrite | consumerIndexWrite | interruptControlWrite | echo | loadChannel
  | stopChannel | linkEnable | linkDisable | eventsStart | eventsStop | snapshot | badCommand =>
    exact effect_live (effect_takeRecord _) h
  | responseDetailWriteEnd e | responseWordWriteEnd e | channelRecordReadEnd e | linkRecordReadEnd e
  | stagingReadEnd e | refetchReadEnd e | writebackHeaderBurstEnd e | writebackWord0End e | linkStatusWriteEnd e
  | landingPayloadWriteEnd e | landingHeaderWriteEnd e | landingWord0WriteEnd e | eventRecordWriteEnd e
  | eventsLostWriteEnd e | producerWriteEnd e | startProducerWriteEnd e | snapshotBurstEnd e =>
    exact effect_live (effect_deviceEnd _ e) h
  | ackReceived how | nakReceived how | dataReceived how | creditReceived how =>
    cases how <;> exact effect_unit (by simp) (by simp) h
  | _ => exact effect_unit (by simp) (by simp) h

end
end Sys2Proof.Machine

namespace Sys2Proof.Machine

/-! ## Laws that every step keeps -/

/-- A law that the queue does not touch, that a tick keeps and that every effect of a command keeps, is kept by every
step. -/
theorem stepKeeps_of_effect {P : State → Prop} (hq : ∀ s q, P s → P (s.withQueue q)) (ht : ∀ s, P s → P (tick s))
    (he : ∀ c s t, Effect c s t → P s → P t) : StepKeeps P := by
  intro s t hs h
  unfold step at h
  split at h
  · cases h; exact ht s hs
  · exact he _ _ _ (exec_effect h) (hq s _ hs)

/-! ### Arrivals -/

/-- The guard's list holds a slot whenever a read is held (R153). -/
theorem guardVerdict_slots (ws : List RecordWord) (s : State) (h : HeldRead) (hg : guardVerdict ws s = some h) :
    h.slots ≠ [] := by
  unfold guardVerdict at hg
  split at hg
  · cases hg
  · cases hg; simp [List.eraseDups_cons]

section
variable {w : Watched} {s : State}

/-- An access that arrives in IDLE waits, or is held by a slot. -/
theorem arrive_leads (a : HostAccess) (hi : s.host = .idle) (h : w.Leads s.watched) : w.Leads (arrive a s).watched := by
  refine h.trans ?_
  unfold arrive
  split
  · next k hk =>
    have hg : guardVerdict (recordWords a.start a.words) s = some k := by
      split at hk
      · cases hk
      · exact hk
    refine ⟨rfl, by simp [State.watched, hi, HostPort.inTransfer], by simp [State.watched], fun _ => ?_, id, id⟩
    simpa [Watched.heldOk, State.watched, HostPort.isHeld] using guardVerdict_slots _ _ _ hg
  · refine ⟨rfl, by simp [State.watched, hi, HostPort.inTransfer], by simp [State.watched], ?_, id, id⟩
    simp [Watched.heldOk, State.watched, HostPort.isHeld, hi]

@[simp] theorem arriveNext_leads (h : w.Leads s.watched) : w.Leads (arriveNext s).watched := by
  unfold arriveNext
  split
  · next hi _ => exact arrive_leads _ hi h
  all_goals exact h

theorem presentAccess_leads (a : HostAccess) (h : w.Leads s.watched) : w.Leads (presentAccess a s).watched := by
  unfold presentAccess leaveSelect
  split
  · exact h
  · split
    · next hi => exact arrive_leads _ hi h
    all_goals exact h

end

@[simp] theorem presentAccess_outer (a : HostAccess) (s : State) :
    (presentAccess a s).outer = { s.outer with presented := (presentAccess a s).presented } := by
  unfold presentAccess leaveSelect
  split
  · rfl
  · split
    case h_1 => rw [arrive_outer]; unfold arrive; split <;> rfl
    all_goals rfl

/-! ### Fields of the outer state -/

section
variable (s : State)

theorem arriveNext_mem : (arriveNext s).mem = s.mem := congrArg Outer.mem (arriveNext_outer s)
theorem arriveNext_port : (arriveNext s).port = s.port := congrArg Outer.port (arriveNext_outer s)
theorem presentAccess_mem (a : HostAccess) : (presentAccess a s).mem = s.mem :=
  congrArg Outer.mem (presentAccess_outer a s)
theorem presentAccess_port (a : HostAccess) : (presentAccess a s).port = s.port :=
  congrArg Outer.port (presentAccess_outer a s)
theorem presentAccess_resetLow (a : HostAccess) : (presentAccess a s).resetLow = s.resetLow :=
  congrArg Outer.resetLow (presentAccess_outer a s)
theorem applyRecord_mem (r : WriteRecord) : (applyRecord r s).mem = s.mem := congrArg Outer.mem (applyRecord_outer r s)
theorem applyRecord_port (r : WriteRecord) : (applyRecord r s).port = s.port :=
  congrArg Outer.port (applyRecord_outer r s)
theorem ownerGoesOn_mem (e : AccessEnd) (r : DevReq) : (ownerGoesOn e r s).mem = s.mem :=
  congrArg Outer.mem (ownerGoesOn_outer e r s)
theorem ownerGoesOn_port (e : AccessEnd) (r : DevReq) : (ownerGoesOn e r s).port = s.port :=
  congrArg Outer.port (ownerGoesOn_outer e r s)
theorem ownerGoesOn_presented (e : AccessEnd) (r : DevReq) : (ownerGoesOn e r s).presented = s.presented :=
  congrArg Outer.presented (ownerGoesOn_outer e r s)
theorem ownerGoesOn_resetLow (e : AccessEnd) (r : DevReq) : (ownerGoesOn e r s).resetLow = s.resetLow :=
  congrArg Outer.resetLow (ownerGoesOn_outer e r s)

end

/-! ### Memory -/

/-- Memory when the access in progress ends or is abandoned: a write of which some words were taken, or unchanged. -/
def State.writesInHand (s : State) (m : List Host.Cell) : Prop :=
  m = s.mem ∨ ∃ x kept, s.writeInHand = some x ∧ m = memWriteBurst s.mem x.1 x.2 kept

/-- What memory holds when pin reset abandons the access in progress (log 6). -/
theorem abandonedMem_eq (kept : List Bool) (s : State) :
    abandonedMem kept s = s.writeInHand.elim s.mem (fun x => memWriteBurst s.mem x.1 x.2 kept) := by
  unfold abandonedMem State.writeInHand
  rcases s.port.granted with _ | _ | r
  · rfl
  · rcases s.host with _ | _ | _ | a | _
    case transfer => cases hw : a.write <;> simp [hw]
    all_goals rfl
  · cases hw : r.write <;> simp [hw]

theorem abandonedMem_writes (kept : List Bool) (s : State) : s.writesInHand (abandonedMem kept s) := by
  rw [abandonedMem_eq]
  cases h : s.writeInHand with
  | none => exact .inl rfl
  | some x => exact .inr ⟨x, kept, h, rfl⟩

theorem endHost_writes (a : HostAccess) (e : AccessEnd) (data : List Word) (s : State)
    (hp : s.port.granted = some .host) (hh : s.host = .transfer a) : s.writesInHand (endHost a e data s).mem := by
  simp only [endHost, memAfter]
  split
  · next hw => exact .inr ⟨(a.start, a.words), _, by simp [State.writeInHand, hp, hh, hw], rfl⟩
  · exact .inl rfl

theorem endDevice_writes (r : DevReq) (e : AccessEnd) (s : State) (hp : s.port.granted = some (.device r)) :
    s.writesInHand (endDevice r e s).mem := by
  simp only [endDevice, memAfter]
  split
  · next hw => exact .inr ⟨(r.addr, r.words), _, by simp [State.writeInHand, hp, hw], rfl⟩
  · exact .inl rfl

/-- Only the write in progress changes memory (R9). -/
theorem effect_mem {c : Instr} {s t : State} (h : Effect c s t) : s.writesInHand t.mem := by
  cases h with
  | stays => exact .inl rfl
  | reset kept => exact abandonedMem_writes kept s
  | released => exact .inl (arriveNext_mem _)
  | presents a => exact .inl (presentAccess_mem s a)
  | grantsHost | grantsDevice => exact .inl rfl
  | hostEnds a e data hp hh =>
    unfold endTransfer
    rw [arriveNext_mem]
    exact endHost_writes a e data s hp hh
  | deviceEnds r e hp =>
    rw [ownerGoesOn_mem]
    exact endDevice_writes r e s hp
  | takes r =>
    rw [arriveNext_mem, applyRecord_mem]
    exact .inl rfl
  | inner _ ho => exact .inl (congrArg Outer.mem ho)

theorem tick_mem (s : State) : (tick s).mem = s.mem := by
  unfold tick; split <;> rfl

theorem effect_keeps_memory (c : Instr) (s t : State) (h : Effect c s t) (hs : MemoryLaw s) : MemoryLaw t := by
  unfold MemoryLaw at *
  obtain hm | ⟨x, kept, -, hm⟩ := effect_mem h <;> rw [hm]
  · exact hs
  · exact memWriteBurst_wf _ _ _ _ hs

/-- Settles O55: only the write in progress reaches memory, and a write burst keeps the canonical form. -/
theorem memoryStaysCanonical : Obligations.MemoryStaysCanonical :=
  stepKeeps_of_effect (fun _ _ => id) (fun s hs => (congrArg (memWf · = true) (tick_mem s)).mpr hs)
    effect_keeps_memory

/-! ### The memory port and the Host Port (R3, R9, R13) -/

theorem tick_keeps_port (s : State) (hs : PortLaw s) : PortLaw (tick s) := by
  unfold tick; split
  · exact hs
  · exact ⟨hs.1, by simpa [tickTimer] using hs.2⟩

/-- The port is as it was, and so is TRANSFER. -/
theorem portLaw_congr {s t : State} (hp : t.port = s.port) (hh : t.host.inTransfer = s.host.inTransfer)
    (hs : PortLaw s) : PortLaw t := by
  unfold PortLaw at *; rw [hp, hh]; exact hs

/-- The port is free, and the Host Port not in TRANSFER. -/
theorem portLaw_free {p : MemPort} {t : State} (hp : t.port = p.release) (hh : t.host.inTransfer = false) :
    PortLaw t := by
  unfold PortLaw; rw [hp, hh]; simp [MemPort.release]

/-- Without a host grant the Host Port is not in TRANSFER. -/
theorem not_inTransfer {s : State} (hs : PortLaw s) (hp : s.port.granted ≠ some .host) : s.host.inTransfer = false :=
  Bool.eq_false_iff.mpr fun h => hp (hs.1.mpr h)

theorem effect_keeps_port (c : Instr) (s t : State) (h : Effect c s t) (hs : PortLaw s) : PortLaw t := by
  cases h with
  | stays => exact hs
  | reset => exact ⟨⟨nofun, nofun⟩, rfl⟩
  | released straps =>
    refine portLaw_congr (s := s) (arriveNext_port _) ?_ hs
    exact (arriveNext_leads (Watched.Leads.refl _)).transfer
  | presents a => exact portLaw_congr (presentAccess_port s a) (presentAccess_leads a (.refl _)).transfer hs
  | grantsHost a => exact ⟨by simp [HostPort.inTransfer], rfl⟩
  | grantsDevice r hp => exact ⟨by simp [not_inTransfer hs (by simp [hp])], rfl⟩
  | hostEnds a e data =>
    refine portLaw_free (p := s.port) (arriveNext_port _) ((arriveNext_leads (.refl _)).transfer.trans ?_)
    simp only [State.watched, endHost]
    split <;> rfl
  | deviceEnds r e hp =>
    refine portLaw_free (p := s.port) (ownerGoesOn_port _ _ _) ((ownerGoesOn_leads e r (.refl _)).transfer.trans ?_)
    exact not_inTransfer (s := s) hs (by simp [hp])
  | takes r hh =>
    refine portLaw_congr (s := s) ((arriveNext_port _).trans (applyRecord_port _ r)) ?_ hs
    refine (arriveNext_leads (applyRecord_leads r (.refl _))).transfer.trans ?_
    simp [State.watched, hh, HostPort.inTransfer]
  | inner _ ho hw => exact portLaw_congr (congrArg Outer.port ho) hw.transfer hs

/-! ### The held read (R6, R153, R154) -/

theorem tick_keeps_held (s : State) (hs : HeldLaw s) : HeldLaw (tick s) := by
  unfold tick; split
  · exact hs
  · refine ⟨by simpa using hs.1, fun h hh => ?_⟩
    obtain ⟨k, hk, rfl⟩ := Option.map_eq_some_iff.mp hh
    exact hs.2 k hk

/-- No read is held while the Host Port is not in HELD. -/
theorem heldLaw_none {s t : State} (hs : HeldLaw s) (hn : s.host.isHeld = false) (ht : t.host.isHeld = false)
    (he : t.land.heldRead = s.land.heldRead) : HeldLaw t := by
  have h0 : s.land.heldRead = none := by simpa [hn] using hs.1
  exact ⟨by simp [he, h0, ht], by simp [he, h0]⟩

theorem effect_keeps_held (c : Instr) (s t : State) (h : Effect c s t) (hs : HeldLaw s) : HeldLaw t := by
  cases h with
  | stays => exact hs
  | reset => exact ⟨rfl, fun h hh => by cases hh⟩
  | released => exact (arriveNext_leads (.refl _)).held hs
  | presents a => exact (presentAccess_leads a (.refl _)).held hs
  | grantsHost a hp hh => exact heldLaw_none hs (by simp [hh, HostPort.isHeld]) rfl rfl
  | grantsDevice => exact hs
  | hostEnds a e data hp hh =>
    refine (arriveNext_leads (.refl _)).held (heldLaw_none hs (by simp [hh, HostPort.isHeld]) ?_ rfl)
    simp only [endHost]
    split <;> rfl
  | deviceEnds r e => exact (ownerGoesOn_leads e r (.refl _)).held hs
  | takes r hh =>
    exact (arriveNext_leads (applyRecord_leads r (.refl _))).held
      (heldLaw_none hs (by simp [hh, HostPort.isHeld]) rfl rfl)
  | inner _ ho hw => exact hw.held hs

/-! ### Presented accesses (R3) -/

theorem tick_keeps_presented (s : State) (hs : PresentedLaw s) : PresentedLaw (tick s) := by
  unfold tick; split <;> exact hs

/-- Once the Host Port has looked, none stays presented in IDLE. -/
theorem arriveNext_presentedLaw (s : State) : PresentedLaw (arriveNext s) := by
  intro _ hi
  obtain ⟨he, hp⟩ := arriveNext_idle s hi
  rw [he, hp]

theorem effect_keeps_presented (c : Instr) (s t : State) (h : Effect c s t) (hs : PresentedLaw s) : PresentedLaw t := by
  cases h with
  | stays | grantsDevice => exact hs
  | reset => exact fun _ _ => rfl
  | released | hostEnds | takes => exact arriveNext_presentedLaw _
  | presents a =>
    intro hl hi
    have hl : s.resetLow = false := (presentAccess_resetLow s a).symm.trans hl
    have hh : s.host = .idle := (presentAccess_leads a (.refl _)).idle hi
    rw [presentAccess_idle a s hl hh] at hi
    unfold arrive at hi
    split at hi <;> cases hi
  | grantsHost a => exact fun _ hi => by cases hi
  | deviceEnds r e =>
    intro hl hi
    rw [ownerGoesOn_presented]
    exact hs ((ownerGoesOn_resetLow (endDevice r e s) e r).symm.trans hl)
      ((ownerGoesOn_leads e r (.refl (endDevice r e s).watched)).idle hi)
  | inner _ ho hw =>
    intro hl hi
    exact (congrArg Outer.presented ho).trans (hs ((congrArg Outer.resetLow ho).symm.trans hl) (hw.idle hi))

/-! ### The mailbox and the outgoing lane (R24, R29, R83) -/

theorem tick_keeps_mailbox (s : State) (hs : MailboxLaw s) : MailboxLaw (tick s) := by
  unfold tick; split <;> exact hs

theorem tick_keeps_laneOut (s : State) (hs : LaneOutLaw s) : LaneOutLaw (tick s) := by
  unfold tick; split <;> exact hs

/-- PIN_RESET leaves the first state; apart from the Host Port's turn and the sampling of the straps, every other effect
leads on from the watched fields as they were. -/
theorem effect_leads {c : Instr} {s t : State} (h : Effect c s t) :
    (∃ kept m, c = .pinReset kept ∧ t = { State.reset with mem := m, free := s.free, pending := s.pending })
    ∨ ∃ host anchor, Watched.Leads { s.watched with host := host, anchor := anchor } t.watched
      ∧ ((∀ straps, c ≠ .resetNRelease straps) → anchor = s.wm.anchor) := by
  cases h with
  | stays | grantsHost | grantsDevice => exact .inr ⟨_, _, .refl _, fun _ => rfl⟩
  | reset kept hk => exact .inl ⟨kept, _, hk, rfl⟩
  | released straps hk => exact .inr ⟨_, straps, arriveNext_leads (.refl _), fun hn => absurd hk (hn straps)⟩
  | presents a => exact .inr ⟨_, _, presentAccess_leads a (.refl s.watched), fun _ => rfl⟩
  | hostEnds a e data => exact .inr ⟨_, _, arriveNext_leads (.refl (endHost a e data s).watched), fun _ => rfl⟩
  | deviceEnds r e => exact .inr ⟨_, _, ownerGoesOn_leads e r (.refl (endDevice r e s).watched), fun _ => rfl⟩
  | takes r =>
    exact .inr ⟨_, _, arriveNext_leads (applyRecord_leads r (.refl (State.watched { s with host := .idle }))),
      fun _ => rfl⟩
  | inner _ ho hw => exact .inr ⟨_, _, hw, fun _ => rfl⟩

theorem effect_keeps_mailbox (c : Instr) (s t : State) (h : Effect c s t) (hs : MailboxLaw s) : MailboxLaw t := by
  obtain ⟨kept, m, -, rfl⟩ | ⟨host, anchor, hl, -⟩ := effect_leads h
  · exact fun _ => rfl
  · exact (mailboxLaw_iff t).mpr (hl.mail ((mailboxLaw_iff s).mp hs))

theorem effect_keeps_laneOut (c : Instr) (s t : State) (h : Effect c s t) (hs : LaneOutLaw s) : LaneOutLaw t := by
  obtain ⟨kept, m, -, rfl⟩ | ⟨host, anchor, hl, -⟩ := effect_leads h
  · exact ⟨fun _ => rfl, fun hn => absurd rfl hn⟩
  · exact (laneOutLaw_iff t).mpr (hl.lane ((laneOutLaw_iff s).mp hs))

/-- Settles O58, each law over the effects of a command. -/
theorem portsAndMailboxStayInStep : Obligations.PortsAndMailboxStayInStep :=
  ⟨stepKeeps_of_effect (fun _ _ => id) tick_keeps_port effect_keeps_port,
    stepKeeps_of_effect (fun _ _ => id) tick_keeps_held effect_keeps_held,
    stepKeeps_of_effect (fun _ _ => id) tick_keeps_presented effect_keeps_presented,
    stepKeeps_of_effect (fun _ _ => id) tick_keeps_mailbox effect_keeps_mailbox,
    stepKeeps_of_effect (fun _ _ => id) tick_keeps_laneOut effect_keeps_laneOut⟩

end Sys2Proof.Machine

namespace Sys2Proof.Machine

/-! ## The reset pin, completion, and the ends of host accesses -/

/-! ### RESET_N (R8, R17, R18) -/

theorem exec_resetNRelease_low (straps : BitVec 4) (s : State) (h : s.resetLow = true) :
    exec (.resetNRelease straps) s = .next (arriveNext
      { s with resetLow := false, timebase := 0#32, wm := { s.wm with anchor := straps } }) := by
  simp [exec, execResetNRelease, h]

/-- Settles O4: the anchor is a watched field, which only the two rows of the reset pin change. -/
theorem anchorFromStraps : Obligations.AnchorFromStraps := by
  refine ⟨fun straps s h => ⟨_, exec_resetNRelease_low straps s h, ?_, rfl⟩, fun straps s h => ?_,
    fun c s t hp hr h => ?_⟩
  · have ha := (arriveNext_leads (Watched.Leads.refl (State.watched
      { s with resetLow := false, timebase := 0#32, wm := { s.wm with anchor := straps } }))).anchor
    exact congrArg (fun x : BitVec 4 => x.toNat * 0x1000000) ha
  · simp [exec, execResetNRelease, show s.resetLow = false from h]
  · obtain ⟨kept, m, rfl, -⟩ | ⟨host, anchor, hl, ha⟩ := effect_leads (exec_effect h)
    · exact absurd rfl (hp kept)
    · exact hl.anchor.trans (ha hr)

/-- While RESET_N is low a command that is not of the reset pin and presents no access has no effect (R17). -/
theorem exec_low (c : Instr) (s : State) (h : s.resetLow = true) (hp : ∀ kept, c ≠ .pinReset kept)
    (hn : ∀ straps, c ≠ .resetNRelease straps) (hr : ∀ a es, c ≠ .hostReadArrival a es)
    (hw : ∀ a ws, c ≠ .hostWriteArrival a ws) : exec c s = .next s := by
  cases c with
  | pinReset kept => exact absurd rfl (hp kept)
  | resetNRelease straps => exact absurd rfl (hn straps)
  | hostReadArrival a es => exact absurd rfl (hr a es)
  | hostWriteArrival a ws => exact absurd rfl (hw a ws)
  | ackReceived how | nakReceived how | dataReceived how | creditReceived how => cases how <;> exact live_low _ s h
  | _ => exact live_low _ s h

/-- A read of a burst length of R1 is presented. -/
theorem exec_read (a : BitVec 26) (es : List (BitVec 4)) (s : State) (h : burstLengthOk es.length = true) :
    exec (.hostReadArrival a es) s = .next (presentAccess (readAccess a es) s) := by
  simp [exec, execHostReadArrival, h]

/-- So is a write. -/
theorem exec_write (a : BitVec 26) (ws : List BusWord) (s : State) (h : burstLengthOk ws.length = true) :
    exec (.hostWriteArrival a ws) s = .next (presentAccess ⟨true, a, ws⟩ s) := by
  simp [exec, execHostWriteArrival, h]

/-- A command that the ports can present completes (log 2). -/
theorem exec_completes (c : Instr) (s : State) (h : c.wf = true) : ∃ t, exec c s = .next t := by
  cases c with
  | hostReadArrival a es => exact ⟨_, exec_read a es s h⟩
  | hostWriteArrival a ws => exact ⟨_, exec_write a ws s h⟩
  | ackReceived how | nakReceived how | dataReceived how | creditReceived how => cases how <;> exact ⟨_, rfl⟩
  | _ => exact ⟨_, rfl⟩

/-- Settles O5. -/
theorem lowAndStops : Obligations.LowAndStops := by
  refine ⟨fun c s h hwf hp hn => ⟨exec_low c s h hp hn, ?_⟩, exec_completes, fun a es s h => ?_, fun a ws s h => ?_⟩
  · by_cases hr : ∃ a es, c = .hostReadArrival a es
    · obtain ⟨a, es, rfl⟩ := hr
      exact ⟨_, (exec_read a es s hwf).trans (congrArg _ (presentAccess_busy _ s (.inl h)))⟩
    by_cases hw : ∃ a ws, c = .hostWriteArrival a ws
    · obtain ⟨a, ws, rfl⟩ := hw
      exact ⟨_, (exec_write a ws s hwf).trans (congrArg _ (presentAccess_busy _ s (.inl h)))⟩
    exact ⟨s.presented, exec_low c s h hp hn (fun a es e => hr ⟨a, es, e⟩) (fun a ws e => hw ⟨a, ws, e⟩)⟩
  · simp [exec, execHostReadArrival, h]
  · simp [exec, execHostWriteArrival, h]

/-! ### Pin reset (R17) -/

/-- Settles O3. -/
theorem resetValues : Obligations.ResetValues := by
  refine ⟨?_, fun kept s => ⟨abandonedMem kept s, rfl, fun w h => by simp [abandonedMem_eq, h],
    fun h => by simp [abandonedMem_eq, h]⟩⟩
  decide

/-- Before the straps are sampled every channel is OFF. -/
theorem reset_cfg_none (c : Chan) : State.reset.wm.cfg? c = none := by
  revert c; decide

/-- Settles O54. -/
theorem lawsAtReset : Obligations.LawsAtReset := by
  have credit : CreditLaw State.reset := by unfold CreditLaw; decide
  have generation : GenerationLaw State.reset := by unfold GenerationLaw; decide
  have areas : AreasLaw State.reset :=
    ⟨fun _ => reset_cfg_none, fun c cfg h => by rw [reset_cfg_none] at h; cases h⟩
  have capture : CaptureLaw State.reset := by unfold CaptureLaw; decide
  exact ⟨reset_memory_wf, rfl, capture, credit, fun _ => rfl, ⟨⟨nofun, nofun⟩, rfl⟩, ⟨rfl, nofun⟩, fun _ _ => rfl,
    List.nodup_nil, ⟨Nat.zero_le _, Nat.zero_le _, Nat.zero_le _⟩, trivial, generation, rfl, areas,
    fun _ => rfl, fun h => absurd rfl h⟩

/-! ### The end of a host access (R3, R4, R7, R13, R14) -/

/-- The end of the granted host access. -/
theorem exec_hostAccessEnd (e : AccessEnd) (s : State) (a : HostAccess) (h : s.on)
    (hp : s.port.granted = some .host) (hh : s.host = .transfer a) :
    exec (.hostAccessEnd e) s = .next (endTransfer a e (hostData a e s) s) := by
  change live (hostEnd e) s = _
  rw [live_on _ _ h]
  simp [hostEnd, hp, hh]

/-- A read leaves memory, and the Host Port looks for a presented access. -/
theorem endTransfer_read (a : HostAccess) (e : AccessEnd) (data : List Word) (s : State) (hw : a.write = false) :
    endTransfer a e data s = arriveNext { s with
      host := .idle, answer := some ⟨false, data, accessOk e⟩, port := { s.port with granted := none, timer := none }
      free := s.free + a.words.length } := by
  simp [endTransfer, endHost, hw, memAfter, MemPort.release]

/-- A write reaches memory, and its record is in HANDOFF. -/
theorem endTransfer_write (a : HostAccess) (e : AccessEnd) (data : List Word) (s : State) (hw : a.write = true) :
    endTransfer a e data s = { s with
      host := .handoff ⟨a.start, recordWords a.start a.words, accessOk e⟩, answer := some ⟨true, [], accessOk e⟩
      port := { s.port with granted := none, timer := none }
      mem := memWriteBurst s.mem a.start a.words (takenWords e a.words.length)
      free := s.free + a.words.length } := by
  unfold endTransfer
  rw [arriveNext_none _ (.inl (by simp [endHost, hw]))]
  simp [endHost, hw, memAfter, MemPort.release]

/-- Settles O8. -/
theorem hostAccessEnds : Obligations.HostAccessEnds := by
  intro s a h hp hh
  refine ⟨fun hw => ⟨?_, fun kept data => ?_⟩, fun hw => ⟨?_, fun kept data => ?_⟩⟩
  all_goals rw [exec_hostAccessEnd _ s a h hp hh]
  · rw [endTransfer_read _ _ _ _ hw]; rfl
  · rw [endTransfer_read _ _ _ _ hw]; rfl
  · rw [endTransfer_write _ _ _ _ hw]; rfl
  · rw [endTransfer_write _ _ _ _ hw]; rfl

/-- The row that ends a device access ends it (R16). -/
theorem exec_endRow (e : AccessEnd) (s : State) (r : DevReq) (h : s.on) (hp : s.port.granted = some (.device r)) :
    exec (r.purpose.endRow e) s = .next (ownerGoesOn e r (endDevice r e s)) := by
  have serves : s.serves r.purpose r := ⟨h, hp, rfl⟩
  rcases hr : r.purpose with _ | _ | _ | _ | _ | _ | _ | _ | _ | k | _ | _ | _ | _ <;> rw [hr] at serves
  case ring => cases k <;> exact deviceEnd_serves _ _ e s r serves rfl
  all_goals exact deviceEnd_serves _ _ e s r serves rfl

/-- Settles O10. -/
theorem memoryResponseLimit : Obligations.MemoryResponseLimit := by
  intro kept answered s h
  have hx : exec (.memoryResponseTimeout kept answered) s = .next (responseTimeout kept answered s) := live_on _ s h
  refine ⟨fun ht => ?_, fun ht => ⟨fun a hp hh => ?_, fun r hp => ?_⟩⟩ <;> rw [hx]
  · simp [responseTimeout, timerDue, ht]
  · have he : responseTimeout kept answered s
        = endTransfer a (.fault kept answered) (timeoutData a answered s) s := by
      simp [responseTimeout, timerDue, ht, hp, hh]
    rw [he]; rfl
  · rw [exec_endRow _ s r h hp]
    simp [responseTimeout, timerDue, ht, hp, deviceEnd, atDeviceEnd]

end Sys2Proof.Machine

namespace Sys2Proof.Machine

/-! ## Bytes of a host access (R1, R4) -/

/-- The byte address of word `i` of a burst from `a` (R1). -/
def wordAddr (a i : Nat) : Nat := (a + 4 * i) % Config.memorySize

theorem wordAddr_zero {a : Nat} (h : a < Config.memorySize) : wordAddr a 0 = a := Nat.mod_eq_of_lt h

theorem nextWord_lt (a : Nat) : nextWord a < Config.memorySize := Nat.mod_lt _ (by decide)

theorem wordAddr_nextWord (a i : Nat) : wordAddr (nextWord a) i = wordAddr a (i + 1) := by
  simp only [wordAddr, nextWord, Config.memorySize]; omega

theorem start_lt (a : HostAccess) : a.start < Config.memorySize := by
  have := a.addr.isLt
  simp only [HostAccess.start, Config.memorySize]; omega

/-- The words of a record stand at the word addresses of their burst. -/
theorem recordWords_addr {ws : List BusWord} {a : Nat} (ha : a < Config.memorySize) {k : RecordWord}
    (h : k ∈ recordWords a ws) : ∃ n < ws.length, k.addr = wordAddr a n := by
  induction ws generalizing a with
  | nil => cases h
  | cons w ws ih =>
    rcases List.mem_cons.mp h with rfl | h
    · exact ⟨0, by simp, (wordAddr_zero ha).symm⟩
    · obtain ⟨n, hn, hk⟩ := ih (nextWord_lt a) h
      exact ⟨n + 1, by simpa using hn, hk.trans (wordAddr_nextWord a n)⟩

/-! ### Reads -/

/-- Word `i` of what a read burst returns. -/
theorem memReadBurst_getElem? (m : List Host.Cell) {a : Nat} (ha : a < Config.memorySize) {n i : Nat} (hi : i < n) :
    (memReadBurst m a n)[i]? = some (memReadWord m (wordAddr a i)) := by
  induction n generalizing a i with
  | zero => omega
  | succ n ih =>
    cases i with
    | zero => simp [memReadBurst, wordAddr_zero ha]
    | succ i => simp [memReadBurst, ih (nextWord_lt a) (Nat.lt_of_succ_lt_succ hi), wordAddr_nextWord]

/-- Word `i` of the answer to a read (R4; log 7). -/
theorem answerWords_getElem? (free : Nat) {bs : List BusWord} {ds : List Word} {i : Nat} {b : BusWord} {d : Word}
    (hb : bs[i]? = some b) (hd : ds[i]? = some d) :
    (answerWords free bs ds)[i]? = some (answerWord b.be d (Config.undrivenWord (free + i))) := by
  induction bs generalizing free ds i with
  | nil => simp at hb
  | cons x bs ih =>
    cases ds with
    | nil => simp at hd
    | cons y ds =>
      cases i with
      | zero =>
        obtain rfl : x = b := by simpa using hb
        obtain rfl : y = d := by simpa using hd
        simp [answerWords]
      | succ i =>
        have he := ih (free + 1) (by simpa using hb) (by simpa using hd)
        simp [answerWords, he, Nat.add_assoc, Nat.add_comm 1]

/-- An enabled lane of an answered word is memory's (R4). -/
theorem lane_answerWord {be : BitVec 4} {w u : Word} {j : Nat} (hj : j < 4) (hb : be.getLsbD j = true) :
    lane (answerWord be w u) j = lane w j := by
  obtain ⟨h0, h1, h2, h3⟩ :=
    lane_wordOfLanes (readLane be w u 0) (readLane be w u 1) (readLane be w u 2) (readLane be w u 3)
  have hr : readLane be w u j = lane w j := by simp [readLane, hb]
  rw [← hr]
  match j, hj with
  | 0, _ => exact h0
  | 1, _ => exact h1
  | 2, _ => exact h2
  | 3, _ => exact h3

/-! ### Writes -/

/-- The words behind the first of a burst of at most eight lie elsewhere. -/
theorem byte_not_behind {ws : List BusWord} {a j : Nat} (hj : j < 4) (hn : ws.length < 8) {k : RecordWord}
    (hk : k ∈ recordWords (nextWord a) ws) {j' : Nat} (hj' : j' < 4) : a + j ≠ k.addr + j' := by
  obtain ⟨n, hlt, he⟩ := recordWords_addr (nextWord_lt a) hk
  rw [he, wordAddr_nextWord]
  simp only [wordAddr, Config.memorySize]
  omega

/-- After a whole write burst memory holds the enabled bytes of its words (R1). -/
theorem memRead_writeBurst_same {ws : List BusWord} {m : List Host.Cell} {a i j : Nat} {b : BusWord}
    (hm : memWf m = true) (ha : a < Config.memorySize) (hn : ws.length ≤ 8) (hi : ws[i]? = some b)
    (hj : j < 4) (hb : b.be.getLsbD j = true) :
    memRead (memWriteBurst m a ws (List.replicate ws.length true)) (wordAddr a i + j) = lane b.data j := by
  induction ws generalizing m a i with
  | nil => simp at hi
  | cons w ws ih =>
    have hl : ws.length < 8 := by simpa using hn
    simp only [List.length_cons, List.replicate_succ, memWriteBurst, if_true]
    cases i with
    | zero =>
      obtain rfl : w = b := by simpa using hi
      rw [wordAddr_zero ha, memRead_writeBurst_other _ _ _ _ _ fun k hk j' hj' _ => byte_not_behind hj hl hk hj']
      exact memRead_writeWord_same m a w.be w.data j hj hb hm
    | succ i =>
      rw [← wordAddr_nextWord]
      exact ih (memWriteWord_wf m a w.be w.data hm) (nextWord_lt a) (by omega) (by simpa using hi)

/-- Settles O9. -/
theorem memoryBytes : Obligations.MemoryBytes := by
  refine ⟨fun s a i j b hm h hp hh hn hi hj hb =>
    ⟨_, exec_hostAccessEnd .ok s a h hp hh, fun hw => ?_, fun hw => ?_⟩, fun c s t x h hx => ?_⟩
  · have hd := memReadBurst_getElem? s.mem (start_lt a) (List.getElem?_eq_some_iff.mp hi).1
    refine ⟨⟨false, _, true⟩, _, ?_, answerWords_getElem? s.free hi hd, ?_⟩
    · rw [endTransfer_read _ _ _ _ hw]
      exact congrArg Outer.answer (arriveNext_outer _)
    · rw [lane_answerWord hj hb, lane_memReadWord _ _ _ hj]; rfl
  · rw [endTransfer_write _ _ _ _ hw]
    exact memRead_writeBurst_same hm (start_lt a) hn hi hj hb
  · obtain he | ⟨w, kept, hw, he⟩ := effect_mem (exec_effect h) <;> rw [he]
    exact memRead_writeBurst_other _ _ _ _ _ fun k hk j hj hb e => hx w hw ⟨k, hk, j, hj, hb, e⟩

end Sys2Proof.Machine

namespace Sys2Proof.Machine

/-! ## The read guard (R46, R153) -/

/-- The slot `i` of channel `c` with its channel's limit, if a word that writes or reads it is held by it (R46). -/
def guardedSlot? (s : State) (be : BitVec 4) (c : Chan) (i : Nat) : Option ((Chan × Nat) × Nat) :=
  (s.wm.cfg? c).bind fun cfg => (s.land.slot? c i).bind fun x =>
    if be ≠ 0#4 ∧ cfg.isInbound = true ∧ 0 < cfg.guardLimit ∧ x.state = .landing then some ((c, i), cfg.guardLimit)
    else none

theorem guardedSlot?_eq_some (s : State) (be : BitVec 4) (c d : Chan) (i j g : Nat) :
    guardedSlot? s be d j = some ((c, i), g) ↔ (d = c ∧ j = i) ∧ ∃ cfg x, s.wm.cfg? c = some cfg
      ∧ cfg.isInbound = true ∧ g = cfg.guardLimit ∧ 0 < g ∧ s.land.slot? c i = some x ∧ x.state = .landing
      ∧ be ≠ 0#4 := by
  simp only [guardedSlot?, Option.bind_eq_some_iff, Option.ite_none_right_eq_some, Option.some.injEq, Prod.mk.injEq]
  constructor
  · rintro ⟨cfg, hc, x, hx, ⟨hb, hi, h0, hl⟩, ⟨rfl, rfl⟩, rfl⟩
    exact ⟨⟨rfl, rfl⟩, cfg, x, hc, hi, rfl, h0, hx, hl, hb⟩
  · rintro ⟨⟨rfl, rfl⟩, cfg, x, hc, hi, rfl, h0, hx, hl, hb⟩
    exact ⟨cfg, hc, x, hx, ⟨hb, hi, h0, hl⟩, ⟨rfl, rfl⟩, rfl⟩

/-- Only a slot word can hold a read, header word or not (R45, R46). -/
theorem holdingSlot?_header0 {s : State} {w : RecordWord} {c : Chan} {i : Nat}
    (h : s.wm.classify w.addr = .header0 c i) : holdingSlot? s w = guardedSlot? s w.be c i := by
  simp only [holdingSlot?, h, guardedSlot?]
  cases s.wm.cfg? c <;> cases s.land.slot? c i <;> rfl

theorem holdingSlot?_slot {s : State} {w : RecordWord} {c : Chan} {i off : Nat}
    (h : s.wm.classify w.addr = .slot c i off) : holdingSlot? s w = guardedSlot? s w.be c i := by
  simp only [holdingSlot?, h, guardedSlot?]
  cases s.wm.cfg? c <;> cases s.land.slot? c i <;> rfl

/-- A word holds a read exactly when it lies in a guarded LANDING slot, with an enabled byte (R46, R153). -/
theorem holdingSlot?_eq_some (s : State) (w : RecordWord) (c : Chan) (i g : Nat) :
    holdingSlot? s w = some ((c, i), g) ↔
      ∃ cfg x, (s.wm.classify w.addr = .header0 c i ∨ ∃ off, s.wm.classify w.addr = .slot c i off)
        ∧ s.wm.cfg? c = some cfg ∧ cfg.isInbound = true ∧ g = cfg.guardLimit ∧ 0 < g
        ∧ s.land.slot? c i = some x ∧ x.state = .landing ∧ w.be ≠ 0#4 := by
  cases hk : s.wm.classify w.addr with
  | header0 d j =>
    rw [holdingSlot?_header0 hk, guardedSlot?_eq_some]
    simp only [WordClass.header0.injEq, reduceCtorEq, exists_const, or_false, exists_and_left]
  | slot d j off =>
    rw [holdingSlot?_slot hk, guardedSlot?_eq_some]
    simp only [WordClass.slot.injEq, reduceCtorEq, false_or, exists_and_left, exists_eq', and_true]
  | control | plain => simp [holdingSlot?, hk]

/-- The slots that the words make holding slots, in burst order, each at its first word (R153). -/
def holdingSlots (s : State) (ws : List RecordWord) : List (Chan × Nat) :=
  ((ws.filterMap (holdingSlot? s)).map (·.1)).eraseDups

theorem mem_holdingSlots (s : State) (ws : List RecordWord) (p : Chan × Nat) :
    p ∈ holdingSlots s ws ↔ ∃ w ∈ ws, ∃ g, holdingSlot? s w = some (p, g) := by
  simp only [holdingSlots, List.mem_eraseDups, List.mem_map, List.mem_filterMap]
  constructor
  · rintro ⟨⟨p, g⟩, ⟨w, hw, h⟩, rfl⟩
    exact ⟨w, hw, g, h⟩
  · rintro ⟨w, hw, g, h⟩
    exact ⟨(p, g), ⟨w, hw, h⟩, rfl⟩

theorem nodup_eraseDups {α : Type} [BEq α] [LawfulBEq α] (l : List α) : l.eraseDups.Nodup := by
  match l with
  | [] => simp
  | a :: l =>
    have : (l.filter (fun b => !b == a)).length < l.length + 1 := Nat.lt_succ_of_le (List.length_filter_le _ _)
    rw [List.eraseDups_cons, List.nodup_cons]
    exact ⟨by simp, nodup_eraseDups _⟩
termination_by l.length

/-- One more word: its slot joins the list at the end, unless the list has it. -/
theorem holdingSlots_snoc_some (s : State) (front : List RecordWord) (w : RecordWord) (p : Chan × Nat) (g : Nat)
    (h : holdingSlot? s w = some (p, g)) :
    holdingSlots s (front ++ [w]) = if p ∈ holdingSlots s front then holdingSlots s front
      else holdingSlots s front ++ [p] := by
  simp only [holdingSlots, List.filterMap_append, List.map_append, List.eraseDups_append, List.mem_eraseDups]
  by_cases hp : p ∈ (front.filterMap (holdingSlot? s)).map (·.1)
  · simp [h, hp, List.removeAll]
  · simp [h, hp, List.removeAll, List.eraseDups_cons]

theorem holdingSlots_snoc_none (s : State) (front : List RecordWord) (w : RecordWord) (h : holdingSlot? s w = none) :
    holdingSlots s (front ++ [w]) = holdingSlots s front := by
  simp [holdingSlots, h]

/-- The verdict is pass exactly when no word holds; otherwise it holds the slots, with the smallest limit. -/
theorem guardVerdict_eq_none (ws : List RecordWord) (s : State) :
    guardVerdict ws s = none ↔ ∀ w ∈ ws, holdingSlot? s w = none := by
  rw [← List.filterMap_eq_nil_iff]
  unfold guardVerdict
  split
  · simp_all
  · simp_all

theorem guardVerdict_holds (ws : List RecordWord) (s : State) :
    (guardVerdict ws s).elim [] (·.slots) = holdingSlots s ws := by
  unfold guardVerdict holdingSlots
  split <;> simp_all

theorem smallest_le (n : Nat) (l : List ((Chan × Nat) × Nat)) : smallest n l ≤ n ∧ ∀ x ∈ l, smallest n l ≤ x.2 := by
  induction l generalizing n with
  | nil => simp [smallest]
  | cons x l ih =>
    obtain ⟨h1, h2⟩ := ih (min n x.2)
    have he : smallest n (x :: l) = smallest (min n x.2) l := rfl
    rw [he]
    refine ⟨by omega, fun y hy => ?_⟩
    rcases List.mem_cons.mp hy with rfl | hy
    · omega
    · exact h2 y hy

theorem smallest_mem (n : Nat) (l : List ((Chan × Nat) × Nat)) : smallest n l = n ∨ ∃ x ∈ l, smallest n l = x.2 := by
  induction l generalizing n with
  | nil => exact .inl rfl
  | cons x l ih =>
    have he : smallest n (x :: l) = smallest (min n x.2) l := rfl
    rw [he]
    obtain h | ⟨y, hy, h⟩ := ih (min n x.2)
    · rcases Nat.le_total n x.2 with hn | hn
      · exact .inl (by omega)
      · exact .inr ⟨x, by simp, by omega⟩
    · exact .inr ⟨y, by simp [hy], h⟩

theorem guardVerdict_timer (ws : List RecordWord) (s : State) (h : HeldRead) (hg : guardVerdict ws s = some h) :
    (∀ w ∈ ws, ∀ p g, holdingSlot? s w = some (p, g) → h.timer ≤ g)
      ∧ ∃ w ∈ ws, ∃ p, holdingSlot? s w = some (p, h.timer) := by
  unfold guardVerdict at hg
  split at hg
  · cases hg
  · next x rest hx =>
    cases hg
    have mem : ∀ y, y ∈ x :: rest ↔ ∃ w ∈ ws, holdingSlot? s w = some y := fun y => by rw [← hx]; simp
    obtain ⟨h1, h2⟩ := smallest_le x.2 rest
    refine ⟨fun w hw p g hs => ?_, ?_⟩
    · rcases List.mem_cons.mp ((mem (p, g)).mpr ⟨w, hw, hs⟩) with rfl | hr
      · exact h1
      · exact h2 _ hr
    · obtain he | ⟨y, hy, he⟩ := smallest_mem x.2 rest
      · obtain ⟨w, hw, hs⟩ := (mem x).mp (by simp)
        exact ⟨w, hw, x.1, by rw [hs, he]⟩
      · obtain ⟨w, hw, hs⟩ := (mem y).mp (by simp [hy])
        exact ⟨w, hw, y.1, by rw [hs, he]⟩

/-! ## Arrivals (R3, R5, R8) -/

theorem exec_write_free (a : BitVec 26) (ws : List BusWord) (s : State) (h : burstLengthOk ws.length = true)
    (hs : s.on) (hi : s.host = .idle) :
    exec (.hostWriteArrival a ws) s = .next { s with host := .waiting ⟨true, a, ws⟩ } := by
  rw [exec_write a ws s h, presentAccess_idle _ s hs hi, arrive_waiting _ s (.inl rfl)]

/-- An access that cannot be taken stays presented (log 2). -/
theorem presentAccess_stays (x : HostAccess) (s : State) (h : ¬ (s.on ∧ s.host = .idle)) :
    presentAccess x s = { s with presented := s.presented.or (some x) } := by
  apply presentAccess_busy
  cases hr : s.resetLow
  · exact .inr fun hi => h ⟨hr, hi⟩
  · exact .inl rfl

/-- Settles O6. -/
theorem hostArrivals : Obligations.HostArrivals := by
  refine ⟨fun a s => ⟨fun ws hl => ⟨fun hf => exec_write_free a ws s hl hf.1 hf.2, fun hf => ?_⟩,
    fun es hl => ⟨fun hf hg => ?_, fun h hf hg => ?_, fun hf => ?_⟩⟩, fun s => ⟨arriveNext_none s, fun x hi hp =>
    ⟨fun hv => ?_, fun h hw hv => ?_⟩⟩, holdingSlot?_eq_some, fun ws s => ⟨guardVerdict_eq_none ws s, fun h hg => ?_⟩⟩
  · rw [exec_write a ws s hl, presentAccess_stays _ s hf]
  · rw [exec_read a es s hl, presentAccess_idle _ s hf.1 hf.2]
    exact congrArg _ (arrive_waiting _ s (.inr hg))
  · rw [exec_read a es s hl, presentAccess_idle _ s hf.1 hf.2]
    exact congrArg _ (arrive_held _ s h rfl hg)
  · rw [exec_read a es s hl, presentAccess_stays _ s hf]; rfl
  · exact (arriveNext_some x s hi hp).trans (arrive_waiting x { s with presented := none } hv)
  · exact (arriveNext_some x s hi hp).trans (arrive_held x { s with presented := none } h hw hv)
  · have slots : ∀ front : List RecordWord, (guardVerdict front s).elim [] (·.slots) = holdingSlots s front :=
      fun front => guardVerdict_holds front s
    have hs : h.slots = holdingSlots s ws := by rw [← slots ws, hg]; rfl
    obtain ⟨least, attained⟩ := guardVerdict_timer ws s h hg
    refine ⟨hs ▸ nodup_eraseDups _, fun p => hs ▸ mem_holdingSlots s ws p, least, attained, fun w front hw => ?_⟩
    subst hw
    rw [slots front, hs]
    refine ⟨fun p g hp hn => ?_, fun hb => ?_⟩
    · rw [holdingSlots_snoc_some s front w p g hp, if_neg hn]
    · cases hp : holdingSlot? s w with
      | none => exact holdingSlots_snoc_none s front w hp
      | some pg => rw [holdingSlots_snoc_some s front w pg.1 pg.2 hp, if_pos (hb _ _ hp)]

end Sys2Proof.Machine

namespace Sys2Proof.Machine

/-! ## The arbiter (R9, R11, R12, R13) -/

theorem exec_memoryGrant (s : State) (h : s.on) : exec .memoryGrant s = .next (arbitrate s) := live_on _ s h

/-- A port that is not free is left alone (R9). -/
theorem arbitrate_busy (s : State) (h : s.port.granted ≠ none) : arbitrate s = s := by
  unfold arbitrate
  split
  · rfl
  · next hp => exact absurd hp h

/-- Nobody waits. -/
theorem arbitrate_idle (s : State) (hp : s.port.granted = none) (hh : s.host.request? = none)
    (hd : pickDevice s.reqs s.port.last3 s.port.last4 = none) : arbitrate s = s := by
  simp [arbitrate, hp, hh, hd, pickSide]

/-- The host waits alone, or the last grant was the device side's (R11). -/
theorem arbitrate_host (s : State) (a : HostAccess) (hp : s.port.granted = none) (hh : s.host.request? = some a)
    (hd : pickDevice s.reqs s.port.last3 s.port.last4 = none ∨ s.port.lastSide = .device) :
    arbitrate s = grantHost a s := by
  have side : pickSide true (pickDevice s.reqs s.port.last3 s.port.last4).isSome s.port.lastSide = some .host := by
    rcases hd with hd | hd
    · simp [hd, pickSide]
    · cases (pickDevice s.reqs s.port.last3 s.port.last4).isSome <;> simp [hd, pickSide]
  simp [arbitrate, hp, hh, side]

/-- A device request waits alone, or the last grant was the host's (R11). -/
theorem arbitrate_device (s : State) (r : DevReq) (hp : s.port.granted = none)
    (hd : pickDevice s.reqs s.port.last3 s.port.last4 = some r)
    (hh : s.host.request? = none ∨ s.port.lastSide = .host) : arbitrate s = grantDevice r s := by
  have side : pickSide s.host.request?.isSome true s.port.lastSide = some .device := by
    rcases hh with hh | hh
    · simp [hh, pickSide]
    · cases s.host.request?.isSome <;> simp [hh, pickSide]
  simp [arbitrate, hp, hd, side]

/-- With no request of class 1 or 2, class 3 goes before class 4. -/
theorem pickDevice_class34 (q : Requests) (l3 : RecordOwner) (l4 : TableOwner) (h1 : q.landing = none)
    (h2 : q.captureRead = none) : pickDevice q l3 l4 =
      ((recordOrder l3).findSome? q.ofRecordOwner).or ((tableOrder l4).findSome? q.ofTableOwner) := by
  simp [pickDevice, h1, h2]

/-- Settles O7. -/
theorem arbitration : Obligations.Arbitration := by
  refine ⟨⟨⟨rfl, rfl, rfl⟩, fun s h => ?_⟩, fun q l3 l4 => ⟨fun r h => ?_, fun r h1 h => ?_, fun h1 h2 =>
    ⟨fun o r first rest ho hf hr => ?_, fun h3 => ⟨fun o r first rest ho hf hr => ?_, fun h4 => ?_⟩⟩⟩,
    rfl, rfl, rfl, rfl, rfl, rfl⟩
  · rw [exec_memoryGrant s h]
    refine ⟨fun hp => by rw [arbitrate_busy s hp], fun hp => ⟨fun hh hd => by rw [arbitrate_idle s hp hh hd],
      fun a hh hd => by rw [arbitrate_host s a hp hh hd]; rfl,
      fun r hd hh => by rw [arbitrate_device s r hp hd hh]; rfl⟩⟩
  · simp [pickDevice, h]
  · simp [pickDevice, h1, h]
  · rw [pickDevice_class34 q l3 l4 h1 h2, ho, findSome_first _ o r first rest hf hr]; rfl
  · have none3 : (recordOrder l3).findSome? q.ofRecordOwner = none := List.findSome?_eq_none_iff.mpr fun o _ => h3 o
    rw [pickDevice_class34 q l3 l4 h1 h2, none3, ho, findSome_first _ o r first rest hf hr]; rfl
  · have none3 : (recordOrder l3).findSome? q.ofRecordOwner = none := List.findSome?_eq_none_iff.mpr fun o _ => h3 o
    have none4 : (tableOrder l4).findSome? q.ofTableOwner = none := List.findSome?_eq_none_iff.mpr fun o _ => h4 o
    rw [pickDevice_class34 q l3 l4 h1 h2, none3, none4]; rfl

/-! ## Held reads (R6, R154, R155) -/

/-- A slot that holds no read leaves LANDING without effect on the Host Port. -/
theorem leaveLanding_other (c : Chan) (i : Nat) (s : State)
    (h : ∀ k, s.land.heldRead = some k → (c, i) ∉ k.slots) : leaveLanding c i s = s := by
  unfold leaveLanding
  split
  · next k hk => exact if_neg (h k hk)
  · rfl

theorem exec_guardTimerExpiry (s : State) (h : s.on) : exec .guardTimerExpiry s = .next (guardTurn s) := live_on _ s h

/-- A guard timer that is not due changes nothing (log 12). -/
theorem guardTurn_not_due (s : State) (h : ∀ k, s.land.heldRead = some k → k.timer ≠ 0) : guardTurn s = s := by
  unfold guardTurn
  split
  · next k hk => exact if_neg (h k hk)
  · rfl

/-- Settles O50. -/
theorem heldReads : Obligations.HeldReads := by
  intro s
  refine ⟨fun c i => leaveLanding_other c i s, fun c i h a hh hm ha => ⟨fun hl => ?_, fun hl => ?_⟩, fun hs ht => ?_,
    fun h a c i more hs hh ht ha hc => ?_⟩
  · simp only [leaveLanding, hh, if_pos hm, hl, ha]; rfl
  · simp only [leaveLanding, hh, if_pos hm, ha, List.isEmpty_iff, if_neg hl]
  · rw [exec_guardTimerExpiry s hs, guardTurn_not_due s ht]
  · rw [exec_guardTimerExpiry s hs]
    simp only [guardTurn, hh, ht, if_true, guardExpires, ha, hc]; rfl

/-! ## The taking of a record (R7, R14, R22, R23, R47) -/

theorem exec_completedWriteRecord (s : State) (h : s.on) :
    exec .completedWriteRecord s = .next (takeRecord (fun _ _ => true) s) := live_on _ s h

theorem control?_eq_command (m : Matcher) (a : Nat) : m.control? a = some .command ↔ a = m.base := by
  unfold Matcher.control?
  (repeat' split) <;> simp [*]

/-- A record's command is its first word at the anchor with all byte enables set (R23). -/
theorem command?_none (r : WriteRecord) (m : Matcher) (h : ∀ w ∈ r.words, ¬ (w.addr = m.base ∧ w.be = 15#4)) :
    r.command? m = none := by
  simp only [WriteRecord.command?, control?_eq_command, Option.map_eq_none_iff, List.find?_eq_none]
  simpa using h

theorem command?_first (r : WriteRecord) (m : Matcher) (front : List RecordWord) (w : RecordWord)
    (back : List RecordWord) (hr : r.words = front ++ w :: back) (hw : w.addr = m.base ∧ w.be = 15#4)
    (hf : ∀ v ∈ front, ¬ (v.addr = m.base ∧ v.be = 15#4)) : r.command? m = some w.data := by
  have hp : r.words.find? (fun w => decide (w.addr = m.base) && decide (w.be = 15#4)) = some w := by
    rw [hr, List.find?_append, List.find?_eq_none.mpr (by simpa using hf)]
    simp [hw]
  simp [WriteRecord.command?, control?_eq_command, hp]

/-- The words of a record leave the anchor, and with it the command (R18, R23). -/
theorem command?_wordsTaken (s : State) (r : WriteRecord) : r.command? (s.wordsTaken r).wm = r.command? s.wm := by
  apply command_congr
  have hw : (s.wordsTaken r).watched = State.watched { s with host := .idle } := by simp [State.wordsTaken]
  exact congrArg Watched.anchor hw

/-- The row of a command that the record holds takes the record (log 9). -/
theorem exec_commandRow (s : State) (r : WriteRecord) (w : Word) (h : s.offers r) (hw : r.command? s.wm = some w) :
    exec (commandRow (commandCode w)) s = .next (arriveNext (applyCommand r (s.wordsTaken r))) := by
  have takes : ∀ p : Nat → Bool, p (commandCode w) = true →
      live (takeRecord (WriteRecord.commands p)) s = .next (arriveNext (applyCommand r (s.wordsTaken r))) := by
    intro p hp
    have ⟨_, _, hok⟩ := h
    have hheld : WriteRecord.commands p s.wm r = true := by
      simp [WriteRecord.commands, hok, hw, show p (bits w 0 8) = true from hp]
    exact takeRecord_offers _ s r h hheld
  unfold commandRow
  split
  case h_9 =>
    simp only [imp_false] at *
    exact takes (fun k => decide (k = 0 ∨ 8 < k)) (by rw [decide_eq_true_eq]; omega)
  all_goals next hc => exact takes (fun k => k == _) (by simp [hc])

/-- Settles O11. -/
theorem recordTaken : Obligations.RecordTaken := by
  intro s hs
  refine ⟨fun r hr hok => ?_, fun hn => ?_, fun r m => ⟨command?_none r m, command?_first r m⟩, fun r h =>
    ⟨fun hc => ?_, ?_, fun hm => ?_, fun hm => ?_, fun hm => ?_, fun w hw => exec_commandRow s r w h hw⟩⟩
  · rw [exec_completedWriteRecord s hs]
    simp [takeRecord, hr, applyRecord, hok]
  · rw [exec_completedWriteRecord s hs]
    unfold takeRecord
    split
    · next r hr => exact absurd hr (hn r)
    all_goals rfl
  · have hc' := (command?_wordsTaken s r).trans hc
    exact congrArg arriveNext (by simp only [State.wordsTaken] at hc' ⊢; simp [applyCommand, hc'])
  · exact takeRecord_offers _ s r h rfl
  · exact takeRecord_offers _ s r h hm
  · exact takeRecord_offers _ s r h hm
  · exact takeRecord_offers _ s r h hm

end Sys2Proof.Machine

namespace Sys2Proof.Machine

/-! ## The Event Unit and the ends of commands (R26, R27, R164 to R172) -/

/-- RUNNING ends with a result and a detail (R26, R27). -/
theorem endCommand_answers (s : State) (c : Command) (res : Result) (d : Word)
    (h : s.cmd.executing = some ⟨c, .running⟩) : endCommand res d s = s.answers c res d := by
  simp [endCommand, State.answers, h, Executing.finish, CommandUnit.isRunning, detailReq, fullWord]

/-! ### Posting -/

/-- The lost count rises by 1 and stops at its highest value (R167). -/
theorem saturatingAdd_one (c : Word) :
    saturatingAdd c 1 = if c = 0xFFFFFFFF#32 then 0xFFFFFFFF#32 else c + 1 := by
  unfold saturatingAdd
  by_cases h : c = 0xFFFFFFFF#32
  · simp [h]
  rw [if_neg h]
  split
  · next hs =>
    have hc := c.isLt
    have hn : c.toNat ≠ 0xFFFFFFFF := fun hn => h (BitVec.eq_of_toNat_eq (by simpa using hn))
    obtain rfl : c = 0xFFFFFFFE#32 := BitVec.eq_of_toNat_eq (by simp; omega)
    rfl
  · rfl

/-- One event is lost, in both places that count it (R167). -/
theorem lose_one (ev : EventUnit) : ev.lose 1 = { ev with
    lostCount := if ev.lostCount = 0xFFFFFFFF#32 then 0xFFFFFFFF#32 else ev.lostCount + 1
    counters := { ev.counters with eventsLost := ev.counters.eventsLost + 1 } } := by
  simp [EventUnit.lose, saturatingAdd_one, Counters.lose]

theorem take_queues (ev : EventUnit) (e : Event) (h : ev.run = .running) (hq : ev.queue.length < 8) :
    ev.take e = { ev with queue := ev.queue ++ [e], lostHold := false } := by
  simp [EventUnit.take, h, Config.eventPlaces, hq]

theorem take_full (ev : EventUnit) (e : Event) (h : ev.run = .running) (hq : 8 ≤ ev.queue.length) :
    ev.take e = { ev.lose 1 with lostHold := false } := by
  simp [EventUnit.take, h, Config.eventPlaces, Nat.not_lt.mpr hq]

theorem take_not_running (ev : EventUnit) (e : Event) (h : ev.run ≠ .running) : ev.take e = ev.lose 1 := by
  unfold EventUnit.take
  split
  · next hr => exact absurd hr h
  all_goals rfl

/-! ### The choice of the next ring write -/

section
variable {ev : EventUnit} {consumer now : Word} {r : RingCfg}

theorem room_iff (h : ev.ringCfg = some r) :
    ev.room consumer = true ↔ (ev.producer + 1) % r.size ≠ consumer.toNat := by
  simp [EventUnit.room, h]

theorem lostWrite_eq (h : ev.ringCfg = some r) : ev.lostWrite now =
    ⟨.lost ev.lostCount, r.base + 16 * ev.producer, [13#32, ev.lostCount, 0#32, now]⟩ := by
  simp [EventUnit.lostWrite, EventUnit.recordAddr, h, recordOf, eventsLostCode]

theorem eventWrite_eq (h : ev.ringCfg = some r) (e : Event) : ev.eventWrite e =
    ⟨.event, r.base + 16 * ev.producer, recordOf e.kind.code e.chan e.detail1 e.detail2 e.time⟩ := by
  simp [EventUnit.eventWrite, EventUnit.recordAddr, h, Event.record]

/-- A ring write in progress stands (R169). -/
theorem choose_busy (w : RingWrite) (h : ev.ring = some w) : ev.choose consumer now = ev := by
  simp [EventUnit.choose, h]

theorem choose_stopped (h : ev.run = .stopped) : ev.choose consumer now = ev := by
  unfold EventUnit.choose
  cases ev.ring <;> simp [h]

/-- In RUNNING: nothing while the hold is set; with room the lost count first, then the head event; without room every
queued event is lost (R168 to R171). -/
theorem choose_running (h : ev.ring = none) (hr : ev.run = .running) : ev.choose consumer now =
    if ev.lostHold then ev
    else if ev.room consumer then
      if ev.lostCount ≠ 0#32 then { ev with ring := some (ev.lostWrite now) }
      else { ev with ring := ev.queue.head?.map ev.eventWrite }
    else ev.loseQueue := by
  simp [EventUnit.choose, h, hr]

/-- In DRAINING with an event left: as in RUNNING, but the hold keeps no event back (R174). -/
theorem choose_draining (h : ev.ring = none) (hr : ev.run = .draining) (e : Event) (rest : List Event)
    (hq : ev.queue = e :: rest) : ev.choose consumer now =
    if ev.room consumer then
      if ev.lostCount ≠ 0#32 ∧ ¬ ev.lostHold then { ev with ring := some (ev.lostWrite now) }
      else { ev with ring := some (ev.eventWrite e) }
    else ev.loseQueue := by
  simp [EventUnit.choose, h, hr, hq]

theorem choose_drained (h : ev.ring = none) (hr : ev.run = .draining) (hq : ev.queue = []) :
    ev.choose consumer now = ev := by
  simp [EventUnit.choose, h, hr, hq]

end

/-! ### The unit's request -/

theorem eventBusy_iff (p : MemPort) :
    p.eventBusy = true ↔ ∃ r, p.granted = some (.device r) ∧ r.purpose.recordOwner? = some .event := by
  unfold MemPort.eventBusy
  split <;> simp_all

/-- One request at a time (R172; log 19). -/
theorem eventSlot_busy (ev : EventUnit) (p : MemPort) (wm : Matcher) (slot : Option DevReq)
    (h : slot ≠ none ∨ p.eventBusy = true) : eventSlot ev p wm slot = slot := by
  rw [eventSlot, if_pos]
  simpa [Option.isSome_iff_ne_none] using h

theorem eventSlot_free (ev : EventUnit) (p : MemPort) (wm : Matcher) (h : ¬ p.eventBusy = true) :
    eventSlot ev p wm none = ev.nextReq wm := by
  simp [eventSlot, h]

/-- Settles O27. -/
theorem postsAndRing : Obligations.PostsAndRing := by
  refine ⟨⟨fun s c res d h => endCommand_answers s c res d h, fun k c d1 d2 s => ⟨fun hr hq => ?_, fun hr hq => ?_,
    fun hr => ?_⟩⟩, fun ev consumer now r hc h => ?_, fun ev consumer now w h => choose_busy w h, fun s => ?_,
    fun c o a s => ⟨rfl, fun kept data => rfl⟩⟩
  · simp only [post, take_queues _ _ hr hq]
  · simp only [post, take_full _ _ hr hq, lose_one]
  · simp only [post, take_not_running _ _ hr, lose_one]
  · dsimp only
    rw [← lostWrite_eq (now := now) hc]
    simp only [← eventWrite_eq hc, ← room_iff (consumer := consumer) hc]
    have lost : ∃ x, ev.loseQueue = { x with queue := [] } ∧ x = ev.lose ev.queue.length := ⟨_, rfl, rfl⟩
    refine ⟨choose_stopped, fun hr => ?_, fun hr => ⟨choose_drained h hr, fun e rest hq => ?_⟩⟩
    · rw [choose_running h hr]
      refine ⟨fun hh => by simp [hh], fun hh hm hl => by simp [hh, hm, hl], fun e rest hh hm hl hq => by
        simp [hh, hm, hl, hq], fun hh hm hl hq => ?_, fun hh hm => by simpa [hh, hm] using lost⟩
      have hring : ev.queue.head?.map ev.eventWrite = ev.ring := by simp [hq, h]
      rw [hring, if_neg (by simp [hh]), if_pos hm, if_neg (by simp [hl])]
    · rw [choose_draining h hr e rest hq]
      exact ⟨fun hm hl hh => by simp [hm, hl, hh], fun hm hl => by rcases hl with hl | hl <;> simp [hm, hl],
        fun hm => by simpa [hm] using lost⟩
  · simp only [← eventBusy_iff]
    refine ⟨fun hb => ?_, fun hn hb => ?_, fun wm slot => ⟨eventSlot_busy _ _ _ _, fun hn hb => ?_⟩⟩
    · simp only [runRing, eventSlot_busy _ _ _ _ hb]
    · simp only [runRing, hn, eventSlot_free _ _ _ hb]
    · rw [hn, eventSlot_free _ _ _ hb]

end Sys2Proof.Machine

namespace Sys2Proof.Machine

/-! ## Burst plans (R65, R148) -/

/-- The cover of the first and the last needed offset of a block: an aligned burst in the block, and no aligned burst
that covers both is smaller. -/
theorem burstCover_len (f l : Nat) : (burstCover f l).len ∈ [1, 2, 4, 8] := by
  unfold burstCover
  (repeat' split) <;> simp

theorem burstCover_aligned (f l : Nat) : (burstCover f l).off % (burstCover f l).len = 0 := by
  unfold burstCover
  (repeat' split) <;> dsimp only <;> omega

theorem burstCover_block (f l : Nat) : (burstCover f l).off / 8 = f / 8 := by
  unfold burstCover
  (repeat' split) <;> dsimp only <;> omega

theorem burstCover_covers (f l : Nat) (hb : f / 8 = l / 8) :
    ((burstCover f l).off ≤ f ∧ f < (burstCover f l).off + (burstCover f l).len)
      ∧ (burstCover f l).off ≤ l ∧ l < (burstCover f l).off + (burstCover f l).len := by
  unfold burstCover
  (repeat' split) <;> dsimp only <;> omega

theorem burstCover_least (f l : Nat) (y : Burst) (hy : y.len ∈ [1, 2, 4, 8]) (ha : y.off % y.len = 0)
    (hf : y.off ≤ f ∧ f < y.off + y.len) (hl : y.off ≤ l ∧ l < y.off + y.len) : (burstCover f l).len ≤ y.len := by
  simp only [List.mem_cons, List.not_mem_nil, or_false] at hy
  unfold burstCover
  rcases hy with h | h | h | h <;> rw [h] at ha hf hl ⊢ <;> (repeat' split) <;> dsimp only <;> omega

/-- A block of 8 words with a needed offset has the cover of its first and its last one. -/
theorem blockBurst_eq_some {needed : List Nat} (hs : needed.Pairwise (· < ·)) {b : Nat} {x : Burst}
    (h : blockBurst needed b = some x) :
    ∃ f l, f ∈ needed ∧ f / 8 = b ∧ l ∈ needed ∧ l / 8 = b
      ∧ (∀ o ∈ needed, o / 8 = b → f ≤ o ∧ o ≤ l) ∧ x = burstCover f l := by
  unfold blockBurst at h
  split at h
  · cases h
  · next f rest hf =>
    cases h
    have mem : ∀ o, o ∈ f :: rest ↔ o ∈ needed ∧ o / 8 = b := fun o => by rw [← hf]; simp
    have sorted : (f :: rest).Pairwise (· < ·) := hf ▸ hs.filter _
    have last : rest.getLastD f = (f :: rest).getLast (by simp) := by cases rest <;> simp [List.getLastD]
    have hle : ∀ o ∈ f :: rest, f ≤ o ∧ o ≤ rest.getLastD f := by
      intro o ho
      refine ⟨?_, ?_⟩
      · rcases List.mem_cons.mp ho with rfl | ho
        · exact le_refl _
        · exact (List.rel_of_pairwise_cons sorted ho).le
      · rw [last]
        exact (sorted.imp Nat.le_of_lt).rel_getLast ho
    obtain ⟨hl1, hl2⟩ := (mem (rest.getLastD f)).mp (by rw [last]; exact List.getLast_mem _)
    obtain ⟨hf1, hf2⟩ := (mem f).mp (by simp)
    exact ⟨f, _, hf1, hf2, hl1, hl2, fun o ho hb => hle o ((mem o).mpr ⟨ho, hb⟩), rfl⟩

theorem blockBurst_isSome {needed : List Nat} {o : Nat} (h : o ∈ needed) : (blockBurst needed (o / 8)).isSome := by
  unfold blockBurst
  split
  · next hf => exact absurd (show o ∈ ([] : List Nat) from hf ▸ by simp [h]) (by simp)
  · rfl

theorem blockBurst_block {needed : List Nat} (hs : needed.Pairwise (· < ·)) {b : Nat} {x : Burst}
    (h : blockBurst needed b = some x) : x.off / 8 = b := by
  obtain ⟨f, l, -, hb, -, -, -, rfl⟩ := blockBurst_eq_some hs h
  exact (burstCover_block f l).trans hb

theorem planBursts_covers {needed : List Nat} (hs : needed.Pairwise (· < ·)) (hn : ∀ o ∈ needed, o < 256) :
    ∀ o ∈ needed, ∃ x ∈ planBursts needed, x.off ≤ o ∧ o < x.off + x.len := by
  intro o ho
  obtain ⟨x, hx⟩ := Option.isSome_iff_exists.mp (blockBurst_isSome ho)
  have hlt := hn o ho
  refine ⟨x, List.mem_filterMap.mpr ⟨o / 8, List.mem_range.mpr (by omega), hx⟩, ?_⟩
  obtain ⟨f, l, -, hf, -, hl, hb, rfl⟩ := blockBurst_eq_some hs hx
  have hc := burstCover_covers f l (hf.trans hl.symm)
  have ho := hb o ho rfl
  omega

theorem planBursts_rising {needed : List Nat} (hs : needed.Pairwise (· < ·)) :
    (planBursts needed).Pairwise (fun x y => x.off / 8 < y.off / 8) := by
  refine List.pairwise_filterMap.mpr (List.pairwise_lt_range.imp fun {a b} hab x hx y hy => ?_)
  rw [blockBurst_block hs hx, blockBurst_block hs hy]
  exact hab

/-- Every burst of a plan is the smallest aligned one for the needed words of its block. -/
theorem planBursts_least {needed : List Nat} (hs : needed.Pairwise (· < ·)) (x : Burst) (hx : x ∈ planBursts needed) :
    x.len ∈ [1, 2, 4, 8] ∧ x.off % x.len = 0 ∧ (∃ o ∈ needed, x.off ≤ o ∧ o < x.off + x.len)
      ∧ ∀ y : Burst, y.len ∈ [1, 2, 4, 8] → y.off % y.len = 0 →
        (∀ o ∈ needed, o / 8 = x.off / 8 → y.off ≤ o ∧ o < y.off + y.len) → x.len ≤ y.len := by
  obtain ⟨b, -, hb⟩ := List.mem_filterMap.mp hx
  have hblock := blockBurst_block hs hb
  obtain ⟨f, l, hfn, hf, hln, hl, -, rfl⟩ := blockBurst_eq_some hs hb
  have hc := burstCover_covers f l (hf.trans hl.symm)
  refine ⟨burstCover_len f l, burstCover_aligned f l, ⟨f, hfn, hc.1⟩, fun y hy ha hcov => ?_⟩
  exact burstCover_least f l y hy ha (hcov f hfn (hf.trans hblock.symm)) (hcov l hln (hl.trans hblock.symm))

/-! ## Needed words and stored bytes (R65) -/

/-- A word offset is needed when one of its frame bytes is not yet valid. -/
theorem needs_iff (x : Buffer) (len off : Nat) (h : 3 ≤ off) : x.needs len off = true ↔
    ∃ k, 4 * off ≤ k + 12 ∧ k + 12 < 4 * off + 4 ∧ k < 4 + len ∧ mapLookup x.bytes k = none := by
  simp only [Buffer.needs, Buffer.valid, List.any_eq_true, Bool.and_eq_true, decide_eq_true_eq, Bool.not_eq_true',
    Option.isSome_eq_false_iff, Option.isNone_iff_eq_none]
  constructor
  · rintro ⟨j, hj, hk, hn⟩
    have hj4 : j < 4 := by simp only [List.mem_cons, List.not_mem_nil, or_false] at hj; omega
    exact ⟨_, by omega, by omega, hk, hn⟩
  · rintro ⟨k, h1, h2, h3, hn⟩
    have hk : 4 * off + (k + 12 - 4 * off) - 12 = k := by omega
    refine ⟨k + 12 - 4 * off, ?_, by rwa [hk], by rwa [hk]⟩
    simp only [List.mem_cons, List.not_mem_nil, or_false]
    omega

/-- One lane of a read word: stored where the frame's byte is not yet valid. -/
def storeLane (len off : Nat) (d : Word) (m : List (Nat × Byte)) (j : Nat) : List (Nat × Byte) :=
  if 12 ≤ 4 * off + j ∧ 4 * off + j - 12 < 4 + len ∧ mapLookup m (4 * off + j - 12) = none
  then mapInsert m (4 * off + j - 12) (lane d j) else m

theorem storeInvalid_eq (len off : Nat) (d : Word) (m : List (Nat × Byte)) :
    storeInvalid len off d m = [0, 1, 2, 3].foldl (storeLane len off d) m := rfl

theorem mapLookup_storeLane (len off : Nat) (d : Word) (m : List (Nat × Byte)) (j k : Nat) :
    mapLookup (storeLane len off d m j) k
      = (mapLookup m k).or (if k + 12 = 4 * off + j ∧ k < 4 + len then some (lane d j) else none) := by
  unfold storeLane
  by_cases hk : k + 12 = 4 * off + j
  · obtain rfl : k = 4 * off + j - 12 := by omega
    split
    · next h => rw [mapLookup_insert_same, h.2.2, if_pos ⟨hk, h.2.1⟩]; rfl
    · next h =>
      cases hm : mapLookup m (4 * off + j - 12) with
      | some b => rfl
      | none => rw [if_neg fun hc => h ⟨by omega, hc.2, hm⟩]; rfl
  · rw [if_neg (c := k + 12 = 4 * off + j ∧ k < 4 + len) fun hc => hk hc.1, Option.or_none]
    split
    · exact mapLookup_insert_other m _ k _ (by omega)
    · rfl

/-- The bytes of one read word. -/
theorem mapLookup_storeInvalid (len off : Nat) (d : Word) (m : List (Nat × Byte)) (k : Nat) :
    mapLookup (storeInvalid len off d m) k = (mapLookup m k).or
      (if (k + 12) / 4 = off ∧ k < 4 + len then some (lane d ((k + 12) % 4)) else none) := by
  simp only [storeInvalid_eq, List.foldl_cons, List.foldl_nil, mapLookup_storeLane, Option.or_assoc]
  congr 1
  by_cases hk : (k + 12) / 4 = off ∧ k < 4 + len
  · rw [if_pos hk]
    have hj : (k + 12) % 4 = 0 ∨ (k + 12) % 4 = 1 ∨ (k + 12) % 4 = 2 ∨ (k + 12) % 4 = 3 := by omega
    rcases hj with hj | hj | hj | hj
    · rw [if_pos ⟨by omega, hk.2⟩, hj]; rfl
    · rw [if_neg (by omega), if_pos ⟨by omega, hk.2⟩, hj]; rfl
    · rw [if_neg (by omega), if_neg (by omega), if_pos ⟨by omega, hk.2⟩, hj]; rfl
    · rw [if_neg (by omega), if_neg (by omega), if_neg (by omega), if_pos ⟨by omega, hk.2⟩, hj]; rfl
  · rw [if_neg hk, if_neg (by omega), if_neg (by omega), if_neg (by omega), if_neg (by omega)]; rfl

/-- The bytes of a read, from word offset `off` on: a byte already valid stays (R65). -/
theorem mapLookup_storeRead (len off : Nat) (ds : List Word) (m : List (Nat × Byte)) (k : Nat) :
    mapLookup (storeRead len off ds m) k = (mapLookup m k).or
      (if 4 * off ≤ k + 12 ∧ k < 4 + len then ds[(k + 12) / 4 - off]?.map (fun w => lane w ((k + 12) % 4))
        else none) := by
  induction ds generalizing off m with
  | nil => simp [storeRead]
  | cons d ds ih =>
    rw [storeRead, ih, mapLookup_storeInvalid, Option.or_assoc]
    congr 1
    rcases Nat.lt_trichotomy ((k + 12) / 4) off with h | h | h
    · rw [if_neg (by omega), if_neg (by omega), if_neg (by omega)]; rfl
    · rw [if_neg (c := 4 * (off + 1) ≤ k + 12 ∧ k < 4 + len) (by omega), Option.or_none]
      by_cases hk : k < 4 + len
      · rw [if_pos ⟨h, hk⟩, if_pos ⟨by omega, hk⟩, h, Nat.sub_self]; rfl
      · rw [if_neg fun hc => hk hc.2, if_neg fun hc => hk hc.2]
    · rw [if_neg (c := (k + 12) / 4 = off ∧ k < 4 + len) (by omega), Option.none_or]
      have hi : (k + 12) / 4 - off = (k + 12) / 4 - (off + 1) + 1 := by omega
      have h1 : 4 * (off + 1) ≤ k + 12 := by omega
      have h2 : 4 * off ≤ k + 12 := by omega
      simp only [h1, h2, true_and, hi, List.getElem?_cons_succ]

/-! ## The reads of a LOADING buffer (R10, R65, R66, R73) -/

/-- While a class 2 request waits or is granted nothing is requested (log 19). -/
theorem presentRead_busy (s : State) (h : s.reqs.captureRead ≠ none ∨ s.port.readBusy = true) : presentRead s = s := by
  have hb : (s.reqs.captureRead.isSome || s.port.readBusy) = true := by
    simpa [Option.isSome_iff_ne_none] using h
  simp [presentRead, hb]

theorem presentRead_next (s : State) (h : s.reqs.captureRead = none) (hb : s.port.readBusy = false) :
    presentRead s = { s with reqs := { s.reqs with captureRead := s.cap.nextRead s.wm } } := by
  simp [presentRead, h, hb]

/-- The first of a list with a property is the one found. -/
theorem find?_first {α : Type} (p : α → Bool) (front rest : List α) (x : α) (h : ∀ y ∈ front, p y = false)
    (hx : p x = true) : (front ++ x :: rest).find? p = some x := by
  rw [List.find?_append, List.find?_eq_none.mpr (by simpa using h)]
  simp [hx]

/-- The oldest live refetch job, or else the oldest live staging job, reads next (R66, R73). -/
theorem nextRead_eq (u : CaptureUnit) (wm : Matcher) (j : ReadJob) (k : Burst) (rest : List Burst)
    (older younger : List ReadJob) (hj : u.jobs = older ++ j :: younger) (hd : j.drop = none) (hb : j.bursts = k :: rest)
    (h : j.refetch = true ∧ (∀ x ∈ older, x.refetch = false ∨ x.drop ≠ none)
      ∨ (∀ x ∈ older, x.drop ≠ none) ∧ (∀ x ∈ younger, x.refetch = false ∨ x.drop ≠ none)) :
    u.nextRead wm = some (j.req wm k) := by
  have dead : ∀ x : ReadJob, x.refetch = false ∨ x.drop ≠ none → (x.refetch && x.drop.isNone) = false := by
    intro x hx
    rcases hx with hx | hx
    · simp [hx]
    · cases hxd : x.drop <;> simp_all
  have found : (u.jobs.find? (fun j => j.refetch && j.drop.isNone)).or (u.jobs.find? (fun j => j.drop.isNone))
      = some j := by
    rw [hj]
    cases hr : j.refetch with
    | true =>
      have older_dead : ∀ x ∈ older, x.refetch = false ∨ x.drop ≠ none := by
        rcases h with ⟨-, h⟩ | ⟨h, -⟩
        · exact h
        · exact fun x hx => .inr (h x hx)
      rw [find?_first _ older younger j (fun x hx => dead x (older_dead x hx)) (by simp [hr, hd])]
      rfl
    | false =>
      obtain ⟨ho, hy⟩ : (∀ x ∈ older, x.drop ≠ none) ∧ ∀ x ∈ younger, x.refetch = false ∨ x.drop ≠ none := by
        simpa [hr] using h
      have no_refetch : (older ++ j :: younger).find? (fun j => j.refetch && j.drop.isNone) = none := by
        refine List.find?_eq_none.mpr fun x hx => ?_
        rw [Bool.not_eq_true]
        rcases List.mem_append.mp hx with hx | hx
        · exact dead x (.inr (ho x hx))
        · rcases List.mem_cons.mp hx with rfl | hx
          · exact dead x (.inl hr)
          · exact dead x (hy x hx)
      rw [no_refetch, Option.none_or]
      exact find?_first _ older younger j (fun x hx => by simpa [Option.isSome_iff_ne_none] using ho x hx) (by simp [hd])
  simp only [CaptureUnit.nextRead, found, hb, List.head?_cons, Option.map_some]

/-- Settles O29. -/
theorem readPlans : Obligations.ReadPlans := by
  refine ⟨⟨fun needed hs hn => ⟨planBursts_covers hs hn, planBursts_rising hs, planBursts_least hs⟩,
    fun x len _ => ⟨rfl, fun off => needs_iff x len off⟩, mapLookup_storeRead⟩,
    ⟨fun s refetch c i len b => ⟨fun hp => ?_, fun x rest hp => ?_⟩, fun s => ⟨presentRead_busy s,
      fun hn hb j k rest older younger hj hd hk h => ?_⟩⟩⟩
  · simp only [planReads, hp]; rfl
  · simp only [planReads, hp]
  · rw [presentRead_next s hn hb, nextRead_eq s.cap s.wm j k rest older younger hj hd hk h]
    rfl

end Sys2Proof.Machine

namespace Sys2Proof.Machine

/-! ## The words that the part writes for software (R27, R41, R164) -/

theorem Result.code_le (r : Result) : r.code ≤ 13 := by cases r <;> decide

theorem Status.code_le (st : Status) : st.code ≤ 10 := by cases st <;> decide

theorem EventKind.code_le (k : EventKind) : k.code ≤ 12 := by cases k <;> decide

theorem responseWord_toNat (c : Command) (res : Result) : (responseWord c res).toNat =
    c.code.toNat + c.tag.toNat * 2 ^ 8 + res.code * 2 ^ 16 + c.chan.val * 2 ^ 24 := by
  have hc := c.code.isLt
  have ht := c.tag.isLt
  have hr := res.code_le
  have hn := c.chan.isLt
  rw [responseWord, BitVec.toNat_ofNat]
  omega

theorem headerWord0_toNat (len : Nat) (notify : Bool) (st : Status) (h : len < 1024) :
    (headerWord0 len notify st).toNat = len + notify.toNat * 2 ^ 15 + st.code * 2 ^ 16 := by
  have hs := st.code_le
  have hn := notify.toNat_le
  rw [headerWord0, BitVec.toNat_ofNat]
  omega

theorem headerWord1_toNat (q : Seq) (ep : Epoch) (n : Nat) (h : n < 16) :
    (headerWord1 q ep n).toNat = q.toNat + ep.toNat * 2 ^ 16 + n * 2 ^ 24 := by
  have hq := q.isLt
  have he := ep.isLt
  rw [headerWord1, BitVec.toNat_ofNat]
  omega

theorem recordWord0_toNat (k : EventKind) (c : Chan) :
    (BitVec.ofNat 32 (k.code + c.val * 2 ^ 8)).toNat = k.code + c.val * 2 ^ 8 := by
  have hk := k.code_le
  have hc := c.isLt
  rw [BitVec.toNat_ofNat]
  omega

/-- Settles O19: no field reaches into the next one, so the words are the sums of their fields. -/
theorem writtenFields : Obligations.WrittenFields :=
  ⟨responseWord_toNat, headerWord0_toNat, headerWord1_toNat,
    fun k c _ _ _ => ⟨_, rfl, recordWord0_toNat k c⟩, rfl, rfl, rfl, rfl, rfl, rfl, rfl⟩

end Sys2Proof.Machine

namespace Sys2Proof.Machine

/-! ## The arrival and the start of a command (R22 to R26) -/

/-- With its words applied, a record that brings the command word `w` brings that command. -/
theorem applyCommand_word (s : State) (r : WriteRecord) (w : Word) (h : r.command? s.wm = some w) :
    applyCommand r (s.wordsTaken r) = commandArrival (commandOf w (s.wordsTaken r).wm) (s.wordsTaken r) := by
  have hw := (command?_wordsTaken s r).trans h
  simp only [applyCommand, hw]

/-- At two empty places the row of the command is the command's start. -/
theorem exec_starts {s : State} {r : WriteRecord} {w : Word} {c : Command} {s2 : State} (h : s.starts r w c s2) :
    exec (commandRow (commandCode w)) s = .next (arriveNext (startCommand c s2)) := by
  obtain ⟨ho, hw, hc, rfl, rfl⟩ := h
  rw [exec_commandRow s r w ho hw, applyCommand_word s r w hw]
  simp only [commandArrival, hc, execute]

/-- The same for a row named by its code, with what that code says. -/
theorem exec_starts_code {s : State} {r : WriteRecord} {w : Word} {c : Command} {s2 t : State} {k : Nat}
    (h : s.starts r w c s2) (hk : commandCode w = k) (ht : c.code.toNat = k → startCommand c s2 = t) :
    exec (commandRow k) s = .next (arriveNext t) := by
  rw [← ht ((starts_code s r w c s2 h).trans hk), ← hk, exec_starts h]

theorem starts_places {s : State} {r : WriteRecord} {w : Word} {c : Command} {s2 : State} (h : s.starts r w c s2) :
    s2.cmd = ⟨some ⟨c, .running⟩, none⟩ := by
  obtain ⟨-, -, -, -, rfl⟩ := h
  rfl

/-! ### What the code of a command says (section 2.7) -/

section
variable {c : Command} (s : State)

theorem startCommand_echo (h : c.code.toNat = 1) : startCommand c s = endCommand .done Config.partIdentification s := by
  simp only [startCommand, h]

theorem startCommand_load (h : c.code.toNat = 2) : startCommand c s = startLoad c s := by simp only [startCommand, h]

theorem startCommand_stop (h : c.code.toNat = 3) : startCommand c s = startStop c s := by simp only [startCommand, h]

theorem startCommand_enable (h : c.code.toNat = 4) : startCommand c s = startEnable s := by simp only [startCommand, h]

theorem startCommand_disable (h : c.code.toNat = 5) : startCommand c s = startDisable s := by
  simp only [startCommand, h]

theorem startCommand_events (h : c.code.toNat = 6) : startCommand c s = startEvents c s := by
  simp only [startCommand, h]

theorem startCommand_eventsStop (h : c.code.toNat = 7) : startCommand c s = stopEvents s := by
  simp only [startCommand, h]

theorem startCommand_snapshot (h : c.code.toNat = 8) : startCommand c s = startSnapshot c s := by
  simp only [startCommand, h]

theorem startCommand_unknown (h : c.code.toNat = 0 ∨ 8 < c.code.toNat) :
    startCommand c s = endCommand .badCommand 0#32 s := by
  unfold startCommand
  split
  case h_9 => rfl
  all_goals omega

end

/-- Every code that names no command has the row BAD_COMMAND. -/
theorem commandRow_unknown (k : Nat) (h : k = 0 ∨ 8 < k) : commandRow k = .badCommand := by
  unfold commandRow
  split
  case h_9 => rfl
  all_goals omega

/-- Settles O14. -/
theorem echoAndBadCommand : Obligations.EchoAndBadCommand := by
  intro s r w c s2 h
  rw [← starts_answers s r w c s2 h, ← starts_answers s r w c s2 h]
  refine ⟨fun hk => exec_starts_code h hk (startCommand_echo s2), fun hk => ?_⟩
  rw [← commandRow_unknown _ hk]
  exact exec_starts_code h rfl fun hc => startCommand_unknown s2 (hc ▸ hk)

/-- Settles O13. -/
theorem commandWaitsOrOverruns : Obligations.CommandWaitsOrOverruns := by
  intro s r w ho hw
  have hfields : commandOf w (s.wordsTaken r).wm = ⟨BitVec.ofNat 8 w.toNat, BitVec.ofNat 8 (w.toNat / 2 ^ 8),
      Fin.ofNat 16 (w.toNat / 2 ^ 16), (s.wordsTaken r).wm.arg1, (s.wordsTaken r).wm.arg2,
      (s.wordsTaken r).wm.arg3⟩ := by
    simp [commandOf, chanOfBits, bits, Fin.ofNat, BitVec.ofNat]
  dsimp only
  rw [exec_commandRow s r w ho hw, applyCommand_word s r w hw, hfields]
  exact ⟨fun x hx hy => by simp only [commandArrival, hx, hy], fun x y hx hy => by simp only [commandArrival, hx, hy]⟩

/-! ### LOAD_CHANNEL, LINK_ENABLE and LINK_DISABLE (R33, R35, R92, R94) -/

theorem startLoad_off (c : Command) (s : State) (h : s.wm.chans[c.chan].state = .off) :
    startLoad c s = present (channelRecordReq s.wm c.chan) s := by
  simp only [startLoad, h]

theorem startLoad_on (c : Command) (s : State) (h : s.wm.chans[c.chan].state ≠ .off) :
    startLoad c s = endCommand .channelActive 0#32 s := by
  unfold startLoad
  split
  · next ho => exact absurd ho h
  all_goals rfl

theorem startEnable_off (s : State) (h : s.link.state = .off) : startEnable s = present (linkRecordReq s.wm) s := by
  simp only [startEnable, h]

theorem startEnable_on (s : State) (h : s.link.state ≠ .off) : startEnable s = endCommand .linkActive 0#32 s := by
  unfold startEnable
  split
  · next ho => exact absurd ho h
  all_goals rfl

theorem startDisable_off (s : State) (h : s.link.state = .off) : startDisable s = endCommand .done 0#32 s := by
  simp only [startDisable, h]

theorem startDisable_on (s : State) (h : s.link.state ≠ .off) : startDisable s = linkReset .linkDisable s := by
  unfold startDisable
  split
  · next ho => exact absurd ho h
  all_goals rfl

/-- Settles O15. -/
theorem tableCommandsStart : Obligations.TableCommandsStart := by
  refine ⟨fun s r w c s2 h hk => ?_, fun s r w c s2 h => ⟨fun hk => ?_, fun hk => ?_⟩⟩ <;>
    rw [← starts_answers s r w c s2 h]
  · have he : exec .loadChannel s = .next (arriveNext (startLoad c s2)) := exec_starts_code h hk (startCommand_load s2)
    exact ⟨fun ho => by rw [he, startLoad_off c s2 ho]; rfl, fun ho => by rw [he, startLoad_on c s2 ho]⟩
  · have he : exec .linkEnable s = .next (arriveNext (startEnable s2)) := exec_starts_code h hk (startCommand_enable s2)
    exact ⟨fun ho => by rw [he, startEnable_off s2 ho]; rfl, fun ho => by rw [he, startEnable_on s2 ho]⟩
  · have he : exec .linkDisable s = .next (arriveNext (startDisable s2)) :=
      exec_starts_code h hk (startCommand_disable s2)
    exact ⟨fun ho => by rw [he, startDisable_off s2 ho], fun ho => by rw [he, startDisable_on s2 ho]⟩

end Sys2Proof.Machine

namespace Sys2Proof.Machine

/-! ## EVENTS_START, EVENTS_STOP and SNAPSHOT at their start (R173, R174, R178) -/

theorem startEvents_active (c : Command) (s : State) (h : s.ev.run ≠ .stopped) :
    startEvents c s = endCommand .eventsActive 0#32 s := by
  unfold startEvents
  split
  · next hs => exact absurd hs h
  all_goals rfl

theorem startEvents_refused (c : Command) (s : State) (n : Nat) (h : s.ev.run = .stopped)
    (hn : eventsStartCheck s.wm c.arg1 c.arg2 = some n) :
    startEvents c s = endCommand .badParameter (BitVec.ofNat 32 n) s := by
  simp only [startEvents, h, hn]

theorem startEvents_passes (c : Command) (s : State) (h : s.ev.run = .stopped)
    (hn : eventsStartCheck s.wm c.arg1 c.arg2 = none) : startEvents c s = installRing c.arg1 c.arg2 s := by
  simp only [startEvents, h, hn]

/-- The range meets the area of a channel that is not OFF (R173). -/
theorem any_meetsChannel_iff (wm : Matcher) (a n : Nat) :
    allChans.any (meetsChannel wm a n) = true ↔
      ∃ c cfg, wm.cfg? c = some cfg ∧ rangesMeet a n cfg.base cfg.bytes = true := by
  have mem : ∀ c : Chan, c ∈ allChans := by decide
  rw [List.any_eq_true]
  refine ⟨fun ⟨c, _, h⟩ => ?_, fun ⟨c, cfg, hc, h⟩ => ⟨c, mem c, by simpa only [meetsChannel, hc] using h⟩⟩
  unfold meetsChannel at h
  split at h
  · next cfg hc => exact ⟨c, cfg, hc, h⟩
  · cases h

/-- The base is not aligned to a record, or beyond the 256 MiB of memory (R173, check 1). -/
theorem ringBase_bad_iff (a : Word) :
    (bits a 0 4 ≠ 0 ∨ bits a 28 4 ≠ 0) ↔ (a.toNat % 16 ≠ 0 ∨ 0x10000000 ≤ a.toNat) := by
  have ha := a.isLt
  simp only [bits]
  omega

/-- The four checks in their order (R173). -/
theorem eventsStartCheck_eq (wm : Matcher) (a n : Word) : eventsStartCheck wm a n =
    if a.toNat % 16 ≠ 0 ∨ 0x10000000 ≤ a.toNat then some 1
    else if n.toNat < 16 ∨ 1024 < n.toNat then some 2
    else if 0xFFFFFFF < a.toNat + 16 * n.toNat - 1 then some 3
    else if ∃ c cfg, wm.cfg? c = some cfg ∧ rangesMeet a.toNat (16 * n.toNat) cfg.base cfg.bytes = true then some 4
    else none := by
  simp only [eventsStartCheck, ringBase_bad_iff, any_meetsChannel_iff]

/-- The unit presents what it can of the ring access it already has. -/
theorem runRing_busy (s : State) (w : RingWrite) (h : s.ev.ring = some w) :
    runRing s = { s with reqs := { s.reqs with event := eventSlot s.ev s.port s.wm s.reqs.event } } := by
  simp only [runRing, choose_busy w h]

/-- With both indexes 0 the interrupt line is low. -/
theorem installRing_eq (a n : Word) (s : State) :
    let ev := { s.ev with
      ringCfg := some ⟨a.toNat, n.toNat⟩, producer := 0, lostHold := false, run := .running
      ring := some (startWrite s.wm) }
    let wm := { s.wm with consumer := 0#32 }
    installRing a n s = { s with
      wm := wm, ev := ev, intOut := false
      reqs := { s.reqs with event := eventSlot ev s.port wm s.reqs.event } } := by
  intro ev wm
  have hi : intLevel ev wm = false := by simp [intLevel, ev, wm]
  have hr := runRing_busy { s with wm := wm, ev := ev } _ rfl
  simp only [installRing]
  rw [hr, driveInt, hi]

/-- Settles O16. -/
theorem eventsStartStart : Obligations.EventsStartStart := by
  intro s r w c s2 h hk
  have he : exec .eventsStart s = .next (arriveNext (startEvents c s2)) := exec_starts_code h hk (startCommand_events s2)
  dsimp only
  simp only [← starts_answers s r w c s2 h]
  have check := eventsStartCheck_eq s2.wm c.arg1 c.arg2
  refine ⟨fun hr => by rw [he, startEvents_active c s2 hr], fun hr => ⟨fun h1 => ?_, fun h1 h2 => ?_,
    fun h1 h2 h3 => ?_, fun h1 h2 h3 h4 => ?_, fun h1 h2 h3 h4 => ?_⟩⟩ <;> rw [he]
  · rw [if_pos h1] at check
    rw [startEvents_refused c s2 1 hr check]
  · rw [if_neg h1, if_pos h2] at check
    rw [startEvents_refused c s2 2 hr check]
  · rw [if_neg h1, if_neg h2, if_pos h3] at check
    rw [startEvents_refused c s2 3 hr check]
  · rw [if_neg h1, if_neg h2, if_neg h3, if_pos h4] at check
    rw [startEvents_refused c s2 4 hr check]
  · rw [if_neg h1, if_neg h2, if_neg h3, if_neg h4] at check
    rw [startEvents_passes c s2 hr check, installRing_eq]
    rfl

/-! ### EVENTS_STOP and the drain (R174) -/

theorem finishDrain_busy (s : State) (h : s.ev.drained = false) : finishDrain s = s := by simp [finishDrain, h]

theorem finishDrain_done (s : State) (h : s.ev.drained = true) : finishDrain s =
    endCommand .done s.ev.lostCount { s with ev := { s.ev with run := .stopped, ringCfg := none } } := by
  simp [finishDrain, h]

/-- The unit has a ring access, and a request of its own waits: it goes on as it is. -/
theorem runRing_waits (s : State) (w : RingWrite) (h : s.ev.ring = some w) (hq : s.reqs.event ≠ none) :
    runRing s = s := by
  rw [runRing_busy s w h, eventSlot_busy _ _ _ _ (.inl hq)]

/-- DRAINING, with INT_OUT low. -/
def State.draining (s : State) : State := { s with ev := { s.ev with run := .draining }, intOut := false }

theorem stopEvents_stopped (s : State) (h : s.ev.run = .stopped) : stopEvents s = endCommand .eventsIdle 0#32 s := by
  simp only [stopEvents, h]

theorem stopEvents_running (s : State) (h : s.ev.run = .running) : stopEvents s = finishDrain (runRing s.draining) := by
  simp only [stopEvents, h]
  rfl

/-- With nothing queued and no ring access the unit chooses nothing in DRAINING. -/
theorem runRing_draining_ev (s : State) (hq : s.ev.queue = []) (hr : s.ev.ring = none) :
    (runRing s.draining).ev = s.draining.ev :=
  choose_drained (ev := s.draining.ev) hr rfl hq

/-- Settles O17. -/
theorem eventsStopAndSnapshotStart : Obligations.EventsStopAndSnapshotStart := by
  intro s r w c s2 h
  refine ⟨fun hk => ?_, fun hk => exec_starts_code h hk (startCommand_snapshot s2)⟩
  have he : exec .eventsStop s = .next (arriveNext (stopEvents s2)) :=
    exec_starts_code h hk (startCommand_eventsStop s2)
  refine ⟨fun hr => ?_, fun hr => ?_, fun n a ws hr hw hq => ?_, fun hr hq hw => ?_⟩
  · rw [he, stopEvents_stopped s2 hr, starts_answers s r w c s2 h]
  · rw [he, stopEvents_running s2 hr]; rfl
  · have busy : s2.draining.ev.drained = false := by simp [EventUnit.drained, State.draining, hw]
    rw [he, stopEvents_running s2 hr, runRing_waits s2.draining _ hw hq, finishDrain_busy _ busy]
    rfl
  · have same := runRing_draining_ev s2 hq hw
    have done : (runRing s2.draining).ev.drained = true := by
      rw [same]; simp [EventUnit.drained, State.draining, hq, hw]
    rw [he, stopEvents_running s2 hr, finishDrain_done _ done, same]
    exact congrArg _ (congrArg _ (endCommand_answers _ c _ _ (congrArg _ (starts_places h))))

/-! ## The ends of the response writes (R27, R28) -/

@[simp] theorem postFaultIf_cmd (e : AccessEnd) (c : Chan) (o : Origin) (a : Nat) (s : State) :
    (postFaultIf e c o a s).cmd = s.cmd := by
  unfold postFaultIf; split <;> rfl

@[simp] theorem postFaultIf_wm (e : AccessEnd) (c : Chan) (o : Origin) (a : Nat) (s : State) :
    (postFaultIf e c o a s).wm = s.wm := by
  unfold postFaultIf; split <;> rfl

theorem endDetail_detail (e : AccessEnd) (r : DevReq) (s : State) (c : Command) (res : Result) (d : Word)
    (h : s.cmd.executing = some ⟨c, .detail res d⟩) :
    endDetail e r s = present (responseReq s.wm c res) { postFaultIf e 0 .record r.addr s with
      cmd := { s.cmd with executing := some ⟨c, .response res d⟩ } } := by
  simp only [endDetail, postFaultIf_cmd, postFaultIf_wm, h]

theorem endResponse_idle (e : AccessEnd) (r : DevReq) (s : State) (h : s.cmd.waiting = none) :
    endResponse e r s = { postFaultIf e 0 .record r.addr s with cmd := ⟨none, none⟩ } := by
  simp only [endResponse, postFaultIf_cmd, h]

theorem endResponse_next (e : AccessEnd) (r : DevReq) (s : State) (c : Command) (h : s.cmd.waiting = some c) :
    endResponse e r s = startCommand c { postFaultIf e 0 .record r.addr s with cmd := ⟨some ⟨c, .running⟩, none⟩ } := by
  simp only [endResponse, postFaultIf_cmd, h, execute]

/-- Settles O18. -/
theorem responseWritesEnd : Obligations.ResponseWritesEnd := by
  intro s r e
  refine ⟨fun c res d hs hx => ?_, fun hs => ⟨fun hw => ?_, fun c hw => ?_⟩⟩
  · have hg : ownerGoesOn e r (endDevice r e s) = endDetail e r (endDevice r e s) := by simp only [ownerGoesOn, hs.2.2]
    refine (deviceEnd_serves .respDetail _ e s r hs rfl).trans ?_
    rw [hg, endDetail_detail e r (endDevice r e s) c res d hx]
    rfl
  all_goals
    have hg : ownerGoesOn e r (endDevice r e s) = endResponse e r (endDevice r e s) := by
      simp only [ownerGoesOn, hs.2.2]
    refine (deviceEnd_serves .respWord _ e s r hs rfl).trans ?_
    rw [hg]
  · rw [endResponse_idle e r (endDevice r e s) hw]
  · rw [endResponse_next e r (endDevice r e s) c hw]

end Sys2Proof.Machine

namespace Sys2Proof.Machine

/-! ## What the operations of the units leave of the Window Matcher

Most leave all of it; those that load and stop a channel leave its five latches. -/

theorem wm_foldl {α : Type} {f : State → α → State} (h : ∀ s a, (f s a).wm = s.wm) (l : List α) (s : State) :
    (l.foldl f s).wm = s.wm := by
  induction l generalizing s with
  | nil => rfl
  | cons a l ih => rw [List.foldl_cons, ih, h]

section
variable (s : State)

/-! ### The Event Unit -/

@[simp] theorem runRing_wm : (runRing s).wm = s.wm := rfl

@[simp] theorem post_wm (k : EventKind) (c : Chan) (d1 d2 : Word) : (post k c d1 d2 s).wm = s.wm := rfl

@[simp] theorem postFault_wm (c : Chan) (o : Origin) (a : Nat) : (postFault c o a s).wm = s.wm := rfl

@[simp] theorem finishDrain_wm : (finishDrain s).wm = s.wm := by
  unfold finishDrain; split <;> rfl

@[simp] theorem consumerChanged_wm : (consumerChanged s).wm = s.wm := by
  unfold consumerChanged; dsimp only; split <;> simp

@[simp] theorem stopEvents_wm : (stopEvents s).wm = s.wm := by
  unfold stopEvents; split <;> simp

@[simp] theorem startSnapshot_wm (c : Command) : (startSnapshot c s).wm = s.wm := rfl

@[simp] theorem endRingWrite_wm (k : RingKind) (e : AccessEnd) (r : DevReq) : (endRingWrite k e r s).wm = s.wm := by
  unfold endRingWrite afterRing endStartWrite; (repeat' split) <;> simp

@[simp] theorem endSnapBurst_wm (e : AccessEnd) (r : DevReq) : (endSnapBurst e r s).wm = s.wm := by
  unfold endSnapBurst; dsimp only; (repeat' split) <;> simp

/-! ### The Credit Unit -/

@[simp] theorem reportPosted_wm (c : Chan) : (reportPosted c s).wm = s.wm := by
  unfold reportPosted; split <;> rfl

@[simp] theorem creditLoaded_wm (c : Chan) (g : BitVec 8) (k : Nat) : (creditLoaded c g k s).wm = s.wm := rfl

@[simp] theorem refreshCredits_wm : (refreshCredits s).wm = s.wm := by
  unfold refreshCredits; exact wm_foldl (fun s c => by split <;> simp) _ s

@[simp] theorem refreshExpires_wm : (refreshExpires s).wm = s.wm := by
  unfold refreshExpires; dsimp only; split <;> simp

@[simp] theorem creditUpChan_wm (c : Chan) : (creditUpChan s c).wm = s.wm := by
  unfold creditUpChan; split <;> simp

@[simp] theorem creditLinkUp_wm : (creditLinkUp s).wm = s.wm := by
  simp [creditLinkUp, wm_foldl creditUpChan_wm]

/-! ### The Capture Unit -/

@[simp] theorem dropJob_wm (b : Buf) (d : Drop) : (dropJob b d s).wm = s.wm := by
  unfold dropJob; split <;> rfl

@[simp] theorem startWriteback_wm : (startWriteback s).wm = s.wm := by
  unfold startWriteback; (repeat' split) <;> rfl

@[simp] theorem releaseBuf_wm (b : Buf) : (releaseBuf b s).wm = s.wm := by
  unfold releaseBuf; split <;> simp

@[simp] theorem releaseSlotBuf_wm (c : Chan) (i : Nat) : (releaseSlotBuf c i s).wm = s.wm := by
  unfold releaseSlotBuf; split <;> simp

@[simp] theorem completeSlot_wm (c : Chan) (i : Nat) (st : Status) (sent : Option SentInfo) :
    (completeSlot c i st sent s).wm = s.wm := by
  simp [completeSlot]

@[simp] theorem drainClosed_wm (c : Chan) (n : Nat) : (drainClosed c n s).wm = s.wm := by
  induction n generalizing s with
  | zero => rfl
  | succ n ih => unfold drainClosed; split <;> simp [ih]

@[simp] theorem settleClosed_wm (c : Chan) : (settleClosed c s).wm = s.wm := drainClosed_wm s c _

@[simp] theorem takeCommit_wm (c : Chan) (i len : Nat) (notify : Bool) : (takeCommit c i len notify s).wm = s.wm := by
  unfold takeCommit rejectCommit acceptCommit; dsimp only; (repeat' split) <;> simp

@[simp] theorem planReads_wm (refetch : Bool) (c : Chan) (i len : Nat) (b : Buf) :
    (planReads refetch c i len b s).wm = s.wm := by
  unfold planReads; split <;> rfl

@[simp] theorem beginStaging_wm (c : Chan) : (beginStaging c s).wm = s.wm := by
  unfold beginStaging; (repeat' split) <;> simp

@[simp] theorem finishDropped_wm (b : Buf) (d : Drop) : (finishDropped b d s).wm = s.wm := rfl

@[simp] theorem acceptRead_wm (j : ReadJob) (r : DevReq) : (acceptRead j r s).wm = s.wm := by
  unfold acceptRead; split <;> rfl

@[simp] theorem endStagingRead_wm (b : Buf) (e : AccessEnd) (r : DevReq) : (endStagingRead b e r s).wm = s.wm := by
  unfold endStagingRead faultStaging; (repeat' split) <;> simp

@[simp] theorem grantRefetch_wm : (grantRefetch s).wm = s.wm := by
  unfold grantRefetch; (repeat' split) <;> simp

@[simp] theorem cancelCaptureRefetch_wm : (cancelCaptureRefetch s).wm = s.wm := by
  unfold cancelCaptureRefetch; dsimp only; (repeat' split) <;> simp

@[simp] theorem emptyFilling_wm (c : Chan) (i : Nat) : (emptyFilling c s i).wm = s.wm := by
  unfold emptyFilling; (repeat' split) <;> simp

@[simp] theorem stopSlot_wm (c : Chan) (i : Nat) : (stopSlot c s i).wm = s.wm := by
  unfold stopSlot; (repeat' split) <;> simp

@[simp] theorem resetSlot_wm (c : Chan) (i : Nat) : (resetSlot c s i).wm = s.wm := by
  unfold resetSlot; (repeat' split) <;> simp

@[simp] theorem captureReset_wm : (captureReset s).wm = s.wm :=
  (wm_foldl (fun s c => wm_foldl (fun s i => resetSlot_wm s c i) _ s) _ _).trans (cancelCaptureRefetch_wm s)

@[simp] theorem endWbHeader_wm (e : AccessEnd) (r : DevReq) : (endWbHeader e r s).wm = s.wm := by
  unfold endWbHeader toWord0; (repeat' split) <;> simp

@[simp] theorem settleDest_wm (d : Chan) : (settleDest d s).wm = s.wm :=
  wm_foldl (fun s c => by split <;> simp) _ _

/-! ### The Link Controller -/

@[simp] theorem statusEnd_wm (e : AccessEnd) (r : DevReq) : (statusEnd e r s).wm = s.wm := by
  unfold statusEnd; dsimp only; split <;> simp

@[simp] theorem trySync_wm : (trySync s).wm = s.wm := by
  unfold trySync; split <;> rfl

@[simp] theorem acknowledge_wm : (acknowledge s).wm = s.wm := by
  unfold acknowledge; dsimp only; split <;> simp

@[simp] theorem linkReset_wm (cause : Cause) : (linkReset cause s).wm = s.wm := by
  unfold linkReset postDown; dsimp only; split <;> simp

@[simp] theorem reportReset_wm (cause : Cause) : (reportReset cause s).wm = s.wm := by
  unfold reportReset; split <;> simp

@[simp] theorem takeInit_wm (epoch : Epoch) (heard : Option Epoch) : (takeInit epoch heard s).wm = s.wm := by
  unfold takeInit enterUp; dsimp only; (repeat' split) <;> simp

@[simp] theorem startEnable_wm : (startEnable s).wm = s.wm := by
  unfold startEnable; split <;> simp

@[simp] theorem startDisable_wm : (startDisable s).wm = s.wm := by
  unfold startDisable; split <;> simp

@[simp] theorem linkRecordEnd_wm (e : AccessEnd) (r : DevReq) : (linkRecordEnd e r s).wm = s.wm := by
  unfold linkRecordEnd installLink; dsimp only; (repeat' split) <;> simp

@[simp] theorem lockFound_wm (ws : List LinkWord) : (lockFound ws s).wm = s.wm := by
  unfold lockFound; split <;> simp

@[simp] theorem lockLost_wm (ws : List LinkWord) : (lockLost ws s).wm = s.wm := by
  unfold lockLost; dsimp only; (repeat' split) <;> simp

@[simp] theorem initArrives_wm (ws : List LinkWord) : (initArrives ws s).wm = s.wm := by
  unfold initArrives; split <;> simp

@[simp] theorem initTimerExpires_wm : (initTimerExpires s).wm = s.wm := by
  unfold initTimerExpires; split <;> rfl

@[simp] theorem syncTimerExpires_wm : (syncTimerExpires s).wm = s.wm := by
  unfold syncTimerExpires; split <;> simp

/-! ### The Transmit Engine -/

@[simp] theorem cancelRefetch_wm : (cancelRefetch s).wm = s.wm := by
  unfold cancelRefetch; split <;> simp

@[simp] theorem restOn_wm (x : ReplayEntry) : (restOn x s).wm = s.wm := by
  unfold restOn retryLimitReached; (repeat' split) <;> simp

@[simp] theorem movePass_wm (x : ReplayEntry) : (movePass x s).wm = s.wm := by
  unfold movePass; dsimp only; split <;> simp

@[simp] theorem startPass_wm (x : ReplayEntry) : (startPass x s).wm = s.wm := by
  simp [startPass]

@[simp] theorem resendFrame_wm : (resendFrame s).wm = s.wm := by
  unfold resendFrame sendAgain advancePass; dsimp only; (repeat' split) <;> simp

@[simp] theorem firstSendFrame_wm : (firstSendFrame s).wm = s.wm := by
  unfold firstSendFrame sendNew; split <;> simp

@[simp] theorem sendInitFrame_wm : (sendInitFrame s).wm = s.wm := by
  unfold sendInitFrame; split <;> rfl

@[simp] theorem sendAckFrame_wm : (sendAckFrame s).wm = s.wm := by
  unfold sendAckFrame; split <;> rfl

@[simp] theorem sendNakFrame_wm : (sendNakFrame s).wm = s.wm := by
  unfold sendNakFrame; split <;> rfl

@[simp] theorem sendCreditFrame_wm : (sendCreditFrame s).wm = s.wm := by
  unfold sendCreditFrame; (repeat' split) <;> rfl

@[simp] theorem endSend_wm (how : SendEnd) : (endSend how s).wm = s.wm := by
  unfold endSend reportEnd; (repeat' split) <;> rfl

@[simp] theorem completeEntry_wm (st : ReplayEntry → Status) (x : ReplayEntry) :
    (completeEntry st s x).wm = s.wm := by
  unfold completeEntry; dsimp only; split <;> simp

@[simp] theorem adjustPass_wm : (adjustPass s).wm = s.wm := by
  unfold adjustPass; (repeat' split) <;> simp

@[simp] theorem ackTaken_wm : (ackTaken s).wm = s.wm := by
  unfold ackTaken takeAck coverAck
  (repeat' split) <;> simp [wm_foldl (fun s x => completeEntry_wm s _ x)]

@[simp] theorem nakTaken_wm : (nakTaken s).wm = s.wm := by
  unfold nakTaken takeNak coverNak; dsimp only; (repeat' split) <;> simp

@[simp] theorem ackArrives_wm (ws : List LinkWord) : (ackArrives ws s).wm = s.wm := by
  unfold ackArrives; split <;> rfl

@[simp] theorem nakArrives_wm (ws : List LinkWord) : (nakArrives ws s).wm = s.wm := by
  unfold nakArrives; split <;> rfl

@[simp] theorem ackTimerTurn_wm : (ackTimerTurn s).wm = s.wm := by
  unfold ackTimerTurn ackTimerExpires expiryPass; dsimp only; (repeat' split) <;> simp

@[simp] theorem endRefetchRead_wm (b : Buf) (e : AccessEnd) (r : DevReq) : (endRefetchRead b e r s).wm = s.wm := by
  unfold endRefetchRead faultRefetch; (repeat' split) <;> simp

@[simp] theorem transmitReset_wm : (transmitReset s).wm = s.wm := by
  simp [transmitReset, wm_foldl (fun s x => completeEntry_wm s _ x)]

/-! ### The Landing Engine -/

@[simp] theorem reportPostedTimes_wm (c : Chan) (n : Nat) : (reportPostedTimes c n s).wm = s.wm := by
  induction n generalizing s with
  | zero => rfl
  | succ n ih => simp [reportPostedTimes, ih]

@[simp] theorem takeRelease_wm (c : Chan) (i : Nat) (notify : Bool) : (takeRelease c i notify s).wm = s.wm := by
  simp [takeRelease]

@[simp] theorem askNak_wm : (askNak s).wm = s.wm := by
  unfold askNak; split <;> rfl

@[simp] theorem batchDisposal_wm : (batchDisposal s).wm = s.wm := by
  unfold batchDisposal; dsimp only; split <;> rfl

@[simp] theorem dispose_wm (x : LandEntry) (reason : Option Reason) : (dispose x reason s).wm = s.wm := by
  unfold dispose listRefusal; (repeat' split) <;> simp

@[simp] theorem toPayload_wm (e : LandEntry) (l : Landing) (bursts : List Burst) :
    (toPayload e l bursts s).wm = s.wm := by
  unfold toPayload; split <;> rfl

@[simp] theorem runQueue_wm (q : List LandEntry) : (runQueue q s).wm = s.wm := by
  induction q generalizing s with
  | nil => rfl
  | cons e rest ih => unfold runQueue startLanding; dsimp only; (repeat' split) <;> simp [ih]

@[simp] theorem enqueue_wm (e : LandEntry) : (enqueue e s).wm = s.wm := by
  unfold enqueue; split <;> simp

@[simp] theorem takeData_wm (c : Chan) (q : Seq) (user : Word) (payload : List Byte) :
    (takeData c q user payload s).wm = s.wm := by
  unfold takeData accept; dsimp only; (repeat' split) <;> simp

@[simp] theorem dataTaken_wm : (dataTaken s).wm = s.wm := by
  unfold dataTaken takeArrival; (repeat' split) <;> simp

@[simp] theorem dataArrives_wm (ws : List LinkWord) : (dataArrives ws s).wm = s.wm := by
  unfold dataArrives; split <;> rfl

@[simp] theorem damaged_wm (ws : List LinkWord) : (damaged ws s).wm = s.wm := by
  unfold damaged takeDamage reportDamage; dsimp only; (repeat' split) <;> simp

@[simp] theorem ackDelayExpires_wm : (ackDelayExpires s).wm = s.wm := by
  unfold ackDelayExpires; split <;> rfl

@[simp] theorem leaveLanding_wm (c : Chan) (i : Nat) : (leaveLanding c i s).wm = s.wm := by
  unfold leaveLanding; (repeat' split) <;> rfl

@[simp] theorem guardTurn_wm : (guardTurn s).wm = s.wm := by
  unfold guardTurn guardExpires; dsimp only; (repeat' split) <;> simp

@[simp] theorem endLandPayload_wm (e : AccessEnd) (r : DevReq) : (endLandPayload e r s).wm = s.wm := by
  unfold endLandPayload; split <;> simp

@[simp] theorem endLandHeader_wm (e : AccessEnd) (r : DevReq) : (endLandHeader e r s).wm = s.wm := by
  unfold endLandHeader toControl; split <;> simp

@[simp] theorem disposeLanding_wm (x : LandEntry) (l : Landing) : (disposeLanding x l s).wm = s.wm := by
  unfold disposeLanding; split <;> simp

@[simp] theorem returnSlot_wm (x : LandEntry) (l : Landing) (st : Status) : (returnSlot x l st s).wm = s.wm := by
  unfold returnSlot; dsimp only; (repeat' split) <;> simp

@[simp] theorem discardEntry_wm (e : LandEntry) : (discardEntry s e).wm = s.wm := by
  unfold discardEntry; split <;> simp

/-! ### Notices of a link reset, CREDITs -/

@[simp] theorem captureNotice_wm : (captureNotice s).wm = s.wm := by
  unfold captureNotice; split <;> simp

@[simp] theorem transmitNotice_wm : (transmitNotice s).wm = s.wm := by
  unfold transmitNotice; split <;> simp

@[simp] theorem creditNotice_wm : (creditNotice s).wm = s.wm := by
  unfold creditNotice; split <;> simp

@[simp] theorem creditTaken_wm : (creditTaken s).wm = s.wm := by
  unfold creditTaken takeCredit; dsimp only; (repeat' split) <;> simp

@[simp] theorem creditArrives_wm (ws : List LinkWord) : (creditArrives ws s).wm = s.wm := by
  unfold creditArrives; split <;> rfl

/-! ### The host port, slot words and the ends of responses -/

@[simp] theorem arrive_wm (a : HostAccess) : (arrive a s).wm = s.wm := by
  unfold arrive; split <;> rfl

@[simp] theorem arriveNext_wm : (arriveNext s).wm = s.wm := by
  unfold arriveNext; split <;> simp

@[simp] theorem presentAccess_wm (a : HostAccess) : (presentAccess a s).wm = s.wm := by
  unfold presentAccess; (repeat' split) <;> simp

@[simp] theorem arbitrate_wm : (arbitrate s).wm = s.wm := by
  unfold arbitrate; dsimp only; (repeat' split) <;> rfl

@[simp] theorem plainSlotWord_wm (c : Chan) (i off : Nat) (w : RecordWord) : (plainSlotWord c i off w s).wm = s.wm := by
  unfold plainSlotWord; split <;> rfl

@[simp] theorem SlotPass.word_wm (c : Chan) (i off : Nat) (w : RecordWord) (p : SlotPass) :
    (p.word c i off w).state.wm = p.state.wm := by
  unfold SlotPass.word SlotPass.violate handover duplicate violation; (repeat' split) <;> simp

@[simp] theorem slotRecordWord_wm (p : SlotPass) (w : RecordWord) : (slotRecordWord p w).state.wm = p.state.wm := by
  unfold slotRecordWord; split <;> simp

theorem slotWords_wm (ws : List RecordWord) (p : SlotPass) : (ws.foldl slotRecordWord p).state.wm = p.state.wm := by
  induction ws generalizing p with
  | nil => rfl
  | cons w ws ih => rw [List.foldl_cons, ih, slotRecordWord_wm]

@[simp] theorem applySlots_wm (ws : List RecordWord) : (applySlots ws s).wm = s.wm := slotWords_wm ws _

@[simp] theorem startLoad_wm (c : Command) : (startLoad c s).wm = s.wm := by
  unfold startLoad; split <;> simp

@[simp] theorem endDetail_wm (e : AccessEnd) (r : DevReq) : (endDetail e r s).wm = s.wm := by
  unfold endDetail; dsimp only; split <;> simp

end
end Sys2Proof.Machine

namespace Sys2Proof.Machine

/-! ## The five latches (R20, R21, R22) -/

/-- The latches of the Window Matcher. -/
structure Latches where
  arg1 : Word
  arg2 : Word
  arg3 : Word
  consumer : Word
  intEnable : Word

def Matcher.latches (m : Matcher) : Latches := ⟨m.arg1, m.arg2, m.arg3, m.consumer, m.intEnable⟩

@[simp] theorem latches_update (m : Matcher) (a : BitVec 4) (cs : Vector Channel 16) :
    Matcher.latches ⟨a, m.arg1, m.arg2, m.arg3, m.consumer, m.intEnable, cs⟩ = m.latches := rfl

theorem latches_foldl {α : Type} {f : State → α → State} (h : ∀ s a, (f s a).wm.latches = s.wm.latches) (l : List α)
    (s : State) : (l.foldl f s).wm.latches = s.wm.latches := by
  induction l generalizing s with
  | nil => rfl
  | cons a l ih => rw [List.foldl_cons, ih, h]

/-! ### Loading and stopping a channel leaves them -/

section
variable (s : State)

@[simp] theorem finishOutDrain_latches (c : Chan) : (finishOutDrain c s).wm.latches = s.wm.latches := by
  unfold finishOutDrain; split <;> simp

@[simp] theorem stopOutbound_latches (c : Chan) (cfg : ChanCfg) : (stopOutbound c cfg s).wm.latches = s.wm.latches := by
  simp [stopOutbound, wm_foldl (fun s i => stopSlot_wm s c i), wm_foldl (fun s i => emptyFilling_wm s c i)]

@[simp] theorem finishInDrain_latches (c : Chan) : (finishInDrain c s).wm.latches = s.wm.latches := by
  unfold finishInDrain; dsimp only; split <;> simp

@[simp] theorem startStop_latches (cmd : Command) : (startStop cmd s).wm.latches = s.wm.latches := by
  unfold startStop stopInbound; (repeat' split) <;> simp

@[simp] theorem endWbWord0_latches (e : AccessEnd) (r : DevReq) : (endWbWord0 e r s).wm.latches = s.wm.latches := by
  unfold endWbWord0 returnOut postDone countReturned; (repeat' split) <;> simp

@[simp] theorem endLandWord0_latches (e : AccessEnd) (r : DevReq) :
    (endLandWord0 e r s).wm.latches = s.wm.latches := by
  unfold endLandWord0; split <;> simp

@[simp] theorem landingNotice_latches : (landingNotice s).wm.latches = s.wm.latches := by
  unfold landingNotice landingReset
  split
  · rfl
  · rw [acknowledge_wm, latches_foldl (fun s c => finishInDrain_latches s c), wm_foldl discardEntry_wm]

@[simp] theorem activate_latches (n : Chan) (cfg : ChanCfg) : (activate n cfg s).wm.latches = s.wm.latches := by
  unfold activate activateOut activateIn; split <;> simp

@[simp] theorem endLoad_latches (n : Chan) (e : AccessEnd) (r : DevReq) :
    (endLoad n e r s).wm.latches = s.wm.latches := by
  unfold endLoad judgeRecord; (repeat' split) <;> simp

end

/-! ### The start of a command -/

/-- The latches with the consumer latch cleared (R173). -/
def Latches.cleared (l : Latches) : Latches := { l with consumer := 0#32 }

theorem startEvents_latches (c : Command) (s : State) :
    (startEvents c s).wm.latches = s.wm.latches ∨ (startEvents c s).wm.latches = s.wm.latches.cleared := by
  by_cases hr : s.ev.run = .stopped
  · cases hn : eventsStartCheck s.wm c.arg1 c.arg2 with
    | some n => rw [startEvents_refused c s n hr hn]; exact .inl rfl
    | none => rw [startEvents_passes c s hr hn]; exact .inr rfl
  · rw [startEvents_active c s hr]; exact .inl rfl

/-- Only EVENTS_START changes a latch at its start. -/
theorem startCommand_latches (c : Command) (s : State) (h : c.code.toNat ≠ 6) :
    (startCommand c s).wm.latches = s.wm.latches := by
  unfold startCommand
  split
  case h_6 h6 => exact absurd h6 h
  all_goals simp

theorem startCommand_latches_cases (c : Command) (s : State) :
    (startCommand c s).wm.latches = s.wm.latches
      ∨ c.code = 6#8 ∧ (startCommand c s).wm.latches = s.wm.latches.cleared := by
  by_cases h : c.code.toNat = 6
  · rw [startCommand_events s h]
    exact (startEvents_latches c s).imp_right fun hl => ⟨BitVec.eq_of_toNat_eq h, hl⟩
  · exact .inl (startCommand_latches c s h)

/-- A command that arrives leaves the latches, but for the start of EVENTS_START. -/
theorem commandArrival_latches (c : Command) (s : State) :
    (commandArrival c s).wm.latches = s.wm.latches
      ∨ c.code = 6#8 ∧ (commandArrival c s).wm.latches = s.wm.latches.cleared := by
  unfold commandArrival execute
  split
  · exact startCommand_latches_cases c _
  · exact .inl rfl
  · exact .inl rfl

/-! ### The commands that take no record (R28) -/

/-- Every end of a device access leaves the latches, but that of the response word write. -/
theorem ownerGoesOn_latches (e : AccessEnd) (r : DevReq) (s : State) (h : r.purpose ≠ .respWord) :
    (ownerGoesOn e r s).wm.latches = s.wm.latches := by
  unfold ownerGoesOn
  split
  case h_9 hr => exact absurd hr h
  all_goals simp

/-- That one may start a waiting EVENTS_START. -/
theorem endResponse_latches (e : AccessEnd) (r : DevReq) (s : State) :
    (endResponse e r s).wm.latches = s.wm.latches
      ∨ (∃ c, s.cmd.waiting = some c ∧ c.code = 6#8) ∧ (endResponse e r s).wm.latches = s.wm.latches.cleared := by
  cases hw : s.cmd.waiting with
  | none => rw [endResponse_idle e r s hw]; simp
  | some c =>
    rw [endResponse_next e r s c hw]
    rcases startCommand_latches_cases c
      { postFaultIf e 0 .record r.addr s with cmd := ⟨some ⟨c, .running⟩, none⟩ } with hl | ⟨hc, hl⟩
    · exact .inl (by simpa using hl)
    · exact .inr ⟨⟨c, rfl, hc⟩, by simpa using hl⟩

/-- `c` may clear the consumer latch: it ends the response word write, with EVENTS_START waiting. -/
def clearsConsumer (c : Instr) (s : State) : Prop :=
  (∃ w, s.cmd.waiting = some w ∧ w.code = 6#8)
    ∧ ((∃ e, c = .responseWordWriteEnd e) ∨ ∃ kept answered, c = .memoryResponseTimeout kept answered)

/-- The latches stay, or `c` clears the consumer latch. -/
def LatchesStay (c : Instr) (s t : State) : Prop :=
  t.wm.latches = s.wm.latches ∨ clearsConsumer c s ∧ t.wm.latches = s.wm.latches.cleared

section
variable {c : Instr} {s t : State}

theorem latchesStay_live {f : State → State} (hf : LatchesStay c s (f s)) (h : live f s = .next t) :
    LatchesStay c s t := by
  cases h
  split
  · exact .inl rfl
  · exact hf

theorem latchesStay_unit {f : State → State} (hf : (f s).wm.latches = s.wm.latches) (h : live f s = .next t) :
    LatchesStay c s t := latchesStay_live (.inl hf) h

theorem deviceEnd_latchesStay {mine : Purpose → Bool} {e : AccessEnd}
    (hc : mine .respWord = true →
      (∃ e, c = .responseWordWriteEnd e) ∨ ∃ kept answered, c = .memoryResponseTimeout kept answered) :
    LatchesStay c s (deviceEnd mine e s) := by
  unfold deviceEnd atDeviceEnd
  split
  case h_1 r hp =>
    split
    case isTrue hm =>
      by_cases hr : r.purpose = .respWord
      · have hg : ownerGoesOn e r (endDevice r e s) = endResponse e r (endDevice r e s) := by
          simp only [ownerGoesOn, hr]
        rw [hg]
        exact (endResponse_latches e r (endDevice r e s)).imp_right
          fun ⟨hw, hl⟩ => ⟨⟨hw, hc (hr ▸ hm)⟩, hl⟩
      · exact .inl (ownerGoesOn_latches e r _ hr)
    · exact .inl rfl
  all_goals exact .inl rfl

theorem responseTimeout_latchesStay (kept : List Bool) (answered : List Word) :
    LatchesStay (.memoryResponseTimeout kept answered) s (responseTimeout kept answered s) := by
  unfold responseTimeout
  split
  · split
    · exact .inl (by simp [endTransfer])
    · exact deviceEnd_latchesStay fun _ => .inr ⟨kept, answered, rfl⟩
    · exact .inl rfl
  · exact .inl rfl

/-- Whatever takes no record leaves the latches, but for PIN_RESET and the start of a waiting EVENTS_START. -/
theorem exec_latchesStay (hp : ∀ kept, c ≠ .pinReset kept) (hr : c ∉ recordRows) (h : exec c s = .next t) :
    LatchesStay c s t := by
  cases c with
  | pinReset kept => exact absurd rfl (hp kept)
  | resetNRelease straps =>
    cases h
    split <;> exact .inl (by simp)
  | hostReadArrival addr enables =>
    simp only [exec, execHostReadArrival] at h
    split at h <;> cases h
    exact .inl (by simp)
  | hostWriteArrival addr words =>
    simp only [exec, execHostWriteArrival] at h
    split at h <;> cases h
    exact .inl (by simp)
  | hostAccessEnd e =>
    refine latchesStay_unit ?_ h
    unfold hostEnd endTransfer
    split <;> simp
  | memoryResponseTimeout kept answered => exact latchesStay_live (responseTimeout_latchesStay kept answered) h
  | completedWriteRecord | argumentWordWrite | consumerIndexWrite | interruptControlWrite | echo | loadChannel
  | stopChannel | linkEnable | linkDisable | eventsStart | eventsStop | snapshot | badCommand =>
    exact absurd (by simp [recordRows]) hr
  | responseWordWriteEnd e => exact latchesStay_live (deviceEnd_latchesStay fun _ => .inl ⟨e, rfl⟩) h
  | responseDetailWriteEnd e | channelRecordReadEnd e | linkRecordReadEnd e
  | stagingReadEnd e | refetchReadEnd e | writebackHeaderBurstEnd e | writebackWord0End e | linkStatusWriteEnd e
  | landingPayloadWriteEnd e | landingHeaderWriteEnd e | landingWord0WriteEnd e | eventRecordWriteEnd e
  | eventsLostWriteEnd e | producerWriteEnd e | startProducerWriteEnd e | snapshotBurstEnd e =>
    exact latchesStay_live (deviceEnd_latchesStay fun hm => absurd hm (by decide)) h
  | ackReceived how | nakReceived how | dataReceived how | creditReceived how =>
    cases how <;> exact latchesStay_unit (by simp) h
  | _ => exact latchesStay_unit (by simp) h

end

/-! ### The words of a record (R20, R22) -/

/-- Byte lane `j` of an answered word: memory's where enabled, otherwise the undriven word's (R1, R4). -/
theorem lane_answerWord_eq (be : BitVec 4) (w u : Word) (j : Nat) (hj : j < 4) :
    lane (answerWord be w u) j = readLane be w u j := by
  obtain ⟨h0, h1, h2, h3⟩ :=
    lane_wordOfLanes (readLane be w u 0) (readLane be w u 1) (readLane be w u 2) (readLane be w u 3)
  match j, hj with
  | 0, _ => exact h0
  | 1, _ => exact h1
  | 2, _ => exact h2
  | 3, _ => exact h3

/-- The word of each latch (section 2.2). -/
def ControlWord.offset : ControlWord → Nat
  | .command => 0x0
  | .arg1 => 0x4
  | .arg2 => 0x8
  | .arg3 => 0xC
  | .consumer => 0x20
  | .intEnable => 0x24

theorem control?_eq_some {m : Matcher} {a : Nat} {k : ControlWord} :
    m.control? a = some k ↔ a = m.base + k.offset := by
  unfold Matcher.control?
  constructor
  · intro h
    (repeat' split at h) <;> cases h <;> simpa [ControlWord.offset]
  · rintro rfl
    cases k <;> simp [ControlWord.offset]

/-- The CONTROL words come before any channel's area in the class of a word (R45). -/
theorem classify_eq_control {m : Matcher} {a : Nat} {k : ControlWord} :
    m.classify a = .control k ↔ a = m.base + k.offset := by
  rw [← control?_eq_some]
  unfold Matcher.classify
  (repeat' split) <;> simp [*]

/-- What a latch whose word is at `a`, and which holds `v`, holds after the word `w` of a record. -/
def latched (a : Nat) (v : Word) (w : RecordWord) : Word :=
  if w.addr = a then mergeWord v w.be w.data else v

/-- The latches after a word of a record, for a control block at `base`. -/
def Latches.take (base : Nat) (l : Latches) (w : RecordWord) : Latches where
  arg1 := latched (base + ControlWord.arg1.offset) l.arg1 w
  arg2 := latched (base + ControlWord.arg2.offset) l.arg2 w
  arg3 := latched (base + ControlWord.arg3.offset) l.arg3 w
  consumer := latched (base + ControlWord.consumer.offset) l.consumer w
  intEnable := latched (base + ControlWord.intEnable.offset) l.intEnable w

theorem latch_latches (k : ControlWord) (m : Matcher) (w : RecordWord) (h : w.addr = m.base + k.offset) :
    (m.latch k w.be w.data).latches = m.latches.take m.base w := by
  cases k <;> simp [Latches.take, latched, h, ControlWord.offset, Matcher.latch, Matcher.latches]

theorem take_other (base : Nat) (l : Latches) (w : RecordWord) (h : ∀ k : ControlWord, w.addr ≠ base + k.offset) :
    l.take base w = l := by
  simp only [Latches.take, latched, h, if_false]

@[simp] theorem afterLatch_wm (k : ControlWord) (be : BitVec 4) (s : State) : (afterLatch k be s).wm = s.wm := by
  unfold afterLatch; (repeat' split) <;> simp

/-- A CONTROL word reaches its latch, and what follows its update takes place. -/
theorem latchRecordWord_control {s : State} {w : RecordWord} {k : ControlWord} (h : w.addr = s.wm.base + k.offset) :
    latchRecordWord s w = afterLatch k w.be { s with wm := s.wm.latch k w.be w.data } := by
  simp only [latchRecordWord, classify_eq_control.mpr h]

/-- No other word has an effect in this step. -/
theorem latchRecordWord_other {s : State} {w : RecordWord} (h : ∀ k : ControlWord, w.addr ≠ s.wm.base + k.offset) :
    latchRecordWord s w = s := by
  unfold latchRecordWord
  split
  · next k hk => exact absurd (classify_eq_control.mp hk) (h k)
  all_goals rfl

theorem latchRecordWord_latches (s : State) (w : RecordWord) :
    (latchRecordWord s w).wm.latches = s.wm.latches.take s.wm.base w := by
  by_cases h : ∃ k : ControlWord, w.addr = s.wm.base + k.offset
  · obtain ⟨k, hk⟩ := h
    rw [latchRecordWord_control hk, afterLatch_wm]
    exact latch_latches k s.wm w hk
  · have hn : ∀ k : ControlWord, w.addr ≠ s.wm.base + k.offset := fun k hk => h ⟨k, hk⟩
    rw [latchRecordWord_other hn, take_other _ _ w hn]

theorem latchRecordWord_base (s : State) (w : RecordWord) : (latchRecordWord s w).wm.base = s.wm.base := by
  have ha : (latchRecordWord s w).wm.anchor = s.wm.anchor := congrArg Watched.anchor (latchRecordWord_watched s w)
  rw [Matcher.base, ha, Matcher.base]

/-- The latches take the words of a record in burst order. -/
theorem applyLatches_latches (ws : List RecordWord) (s : State) :
    (applyLatches ws s).wm.latches = ws.foldl (Latches.take s.wm.base) s.wm.latches := by
  induction ws generalizing s with
  | nil => rfl
  | cons w ws ih =>
    have hi := ih (latchRecordWord s w)
    rw [latchRecordWord_base, latchRecordWord_latches] at hi
    exact hi

theorem wordsTaken_latches (s : State) (r : WriteRecord) :
    (s.wordsTaken r).wm.latches = r.words.foldl (Latches.take s.wm.base) s.wm.latches := by
  simp only [State.wordsTaken, applySlots_wm, applyLatches_latches]

/-- A latch of which every word of a record leaves what `latched` says takes the writes to its word, in their order. -/
theorem foldl_take (get : Latches → Word) (base a : Nat)
    (h : ∀ l w, get (l.take base w) = latched a (get l) w) (ws : List RecordWord) (l : Latches) :
    get (ws.foldl (Latches.take base) l) =
      (ws.filter (fun w => decide (w.addr = a))).foldl (fun v w => mergeWord v w.be w.data) (get l) := by
  rw [List.foldl_filter]
  simp only [decide_eq_true_eq]
  exact (List.foldl_hom get fun l w => (h l w).symm).symm

theorem applyCommand_latches (r : WriteRecord) (s : State) :
    (applyCommand r s).wm.latches = s.wm.latches
      ∨ (∃ w, r.command? s.wm = some w ∧ commandCode w = 6)
        ∧ (applyCommand r s).wm.latches = s.wm.latches.cleared := by
  unfold applyCommand
  split
  · next w hw =>
    refine (commandArrival_latches _ s).imp_right fun ⟨hc, hl⟩ => ⟨⟨w, hw, ?_⟩, hl⟩
    simpa [commandOf, commandCode, bits] using congrArg BitVec.toNat hc
  · exact .inl rfl

end Sys2Proof.Machine

namespace Sys2Proof.Machine

/-! ### A change of the consumer latch (R168, R171, R175) -/

theorem ringBusy_iff (p : MemPort) :
    p.ringBusy = true ↔ ∃ q k, p.granted = some (.device q) ∧ q.purpose = .ring k := by
  unfold MemPort.ringBusy
  split
  · next q hq =>
    rw [hq]
    split
    · next k hk => simp [hk]
    · next hn => simpa using hn
  all_goals next hq => simp [hq]

/-- Without a ring there is no room (R168). -/
theorem room_eq_false_iff (ev : EventUnit) (consumer : Word) :
    ev.room consumer = false ↔ ∀ r, ev.ringCfg = some r → (ev.producer + 1) % r.size = consumer.toNat := by
  unfold EventUnit.room
  cases ev.ringCfg <;> simp

/-- A record write that waits ungranted finds no room any more. -/
theorem recordLostRoom_iff (s : State) : recordLostRoom s = true ↔
    (∃ w, s.ev.ring = some w ∧ (w.kind = .event ∨ ∃ n, w.kind = .lost n))
      ∧ (¬ ∃ q k, s.port.granted = some (.device q) ∧ q.purpose = .ring k)
      ∧ ∀ r, s.ev.ringCfg = some r → (s.ev.producer + 1) % r.size = s.wm.consumer.toNat := by
  rw [← ringBusy_iff, ← room_eq_false_iff]
  unfold recordLostRoom
  cases hw : s.ev.ring with
  | none => simp
  | some w => cases hk : w.kind <;> simp [hk]

/-- The request that is left when a waiting record write is withdrawn. -/
def withoutRing (slot : Option DevReq) : Option DevReq :=
  slot.bind fun q => match q.purpose with
    | .ring _ => none
    | _ => some q

theorem withdrawRecord_eq (s : State) : withdrawRecord s =
    { s with ev := { s.ev with ring := none }, reqs := { s.reqs with event := withoutRing s.reqs.event } } := by
  unfold withdrawRecord withoutRing
  cases s.reqs.event <;> rfl

theorem clearHold_eq (s : State) :
    clearHold s = { s with ev := { s.ev with lostHold := s.ev.lostHold && decide (s.ev.run ≠ .running) } } := by
  unfold clearHold
  by_cases h : s.ev.run = .running <;> simp [h]

theorem consumerChanged_withdraws (s : State) (h : recordLostRoom s = true) : consumerChanged s =
    finishDrain (runRing (driveInt (withdrawRecord (clearHold s)))) := by
  have hc : recordLostRoom (clearHold s) = true := h
  simp only [consumerChanged, hc, if_true]

theorem consumerChanged_keeps (s : State) (h : ¬ recordLostRoom s = true) : consumerChanged s =
    finishDrain (runRing (driveInt (clearHold s))) := by
  have hc : ¬ recordLostRoom (clearHold s) = true := h
  simp only [consumerChanged, if_neg hc]

/-! ### A record of one latch word -/

/-- The words of a record of one CONTROL word: its latch, and what follows the update. -/
theorem wordsTaken_control (s : State) (w : RecordWord) (a : Nat) (k : ControlWord)
    (hk : w.addr = s.wm.base + k.offset) : s.wordsTaken ⟨a, [w], true⟩ =
      afterLatch k w.be { s with host := .idle, wm := s.wm.latch k w.be w.data } := by
  have hbase : (applyLatches [w] { s with host := .idle }).wm.base = s.wm.base :=
    latchRecordWord_base { s with host := .idle } w
  have hclass : (applyLatches [w] { s with host := .idle }).wm.classify w.addr = .control k := by
    rw [classify_eq_control, hbase]; exact hk
  have hslots : s.wordsTaken ⟨a, [w], true⟩ = applyLatches [w] { s with host := .idle } := by
    simp only [State.wordsTaken, applySlots, List.foldl_cons, List.foldl_nil, slotRecordWord, hclass]
  rw [hslots]
  exact latchRecordWord_control (s := { s with host := .idle }) hk

/-- A record of one CONTROL word, other than the command word, has the effect of its latch alone. -/
theorem exec_latchWord (mine : Matcher → WriteRecord → Bool) (s : State) (w : RecordWord) (a : Nat) (k : ControlWord)
    (h : s.offers ⟨a, [w], true⟩) (hm : mine s.wm ⟨a, [w], true⟩ = true) (hk : w.addr = s.wm.base + k.offset)
    (hc : k ≠ .command) : live (takeRecord mine) s =
      .next (arriveNext (afterLatch k w.be { s with host := .idle, wm := s.wm.latch k w.be w.data })) := by
  have hoff : w.addr ≠ s.wm.base := by
    rw [hk]
    cases k <;> simp [ControlWord.offset] at hc ⊢
  have hcmd : (⟨a, [w], true⟩ : WriteRecord).command? (s.wordsTaken ⟨a, [w], true⟩).wm = none := by
    rw [command?_wordsTaken]
    refine command?_none _ _ fun v hv hva => ?_
    obtain rfl := List.mem_singleton.mp hv
    exact hoff hva.1
  rw [takeRecord_offers mine s _ h hm]
  simp only [applyCommand, hcmd]
  rw [wordsTaken_control s w a k hk]

/-- The row of a CONTROL word takes a record of one such word with a byte enabled. -/
theorem writes_one (p : ControlWord → Bool) (m : Matcher) (w : RecordWord) (a : Nat) (k : ControlWord)
    (hk : w.addr = m.base + k.offset) (hp : p k = true) (hb : w.be ≠ 0#4) :
    WriteRecord.writes p m ⟨a, [w], true⟩ = true := by
  simp [WriteRecord.writes, control?_eq_some.mpr hk, hp, hb]

/-! ### What the latches hold after a command -/

/-- A latch that is not the consumer latch does not see it cleared. -/
theorem get_of_cleared {p : Prop} {l m : Latches} (h : m = l ∨ p ∧ m = l.cleared) (get : Latches → Word)
    (hg : ∀ l : Latches, get l.cleared = get l) : get m = get l := by
  rcases h with rfl | ⟨-, rfl⟩
  · rfl
  · exact hg l

/-- After the taking of a record that ended OK. -/
theorem completedRecord_latches {s t : State} {r : WriteRecord} (ho : s.offers r)
    (h : exec .completedWriteRecord s = .next t) :
    t.wm.latches = r.words.foldl (Latches.take s.wm.base) s.wm.latches
      ∨ (∃ w, r.command? s.wm = some w ∧ commandCode w = 6)
        ∧ t.wm.latches = (r.words.foldl (Latches.take s.wm.base) s.wm.latches).cleared := by
  have ht : t = arriveNext (applyCommand r (s.wordsTaken r)) :=
    (Host.Outcome.next.inj ((takeRecord_offers _ s r ho rfl).symm.trans h)).symm
  have hl := applyCommand_latches r (s.wordsTaken r)
  rwa [wordsTaken_latches, command?_wordsTaken, ← arriveNext_wm (applyCommand r (s.wordsTaken r)), ← ht] at hl

/-- Settles O12. -/
theorem latchWrites : Obligations.LatchWrites := by
  refine ⟨⟨fun old d be j hj => lane_answerWord_eq be d old j hj, fun s t r ho h => ?_⟩, fun c s t hp hr h => ?_,
    fun u => ⟨fun hw hg hf => ?_, fun hn => ?_⟩, fun s w a hb ho => ⟨fun hk => ?_, fun hk => ?_, fun hk => ?_,
      fun hk => ?_, fun hk => ?_⟩⟩
  · have hl := completedRecord_latches ho h
    have holds (get : Latches → Word) (a : Nat) (hc : ∀ l : Latches, get l.cleared = get l)
        (hg : ∀ l w, get (l.take s.wm.base w) = latched a (get l) w) :=
      (get_of_cleared hl get hc).trans (foldl_take get _ a hg r.words s.wm.latches)
    have consumer := foldl_take Latches.consumer s.wm.base _ (fun _ _ => rfl) r.words s.wm.latches
    refine ⟨holds Latches.arg1 _ (fun _ => rfl) (fun _ _ => rfl), holds Latches.arg2 _ (fun _ => rfl) (fun _ _ => rfl),
      holds Latches.arg3 _ (fun _ => rfl) (fun _ _ => rfl), holds Latches.intEnable _ (fun _ => rfl) (fun _ _ => rfl),
      ?_, fun hn => ?_⟩
    · exact hl.imp (fun hl => (congrArg Latches.consumer hl).trans consumer) fun hl => congrArg Latches.consumer hl.2
    · obtain hl | ⟨⟨w, hw, h6⟩, -⟩ := hl
      · exact (congrArg Latches.consumer hl).trans consumer
      · exact absurd h6 (hn w hw)
  · have hl := exec_latchesStay hp hr h
    exact ⟨get_of_cleared hl Latches.arg1 fun _ => rfl, get_of_cleared hl Latches.arg2 fun _ => rfl,
      get_of_cleared hl Latches.arg3 fun _ => rfl, get_of_cleared hl Latches.intEnable fun _ => rfl,
      hl.imp (congrArg Latches.consumer) fun ⟨⟨hw, hc⟩, hl⟩ => ⟨congrArg Latches.consumer hl, hw, hc⟩⟩
  · rw [consumerChanged_withdraws u ((recordLostRoom_iff u).mpr ⟨hw, hg, hf⟩), withdrawRecord_eq, clearHold_eq]
    rfl
  · have hl : ¬ recordLostRoom u = true := by
      rw [recordLostRoom_iff]
      rintro ⟨hw, hg, hf⟩
      exact hn.elim (fun hn => hn hw) (fun hn => hn.elim hg fun hn => hn hf)
    rw [consumerChanged_keeps u hl, clearHold_eq]
    rfl
  · exact exec_latchWord _ s w a .arg1 ho (writes_one _ _ w a .arg1 hk rfl hb) hk nofun
  · exact exec_latchWord _ s w a .arg2 ho (writes_one _ _ w a .arg2 hk rfl hb) hk nofun
  · exact exec_latchWord _ s w a .arg3 ho (writes_one _ _ w a .arg3 hk rfl hb) hk nofun
  · exact exec_latchWord _ s w a .intEnable ho (writes_one _ _ w a .intEnable hk rfl hb) hk nofun
  · refine (exec_latchWord _ s w a .consumer ho (writes_one _ _ w a .consumer hk rfl hb) hk nofun).trans ?_
    simp only [afterLatch, if_neg hb, Matcher.latch]

end Sys2Proof.Machine

namespace Sys2Proof.Machine

/-! ## Slots and buffers of the Capture Unit (R54, R58) -/

section
variable (u : CaptureUnit) (b : Buf) (c d : Chan) (i j : Nat)

theorem onRing_rings (f : OutRing → OutRing) :
    (u.onRing c f).rings[d] = if d = c then f u.rings[d] else u.rings[d] := by
  by_cases h : d = c
  · subst h; simp [CaptureUnit.onRing]
  · have hv : (c : Nat) ≠ d := fun hv => h (Fin.ext hv.symm)
    simp [CaptureUnit.onRing, h, hv]

theorem onSlot_slot? (f : OutSlot → OutSlot) :
    (u.onSlot c i f).slot? d j = if d = c ∧ j = i then (u.slot? d j).map f else u.slot? d j := by
  simp only [CaptureUnit.slot?, CaptureUnit.onSlot, onRing_rings]
  by_cases hd : d = c
  · by_cases hj : j = i
    · simp [hd, hj, OutRing.onSlot]
    · simp [hd, hj, OutRing.onSlot, Ne.symm hj]
  · simp [hd]

@[simp] theorem onBuf_slot? (f : Buffer → Buffer) : (u.onBuf b f).slot? d j = u.slot? d j := rfl
@[simp] theorem onBuf_jobs (f : Buffer → Buffer) : (u.onBuf b f).jobs = u.jobs := rfl
@[simp] theorem onBuf_wbQueue (f : Buffer → Buffer) : (u.onBuf b f).wbQueue = u.wbQueue := rfl
@[simp] theorem onSlot_bufs (f : OutSlot → OutSlot) : (u.onSlot c i f).bufs = u.bufs := rfl
@[simp] theorem onSlot_jobs (f : OutSlot → OutSlot) : (u.onSlot c i f).jobs = u.jobs := rfl
@[simp] theorem onSlot_wbQueue (f : OutSlot → OutSlot) : (u.onSlot c i f).wbQueue = u.wbQueue := rfl

@[simp] theorem onBuf_bufs_same (f : Buffer → Buffer) : (u.onBuf b f).bufs[b] = f u.bufs[b] := by
  simp [CaptureUnit.onBuf]

theorem onBuf_bufs_other (f : Buffer → Buffer) {b' : Buf} (h : b' ≠ b) : (u.onBuf b f).bufs[b'] = u.bufs[b'] := by
  have hv : (b : Nat) ≠ b' := fun hv => h (Fin.ext hv.symm)
  simp [CaptureUnit.onBuf, hv]

@[simp] theorem unbindSlot_bufs : (u.unbindSlot b).bufs = u.bufs := by
  unfold CaptureUnit.unbindSlot; split <;> rfl

@[simp] theorem unbindSlot_jobs : (u.unbindSlot b).jobs = u.jobs := by
  unfold CaptureUnit.unbindSlot; split <;> rfl

@[simp] theorem unbindSlot_wbQueue : (u.unbindSlot b).wbQueue = u.wbQueue := by
  unfold CaptureUnit.unbindSlot; split <;> rfl

/-- At most one slot loses the buffer. -/
theorem unbindSlot_slot? : (u.unbindSlot b).slot? d j = u.slot? d j
    ∨ (u.unbindSlot b).slot? d j = (u.slot? d j).map (OutSlot.unbind b) := by
  unfold CaptureUnit.unbindSlot
  split
  · rw [onSlot_slot?]
    split
    · exact .inr rfl
    · exact .inl rfl
  · exact .inl rfl

end

/-! ### A slot that may have lost its buffer -/

/-- A slot record without its buffer. -/
def OutSlot.core (x : OutSlot) : OutSlot := { x with buf := none }

@[simp] theorem OutSlot.core_state (x : OutSlot) : x.core.state = x.state := rfl

theorem OutSlot.core_of_none {x : OutSlot} (h : x.buf = none) : x.core = x := by
  cases x; cases h; rfl

theorem OutSlot.unbind_self (b : Buf) (x : OutSlot) (h : x.buf = some b) : x.unbind b = x.core := by
  simp [OutSlot.unbind, h, OutSlot.core]

theorem OutSlot.unbind_other (b : Buf) (x : OutSlot) (h : x.buf ≠ some b) : x.unbind b = x := by
  simp [OutSlot.unbind, h]

/-- The record `y` is what `x` was, or that without its buffer; no slot came or went. -/
def Fades (x y : Option OutSlot) : Prop := y = x ∨ y = x.map OutSlot.core

theorem Fades.refl (x : Option OutSlot) : Fades x x := .inl rfl

theorem Fades.trans {x y z : Option OutSlot} (h : Fades x y) (k : Fades y z) : Fades x z := by
  obtain rfl | rfl := k
  · exact h
  · obtain rfl | rfl := h
    · exact .inr rfl
    · exact .inr (by cases x <;> rfl)

theorem Fades.some_cases {x : OutSlot} {y : Option OutSlot} (h : Fades (some x) y) : y = some x ∨ y = some x.core := h

theorem Fades.state {x y : Option OutSlot} (h : Fades x y) : y.map (·.state) = x.map (·.state) := by
  obtain rfl | rfl := h
  · rfl
  · cases x <;> rfl

theorem Fades.any_state {x y : Option OutSlot} (h : Fades x y) (p : OutState → Bool) :
    y.any (fun z => p z.state) = x.any (fun z => p z.state) := by
  obtain rfl | rfl := h
  · rfl
  · cases x <;> rfl

/-- A slot that still has a buffer has lost nothing. -/
theorem Fades.bound {x : Option OutSlot} {y : OutSlot} {b : Buf} (h : Fades x (some y)) (hb : y.buf = some b) :
    x = some y := by
  obtain rfl | hy := h
  · rfl
  · obtain ⟨z, -, rfl⟩ := Option.map_eq_some_iff.mp hy.symm
    cases hb

/-! ### A slot's buffer is given up (R66, R72, R75) -/

/-- What giving up a buffer can do: nothing to a FREE one; a buffer being sent is unbound; the job that a granted read
belongs to is marked; any other buffer is freed, and its job leaves the list. -/
theorem releaseBuf_cap (b : Buf) (s : State) :
    (s.cap.bufs[b].state = .free ∧ (releaseBuf b s).cap = s.cap)
    ∨ (s.cap.bufs[b].state = .sending
      ∧ (releaseBuf b s).cap = (s.cap.unbindSlot b).onBuf b (fun x => { x with binding := none }))
    ∨ ((s.cap.bufs[b].state = .loading ∧ s.port.readingInto b = true)
      ∧ (releaseBuf b s).cap = { s.cap with
        jobs := s.cap.jobs.map (fun j => if j.buf = b then { j with drop := some .free } else j) })
    ∨ (¬ (s.cap.bufs[b].state = .loading ∧ s.port.readingInto b = true)
      ∧ ∃ jobs, (∀ j ∈ jobs, j ∈ s.cap.jobs) ∧ (releaseBuf b s).cap = ({ s.cap with jobs := jobs }).freeBuf b) := by
  unfold releaseBuf
  split
  case h_1 hs => exact .inr (.inl ⟨hs, rfl⟩)
  case h_2 hs =>
    unfold dropJob
    split
    case isTrue hr => exact .inr (.inr (.inl ⟨⟨hs, hr⟩, rfl⟩))
    case isFalse hr =>
      exact .inr (.inr (.inr ⟨fun h => hr h.2, _, fun j hj => (List.mem_filter.mp hj).1, rfl⟩))
  case h_3 hs => exact .inl ⟨hs, rfl⟩
  all_goals next hs => exact .inr (.inr (.inr ⟨fun h => (by cases hs.symm.trans h.1), s.cap.jobs,
    fun j hj => hj, rfl⟩))

section
variable (b : Buf) (s : State)

theorem releaseBuf_slot? (d : Chan) (j : Nat) : (releaseBuf b s).cap.slot? d j = s.cap.slot? d j
    ∨ (releaseBuf b s).cap.slot? d j = (s.cap.slot? d j).map (OutSlot.unbind b) := by
  obtain ⟨-, h⟩ | ⟨-, h⟩ | ⟨-, h⟩ | ⟨-, jobs, -, h⟩ := releaseBuf_cap b s <;> rw [h]
  · exact .inl rfl
  · exact unbindSlot_slot? s.cap b d j
  · exact .inl rfl
  · exact unbindSlot_slot? { s.cap with jobs := jobs } b d j

theorem releaseBuf_wbQueue : (releaseBuf b s).cap.wbQueue = s.cap.wbQueue := by
  obtain ⟨-, h⟩ | ⟨-, h⟩ | ⟨-, h⟩ | ⟨-, jobs, -, h⟩ := releaseBuf_cap b s <;> rw [h]
  · simp
  · simp [CaptureUnit.freeBuf]

theorem releaseBuf_bufs_other {b' : Buf} (hb : b' ≠ b) : (releaseBuf b s).cap.bufs[b'] = s.cap.bufs[b'] := by
  obtain ⟨-, h⟩ | ⟨-, h⟩ | ⟨-, h⟩ | ⟨-, jobs, -, h⟩ := releaseBuf_cap b s <;> rw [h]
  · rw [onBuf_bufs_other _ _ _ hb, unbindSlot_bufs]
  · rw [CaptureUnit.freeBuf, onBuf_bufs_other _ _ _ hb, unbindSlot_bufs]

theorem releaseBuf_jobs_other {j : ReadJob} (hj : j ∈ (releaseBuf b s).cap.jobs) (hb : j.buf ≠ b) :
    j ∈ s.cap.jobs := by
  obtain ⟨-, h⟩ | ⟨-, h⟩ | ⟨-, h⟩ | ⟨-, jobs, hjobs, h⟩ := releaseBuf_cap b s <;> rw [h] at hj
  · exact hj
  · simpa using hj
  · obtain ⟨k, hk, rfl⟩ := List.mem_map.mp hj
    split at hb
    · next hkb => exact absurd hkb hb
    · next hkb => rwa [if_neg hkb]
  · exact hjobs j (by simpa [CaptureUnit.freeBuf] using hj)

/-- A record that is not bound to the buffer stays; one that is loses at most the buffer. -/
theorem releaseBuf_fades (d : Chan) (j : Nat) : Fades (s.cap.slot? d j) ((releaseBuf b s).cap.slot? d j) := by
  cases hx : s.cap.slot? d j with
  | none => exact .inl (by have h := releaseBuf_slot? b s d j; simpa [hx] using h)
  | some x =>
    have h := releaseBuf_slot? b s d j
    rw [hx] at h
    refine h.elim .inl fun h => ?_
    by_cases hb : x.buf = some b
    · exact .inr (h.trans (by simp [OutSlot.unbind_self b x hb]))
    · exact .inl (h.trans (by simp [OutSlot.unbind_other b x hb]))

theorem releaseBuf_slot?_other (d : Chan) (j : Nat) (x : OutSlot) (hx : s.cap.slot? d j = some x)
    (hb : x.buf ≠ some b) : (releaseBuf b s).cap.slot? d j = some x := by
  have h := releaseBuf_slot? b s d j
  rw [hx, Option.map_some, OutSlot.unbind_other b x hb] at h
  exact h.elim id id

end

/-- The buffer `b`, which held `y`, has been given up: FREE, but for a buffer that a granted read fills, whose job is
marked (R58, R66). -/
def GivenUp (b : Buf) (y : Buffer) (s : State) : Prop :=
  (¬ (y.state = .loading ∧ s.port.readingInto b = true) → s.cap.bufs[b] = Buffer.free)
  ∧ (y.state = .loading ∧ s.port.readingInto b = true →
    s.cap.bufs[b] = y ∧ ∀ j ∈ s.cap.jobs, j.buf = b → j.drop = some .free)

@[simp] theorem releaseBuf_port (b : Buf) (s : State) : (releaseBuf b s).port = s.port :=
  congrArg Outer.port (releaseBuf_outer b s)

theorem releaseBuf_givenUp (b : Buf) (s : State) (hs : s.cap.bufs[b].state ≠ .sending)
    (hf : s.cap.bufs[b].state ≠ .free) : GivenUp b s.cap.bufs[b] (releaseBuf b s) := by
  unfold GivenUp
  rw [releaseBuf_port]
  obtain ⟨hn, -⟩ | ⟨hn, -⟩ | ⟨hr, h⟩ | ⟨hr, jobs, -, h⟩ := releaseBuf_cap b s
  · exact absurd hn hf
  · exact absurd hn hs
  · refine ⟨fun hn => absurd hr hn, fun _ => ⟨by rw [h], fun j hj hb => ?_⟩⟩
    rw [h] at hj
    obtain ⟨k, -, rfl⟩ := List.mem_map.mp hj
    split at hb
    · next hkb => rw [if_pos hkb]
    · next hkb => exact absurd hb hkb
  · refine ⟨fun _ => ?_, fun hn => absurd hn hr⟩
    rw [h, CaptureUnit.freeBuf, onBuf_bufs_same]

/-- A second time changes nothing of that. -/
theorem GivenUp.releaseBuf_self {b : Buf} {y : Buffer} {s : State} (h : GivenUp b y s) (hs : y.state ≠ .sending)
    (hf : y.state ≠ .free) : GivenUp b y (releaseBuf b s) := by
  by_cases hr : y.state = .loading ∧ s.port.readingInto b = true
  · obtain ⟨hy, -⟩ := h.2 hr
    rw [← hy] at hs hf ⊢
    exact releaseBuf_givenUp b s hs hf
  · have hb := h.1 hr
    have same : releaseBuf b s = s := by simp only [releaseBuf, hb, Buffer.free]
    rwa [same]

theorem GivenUp.of_other {b : Buf} {y : Buffer} {s t : State} (h : GivenUp b y s) (hp : t.port = s.port)
    (hb : t.cap.bufs[b] = s.cap.bufs[b]) (hj : ∀ j ∈ t.cap.jobs, j.buf = b → j ∈ s.cap.jobs) : GivenUp b y t := by
  unfold GivenUp
  rw [hp, hb]
  exact ⟨h.1, fun hr => ⟨(h.2 hr).1, fun j hjt hjb => (h.2 hr).2 j (hj j hjt hjb) hjb⟩⟩

end Sys2Proof.Machine

namespace Sys2Proof.Machine

/-! ## One pass of STOP_CHANNEL over the slots of a ring (R78)

Both passes, that over the FILLING slots and that over the slots to be completed, visit the slots in one order; a slot
that is hit gives up its buffer and gets a record of its own, and the others stay. -/

/-- What a pass does at slot `i` of channel `c`: a slot in a state that `hit` accepts gives up its buffer, becomes
`f` of its record, and with `queues` joins the write-back queue. -/
def visitsSlot (c : Chan) (hit : OutState → Bool) (f : OutSlot → OutSlot) (queues : Bool) (i : Nat) (s t : State) :
    Prop :=
  t.port = s.port ∧
    ((t.cap = s.cap ∧ (s.cap.slot? c i).any (fun x => hit x.state) = false)
      ∨ ∃ x phase, s.cap.slot? c i = some x ∧ hit x.state = true ∧ t.cap =
          { (releaseSlotBuf c i s).cap.onSlot c i f with
            wbQueue := s.cap.wbQueue ++ if queues then [(c, i)] else [], wbPhase := phase })

/-- A pass over a list of slots. -/
inductive Visits (c : Chan) (hit : OutState → Bool) (f : OutSlot → OutSlot) (queues : Bool) :
    List Nat → State → State → Prop
  | nil (s : State) : Visits c hit f queues [] s s
  | cons {i : Nat} {l : List Nat} {s t v : State} (h : visitsSlot c hit f queues i s t)
    (rest : Visits c hit f queues l t v) : Visits c hit f queues (i :: l) s v

/-- Buffer `b` is bound to slot `i` of channel `c`. -/
def CaptureUnit.binds (u : CaptureUnit) (c : Chan) (i : Nat) (b : Buf) : Prop :=
  ∃ x, u.slot? c i = some x ∧ x.buf = some b

theorem releaseSlotBuf_some {c : Chan} {i : Nat} {s : State} {x : OutSlot} {b : Buf} (hx : s.cap.slot? c i = some x)
    (hb : x.buf = some b) : releaseSlotBuf c i s = releaseBuf b s := by
  simp only [releaseSlotBuf, hx, Option.bind_some, hb]

theorem releaseSlotBuf_none {c : Chan} {i : Nat} {s : State} {x : OutSlot} (hx : s.cap.slot? c i = some x)
    (hb : x.buf = none) : releaseSlotBuf c i s = s := by
  simp only [releaseSlotBuf, hx, Option.bind_some, hb]

theorem releaseSlotBuf_fades {c : Chan} {i : Nat} (s : State) (d : Chan) (j : Nat) :
    Fades (s.cap.slot? d j) ((releaseSlotBuf c i s).cap.slot? d j) := by
  unfold releaseSlotBuf
  split
  · exact releaseBuf_fades _ s d j
  · exact .refl _

section
variable {c : Chan} {hit : OutState → Bool} {f : OutSlot → OutSlot} {queues : Bool} {i : Nat} {s t : State}

/-! ### One slot -/

theorem visitsSlot.fades (h : visitsSlot c hit f queues i s t) {d : Chan} {j : Nat} (hn : ¬ (d = c ∧ j = i)) :
    Fades (s.cap.slot? d j) (t.cap.slot? d j) := by
  obtain ⟨-, ⟨hc, -⟩ | ⟨x, phase, -, -, hc⟩⟩ := h
  · rw [hc]; exact .refl _
  · have hs : t.cap.slot? d j = (releaseSlotBuf c i s).cap.slot? d j := by
      rw [hc]
      exact (onSlot_slot? _ c d i j f).trans (if_neg hn)
    rw [hs]
    exact releaseSlotBuf_fades s d j

theorem visitsSlot.slot_hit (h : visitsSlot c hit f queues i s t) (hf : ∀ x, f x.core = f x) {x : OutSlot}
    (hx : s.cap.slot? c i = some x) (hh : hit x.state = true) : t.cap.slot? c i = some (f x) := by
  obtain ⟨-, ⟨-, hn⟩ | ⟨y, phase, hy, -, hc⟩⟩ := h
  · simp [hx, hh] at hn
  · have hs : t.cap.slot? c i = ((releaseSlotBuf c i s).cap.slot? c i).map f := by
      rw [hc]
      exact (onSlot_slot? _ c c i i f).trans (if_pos ⟨rfl, rfl⟩)
    have hr := releaseSlotBuf_fades (c := c) (i := i) s c i
    rw [hx] at hr
    rcases hr.some_cases with hr | hr <;> rw [hs, hr]
    · rfl
    · exact congrArg some (hf x)

theorem visitsSlot.miss (h : visitsSlot c hit f queues i s t) {x : OutSlot} (hx : s.cap.slot? c i = some x)
    (hh : hit x.state = false) : t.cap = s.cap := by
  obtain ⟨-, ⟨hc, -⟩ | ⟨y, phase, hy, hh', -⟩⟩ := h
  · exact hc
  · obtain rfl := Option.some.inj (hx.symm.trans hy)
    exact absurd hh' (by simp [hh])

theorem visitsSlot.wbQueue (h : visitsSlot c hit f queues i s t) : t.cap.wbQueue = s.cap.wbQueue ++
    if queues && (s.cap.slot? c i).any (fun x => hit x.state) then [(c, i)] else [] := by
  obtain ⟨-, ⟨hc, hn⟩ | ⟨x, phase, hx, hh, hc⟩⟩ := h
  · simp [hc, hn]
  · simp [hc, hx, hh]

/-- A buffer that is bound to no slot to be hit stays. -/
theorem visitsSlot.buf_other (h : visitsSlot c hit f queues i s t) (b : Buf)
    (hb : ∀ x, s.cap.slot? c i = some x → x.buf = some b → hit x.state = false) : t.cap.bufs[b] = s.cap.bufs[b] := by
  obtain ⟨-, ⟨hc, -⟩ | ⟨x, phase, hx, hh, hc⟩⟩ := h
  · rw [hc]
  · rw [hc]
    change (releaseSlotBuf c i s).cap.bufs[b] = _
    cases hxb : x.buf with
    | none => rw [releaseSlotBuf_none hx hxb]
    | some b' =>
      have hne : b ≠ b' := by
        rintro rfl
        exact absurd hh (by simp [hb x hx hxb])
      rw [releaseSlotBuf_some hx hxb, releaseBuf_bufs_other b' s hne]

/-- The buffer `b`, which held `y`, has been given up, or slot `i` of channel `c` is still to give it up. -/
def GivesUp (c : Chan) (i : Nat) (b : Buf) (y : Buffer) (s : State) : Prop :=
  GivenUp b y s ∨ s.cap.bufs[b] = y ∧ s.cap.binds c i b

theorem visitsSlot.givesUp (h : visitsSlot c hit f queues i s t) {k : Nat} {b : Buf} {y : Buffer}
    (hs : y.state ≠ .sending) (hf : y.state ≠ .free) (hg : GivesUp c k b y s) : GivesUp c k b y t := by
  obtain ⟨hp, ⟨hc, -⟩ | ⟨x, phase, hx, -, hc⟩⟩ := h
  · exact hg.imp (fun hg => hg.of_other hp (by rw [hc]) fun j hj _ => hc ▸ hj) fun hg => by rwa [hc]
  have given : GivenUp b y (releaseSlotBuf c i s) → GivenUp b y t := fun hg => by
    have hport : (releaseSlotBuf c i s).port = s.port := congrArg Outer.port (releaseSlotBuf_outer c i s)
    exact hg.of_other (hp.trans hport.symm) (by rw [hc]; rfl) fun j hj _ => by rw [hc] at hj; exact hj
  by_cases hb : x.buf = some b
  · rw [releaseSlotBuf_some hx hb] at given
    refine .inl (given (hg.elim (fun hg => hg.releaseBuf_self hs hf) fun ⟨hy, _⟩ => ?_))
    rw [← hy] at hs hf ⊢
    exact releaseBuf_givenUp b s hs hf
  · have other : (releaseSlotBuf c i s).cap.bufs[b] = s.cap.bufs[b]
        ∧ (∀ j ∈ (releaseSlotBuf c i s).cap.jobs, j.buf = b → j ∈ s.cap.jobs)
        ∧ ∀ z, s.cap.slot? c k = some z → z.buf = some b →
          (releaseSlotBuf c i s).cap.slot? c k = some z := by
      cases hxb : x.buf with
      | none =>
        rw [releaseSlotBuf_none hx hxb]
        exact ⟨rfl, fun _ hj _ => hj, fun _ hz _ => hz⟩
      | some b' =>
        have hne : b ≠ b' := fun he => hb (he ▸ hxb)
        rw [releaseSlotBuf_some hx hxb]
        exact ⟨releaseBuf_bufs_other b' s hne,
          fun j hj hjb => releaseBuf_jobs_other b' s hj (fun he => hne (hjb.symm.trans he)),
          fun z hz hzb => releaseBuf_slot?_other b' s c k z hz fun he => hne (Option.some.inj (hzb.symm.trans he))⟩
    obtain ⟨hbufs, hjobs, hslot⟩ := other
    refine hg.imp (fun hg => given (hg.of_other ?_ hbufs hjobs)) fun ⟨hy, z, hz, hzb⟩ => ⟨?_, z, ?_, hzb⟩
    · exact congrArg Outer.port (releaseSlotBuf_outer c i s)
    · rw [hc]; exact hbufs.trans hy
    · have hik : k ≠ i := fun he => hb ((Option.some.inj (hx.symm.trans (he ▸ hz))) ▸ hzb)
      rw [hc]
      exact ((onSlot_slot? _ c c i k f).trans (if_neg fun h => hik h.2)).trans (hslot z hz hzb)

/-! ### The whole pass -/

variable {l : List Nat}

/-- A slot that is not visited loses at most its buffer. -/
theorem Visits.fades (h : Visits c hit f queues l s t) {d : Chan} {j : Nat} (hn : ¬ (d = c ∧ j ∈ l)) :
    Fades (s.cap.slot? d j) (t.cap.slot? d j) := by
  induction h with
  | nil => exact .refl _
  | cons h _ ih =>
    exact (h.fades fun ⟨hd, hj⟩ => hn ⟨hd, by simp [hj]⟩).trans (ih fun ⟨hd, hj⟩ => hn ⟨hd, by simp [hj]⟩)

/-- A visited slot that is hit gets its new record. -/
theorem Visits.slot_hit (h : Visits c hit f queues l s t) (hf : ∀ x, f x.core = f x) (hb : ∀ x, (f x).buf = none)
    (hl : l.Nodup) {j : Nat} (hj : j ∈ l) {x : OutSlot} (hx : s.cap.slot? c j = some x) (hh : hit x.state = true) :
    t.cap.slot? c j = some (f x) := by
  induction h generalizing x with
  | nil => cases hj
  | @cons i l s u v h rest ih =>
    obtain ⟨hi, hl⟩ := List.nodup_cons.mp hl
    by_cases hij : j = i
    · subst hij
      have hk := rest.fades (d := c) (j := j) fun hm => hi hm.2
      rw [h.slot_hit hf hx hh] at hk
      rcases hk.some_cases with hk | hk
      · exact hk
      · rw [hk, OutSlot.core_of_none (hb x)]
    · have hk := h.fades (d := c) (j := j) fun hm => hij hm.2
      have hj : j ∈ l := (List.mem_cons.mp hj).resolve_left hij
      rw [hx] at hk
      rcases hk.some_cases with hk | hk
      · exact ih hl hj hk hh
      · rw [ih hl hj hk hh, hf x]

/-- A slot that is not hit loses at most its buffer. -/
theorem Visits.slot_miss (h : Visits c hit f queues l s t) {j : Nat} {x : OutSlot}
    (hx : s.cap.slot? c j = some x) (hh : hit x.state = false) : Fades (some x) (t.cap.slot? c j) := by
  induction h generalizing x with
  | nil => exact .inl hx
  | @cons i l s u v h rest ih =>
    have hk : Fades (some x) (u.cap.slot? c j) := by
      by_cases hij : j = i
      · subst hij
        rw [h.miss hx hh, hx]
        exact .refl _
      · rw [← hx]
        exact h.fades fun hm => hij hm.2
    rcases hk.some_cases with he | he <;> rw [he] at hk
    · exact ih he hh
    · exact hk.trans (ih he hh)

/-- The slots that are hit join the write-back queue in the order of the pass. -/
theorem Visits.wbQueue (h : Visits c hit f queues l s t) (hl : l.Nodup) : t.cap.wbQueue = s.cap.wbQueue ++
    (l.filter (fun i => queues && (s.cap.slot? c i).any (fun x => hit x.state))).map (fun i => (c, i)) := by
  induction h with
  | nil => simp
  | @cons i l s u v h rest ih =>
    obtain ⟨hi, hl⟩ := List.nodup_cons.mp hl
    have same : ∀ j ∈ l, (u.cap.slot? c j).any (fun x => hit x.state) = (s.cap.slot? c j).any (fun x => hit x.state) :=
      fun j hj => (h.fades fun hm => hi (hm.2 ▸ hj)).any_state hit
    rw [ih hl, h.wbQueue, List.filter_congr fun j hj => by rw [same j hj], List.filter_cons, List.append_assoc]
    split <;> rfl

/-- A buffer that is bound to no slot to be hit stays. -/
theorem Visits.buf_other (h : Visits c hit f queues l s t) (hf : ∀ x, f x.core = f x) (hn : ∀ x, (f x).buf = none)
    (b : Buf) (hb : ∀ i x, s.cap.slot? c i = some x → x.buf = some b → hit x.state = false) :
    t.cap.bufs[b] = s.cap.bufs[b] := by
  induction h with
  | nil => rfl
  | @cons i l s u v h rest ih =>
    refine (ih fun j y hy hyb => ?_).trans (h.buf_other b (hb i))
    have back : Fades (s.cap.slot? c j) (some y) → hit y.state = false := fun hk => hb j y (hk.bound hyb) hyb
    by_cases hij : j = i
    · subst hij
      cases hx : s.cap.slot? c j with
      | none => exact back (by
          obtain ⟨-, ⟨hc, -⟩ | ⟨x, phase, hx', -⟩⟩ := h
          · exact .inl (hc ▸ hy.symm)
          · cases hx.symm.trans hx')
      | some x =>
        cases hh : hit x.state with
        | true =>
          obtain rfl := Option.some.inj (hy.symm.trans (h.slot_hit hf hx hh))
          cases (hn x).symm.trans hyb
        | false => exact back (.inl (h.miss hx hh ▸ hy.symm))
    · exact back (hy ▸ h.fades fun hm => hij hm.2)

theorem Visits.givesUp (h : Visits c hit f queues l s t) {k : Nat} {b : Buf} {y : Buffer} (hs : y.state ≠ .sending)
    (hf : y.state ≠ .free) (hg : GivesUp c k b y s) : GivesUp c k b y t := by
  induction h with
  | nil => exact hg
  | cons h _ ih => exact ih (h.givesUp hs hf hg)

theorem Visits.port (h : Visits c hit f queues l s t) : t.port = s.port := by
  induction h with
  | nil => rfl
  | cons h _ ih => exact ih.trans h.1

end
end Sys2Proof.Machine

namespace Sys2Proof.Machine

/-! ## STOP_CHANNEL on an OUTBOUND channel (R78, R80) -/

/-! ### The order of the passes -/

theorem order_nodup (r : OutRing) : r.order.Nodup := by
  refine List.Nodup.map_on (fun a ha b hb h => ?_) List.nodup_range
  exact (Nat.ModEq.add_left_cancel' r.transmitCursor h).eq_of_lt_of_lt (List.mem_range.mp ha) (List.mem_range.mp hb)

/-- Every slot of the ring has its turn, and nothing else has. -/
theorem mem_order_iff (r : OutRing) {i : Nat} : i ∈ r.order ↔ i < r.slots.length := by
  have sub : r.order ⊆ List.range r.slots.length := fun k hk => by
    obtain ⟨a, ha, rfl⟩ := List.mem_map.mp hk
    exact List.mem_range.mpr (Nat.mod_lt _ (Nat.zero_lt_of_lt (List.mem_range.mp ha)))
  have perm : r.order.Perm (List.range r.slots.length) :=
    (List.subperm_of_subset (order_nodup r) sub).perm_of_length_le (by simp [OutRing.order])
  exact perm.mem_iff.trans List.mem_range

theorem mem_order_of_slot {u : CaptureUnit} {c : Chan} {i : Nat} {x : OutSlot} (h : u.slot? c i = some x) :
    i ∈ u.rings[c].order :=
  (mem_order_iff _).mpr (List.getElem?_eq_some_iff.mp h).1

theorem not_mem_order_of_none {u : CaptureUnit} {c : Chan} {i : Nat} (h : u.slot? c i = none) :
    i ∉ u.rings[c].order := fun hi => Nat.not_lt.mpr (List.getElem?_eq_none_iff.mp h) ((mem_order_iff _).mp hi)

/-! ### The two passes -/

/-- The state of a slot after the stop (R78). -/
def OutState.afterStop : OutState → OutState
  | .open => .open
  | .filling => .open
  | .inFlight => .inFlight
  | .held => .completing
  | .committed => .completing
  | .staging => .completing
  | .ready => .completing
  | .completing => .completing

/-- The stop completes a slot in this state (R78). -/
def OutState.stops (o : OutState) : Bool := decide (o.afterStop = .completing) && decide (o ≠ .completing)

/-- The stop empties a slot in this state (R78). -/
def OutState.fills (o : OutState) : Bool := decide (o = .filling)

theorem OutState.stops_iff (o : OutState) :
    o.stops = true ↔ o = .held ∨ o = .committed ∨ o = .staging ∨ o = .ready := by
  cases o <;> decide

/-- A slot in a state that neither pass hits keeps it. -/
theorem OutState.afterStop_of_kept (o : OutState) : o.fills = false → o.stops = false → o.afterStop = o := by
  cases o <;> decide

theorem OutState.not_fills_of_stops (o : OutState) : o.stops = true → o.fills = false := by
  cases o <;> decide

theorem OutState.afterStop_of_fills (o : OutState) : o.fills = true → o.afterStop = .open := by
  cases o <;> decide

theorem OutState.afterStop_of_stops (o : OutState) : o.stops = true → o.afterStop = .completing := by
  cases o <;> decide

/-- A FILLING slot that is emptied. -/
def OutSlot.emptied (x : OutSlot) : OutSlot := { x with state := .open, buf := none }

theorem releaseSlotBuf_wbQueue (c : Chan) (i : Nat) (s : State) :
    (releaseSlotBuf c i s).cap.wbQueue = s.cap.wbQueue := by
  unfold releaseSlotBuf
  split
  · exact releaseBuf_wbQueue _ s
  · rfl

theorem emptyFilling_visits (c : Chan) (i : Nat) (s : State) :
    visitsSlot c OutState.fills OutSlot.emptied false i s (emptyFilling c s i) := by
  refine ⟨congrArg Outer.port (emptyFilling_outer c s i), ?_⟩
  unfold emptyFilling
  cases hx : s.cap.slot? c i with
  | none => exact .inl ⟨rfl, rfl⟩
  | some x =>
    by_cases hf : x.state = .filling
    · refine .inr ⟨x, (releaseSlotBuf c i s).cap.wbPhase, rfl, by simp [OutState.fills, hf], ?_⟩
      simp only [hf, if_true, Bool.false_eq_true, if_false, List.append_nil, ← releaseSlotBuf_wbQueue c i s]
      rfl
    · exact .inl ⟨by simp [hf], by simp [OutState.fills, hf]⟩

/-- The start of a write-back changes no more of the Capture Unit than the phase (R76). -/
theorem startWriteback_cap (s : State) : ∃ phase, (startWriteback s).cap = { s.cap with wbPhase := phase } := by
  unfold startWriteback
  split
  case h_1 =>
    split
    · exact ⟨.header, rfl⟩
    · exact ⟨s.cap.wbPhase, rfl⟩
  all_goals exact ⟨s.cap.wbPhase, rfl⟩

theorem stopSlot_visits (c : Chan) (i : Nat) (now : Word) (s : State) (hn : s.timebase = now) :
    visitsSlot c OutState.stops (OutSlot.complete .stopped now none) true i s (stopSlot c s i) := by
  refine ⟨congrArg Outer.port (stopSlot_outer c s i), ?_⟩
  unfold stopSlot
  cases hx : s.cap.slot? c i with
  | none => exact .inl ⟨rfl, rfl⟩
  | some x =>
    by_cases hs : x.state.stops = true
    · obtain ⟨phase, hp⟩ := startWriteback_cap (enterCompleting c i .stopped none (releaseSlotBuf c i s))
      refine .inr ⟨x, phase, rfl, hs, ?_⟩
      have ht : (releaseSlotBuf c i s).timebase = now :=
        (congrArg Outer.timebase (releaseSlotBuf_outer c i s)).trans hn
      simp only [if_pos ((OutState.stops_iff _).mp hs), completeSlot, hp, if_true, ← releaseSlotBuf_wbQueue c i s]
      simp [ht]
    · exact .inl ⟨by simp only [if_neg fun h => hs ((OutState.stops_iff _).mpr h)], by simpa using hs⟩

/-- A fold of such visits is a pass. -/
theorem visits_foldl {c : Chan} {hit : OutState → Bool} {f : OutSlot → OutSlot} {queues : Bool}
    {step : State → Nat → State} {p : State → Prop} (hp : ∀ s i, p s → p (step s i))
    (h : ∀ s i, p s → visitsSlot c hit f queues i s (step s i)) (l : List Nat) (s : State) (hs : p s) :
    Visits c hit f queues l s (l.foldl step s) := by
  induction l generalizing s with
  | nil => exact .nil s
  | cons i l ih => exact .cons (h s i hs) (ih _ (hp s i hs))

/-- The channel is STOPPING, and its FILLING slots have been emptied. -/
def stopEmpties (c : Chan) (cfg : ChanCfg) (s : State) : State :=
  s.cap.rings[c].order.foldl (emptyFilling c) (setChan c (.stopping cfg) s)

/-- And its HELD, COMMITTED, STAGING and READY slots have been completed. -/
def stopCompletes (c : Chan) (cfg : ChanCfg) (s : State) : State :=
  s.cap.rings[c].order.foldl (stopSlot c) (stopEmpties c cfg s)

theorem stopOutbound_eq (c : Chan) (cfg : ChanCfg) (s : State) :
    stopOutbound c cfg s = finishOutDrain c (stopCompletes c cfg s) := rfl

section
variable (c : Chan) (cfg : ChanCfg) (s : State)

theorem stopEmpties_visits : Visits c OutState.fills OutSlot.emptied false s.cap.rings[c].order
    (setChan c (.stopping cfg) s) (stopEmpties c cfg s) :=
  visits_foldl (p := fun _ => True) (fun _ _ _ => trivial) (fun s i _ => emptyFilling_visits c i s) _ _ trivial

theorem stopEmpties_timebase : (stopEmpties c cfg s).timebase = s.timebase :=
  congrArg Outer.timebase (outer_foldl _ (emptyFilling_outer c) _ (setChan c (.stopping cfg) s))

theorem stopCompletes_visits : Visits c OutState.stops (OutSlot.complete .stopped s.timebase none) true
    s.cap.rings[c].order (stopEmpties c cfg s) (stopCompletes c cfg s) :=
  visits_foldl (p := fun t => t.timebase = s.timebase)
    (fun t i ht => (congrArg Outer.timebase (stopSlot_outer c t i)).trans ht)
    (fun t i ht => stopSlot_visits c i s.timebase t ht) _ _ (stopEmpties_timebase c cfg s)

theorem stopCompletes_wm : (stopCompletes c cfg s).wm = (setChan c (.stopping cfg) s).wm :=
  (wm_foldl (fun s i => stopSlot_wm s c i) _ _).trans (wm_foldl (fun s i => emptyFilling_wm s c i) _ _)

/-! ### The slots after both passes -/

variable {c s} {i : Nat} {x : OutSlot}

/-- A FILLING slot is OPEN without a buffer after the first pass. -/
theorem stopEmpties_filling (hx : s.cap.slot? c i = some x) (h : x.state.fills = true) :
    (stopEmpties c cfg s).cap.slot? c i = some x.emptied :=
  (stopEmpties_visits c cfg s).slot_hit (fun _ => rfl) (fun _ => rfl) (order_nodup _) (mem_order_of_slot hx) hx h

/-- And it stays so in the second pass. -/
theorem stopCompletes_filling (hx : s.cap.slot? c i = some x) (h : x.state.fills = true) :
    (stopCompletes c cfg s).cap.slot? c i = some x.emptied := by
  rcases ((stopCompletes_visits c cfg s).slot_miss (stopEmpties_filling cfg hx h) rfl).some_cases with h2 | h2
  · exact h2
  · exact h2.trans (congrArg some (OutSlot.core_of_none rfl))

/-- A slot to be completed is, and has no buffer. -/
theorem stopCompletes_stopped (hx : s.cap.slot? c i = some x) (h : x.state.stops = true) :
    (stopCompletes c cfg s).cap.slot? c i = some (x.complete .stopped s.timebase none) := by
  have h1 := (stopEmpties_visits c cfg s).slot_miss hx (OutState.not_fills_of_stops _ h)
  have completes {z : OutSlot} (hz : (stopEmpties c cfg s).cap.slot? c i = some z) (hs : z.state.stops = true) :=
    (stopCompletes_visits c cfg s).slot_hit (fun _ => rfl) (fun _ => rfl) (order_nodup _) (mem_order_of_slot hx) hz hs
  rcases h1.some_cases with h1 | h1
  · exact completes h1 h
  · exact completes (z := x.core) h1 h

/-- The other slots stay, but for a buffer that another slot gave up. -/
theorem stopCompletes_kept (hx : s.cap.slot? c i = some x) (hf : x.state.fills = false) (hs : x.state.stops = false) :
    Fades (some x) ((stopCompletes c cfg s).cap.slot? c i) := by
  have h1 := (stopEmpties_visits c cfg s).slot_miss hx hf
  rcases h1.some_cases with he | he <;> rw [he] at h1
  · exact (stopCompletes_visits c cfg s).slot_miss he hs
  · exact h1.trans ((stopCompletes_visits c cfg s).slot_miss he hs)

/-- So do the slots of the other channels. -/
theorem stopCompletes_unvisited {d : Chan} (h : ¬ (d = c ∧ i ∈ s.cap.rings[c].order)) :
    Fades (s.cap.slot? d i) ((stopCompletes c cfg s).cap.slot? d i) :=
  ((stopEmpties_visits c cfg s).fades h).trans ((stopCompletes_visits c cfg s).fades h)

/-- Every slot of the channel is in the state that follows its own. -/
theorem stopCompletes_state : ((stopCompletes c cfg s).cap.slot? c i).map (·.state)
    = (s.cap.slot? c i).map (fun x => x.state.afterStop) := by
  cases hx : s.cap.slot? c i with
  | none =>
    have hk := (stopCompletes_unvisited cfg (d := c) fun h => not_mem_order_of_none hx h.2).state
    rwa [hx] at hk
  | some x =>
    by_cases hf : x.state.fills = true
    · rw [stopCompletes_filling cfg hx hf, Option.map_some, Option.map_some, OutState.afterStop_of_fills _ hf]
      rfl
    by_cases hs : x.state.stops = true
    · rw [stopCompletes_stopped cfg hx hs, Option.map_some, Option.map_some, OutState.afterStop_of_stops _ hs]
      rfl
    rw [Bool.not_eq_true] at hf hs
    rw [(stopCompletes_kept cfg hx hf hs).state, Option.map_some, Option.map_some,
      OutState.afterStop_of_kept _ hf hs]

variable (c s)

theorem outStates_getElem? (t : State) (d : Chan) (j : Nat) :
    (t.outStates d)[j]? = (t.cap.slot? d j).map (·.state) := by
  simp [State.outStates, CaptureUnit.slot?]

theorem stopCompletes_outStates :
    (stopCompletes c cfg s).outStates c = (s.outStates c).map OutState.afterStop := by
  refine List.ext_getElem? fun j => ?_
  rw [List.getElem?_map, outStates_getElem?, outStates_getElem?, stopCompletes_state, Option.map_map]
  rfl

theorem stopCompletes_outStates_other {d : Chan} (h : d ≠ c) : (stopCompletes c cfg s).outStates d = s.outStates d := by
  refine List.ext_getElem? fun j => ?_
  rw [outStates_getElem?, outStates_getElem?]
  exact (stopCompletes_unvisited cfg fun hd => h hd.1).state

/-! ### The write-back queue and the buffers after both passes -/

theorem stopEmpties_stops (i : Nat) : ((stopEmpties c cfg s).cap.slot? c i).any (fun x => x.state.stops)
    = (s.cap.slot? c i).any (fun x => x.state.stops) := by
  cases hx : s.cap.slot? c i with
  | none =>
    have hk := (stopEmpties_visits c cfg s).fades (d := c) (j := i) fun h => not_mem_order_of_none hx h.2
    exact (hk.any_state _).trans (congrArg (fun y : Option OutSlot => y.any (fun x => x.state.stops)) hx)
  | some x =>
    cases hf : x.state.fills with
    | true =>
      have hs : x.state.stops = false := by
        by_contra hs
        exact absurd hf (by simp [OutState.not_fills_of_stops _ (by simpa using hs)])
      rw [stopEmpties_filling cfg hx hf, Option.any_some, Option.any_some, hs]
      rfl
    | false => exact ((stopEmpties_visits c cfg s).slot_miss hx hf).any_state _

theorem stopCompletes_wbQueue : (stopCompletes c cfg s).cap.wbQueue = s.cap.wbQueue ++
    (s.cap.rings[c].order.filter (fun i => (s.cap.slot? c i).any (fun x => x.state.stops))).map (fun i => (c, i)) := by
  rw [(stopCompletes_visits c cfg s).wbQueue (order_nodup _), (stopEmpties_visits c cfg s).wbQueue (order_nodup _)]
  simp [stopEmpties_stops]

/-- A slot that still has a buffer after the first pass is as it was. -/
theorem stopEmpties_bound {i : Nat} {y : OutSlot} {b : Buf} (hy : (stopEmpties c cfg s).cap.slot? c i = some y)
    (hb : y.buf = some b) : s.cap.slot? c i = some y ∧ y.state.fills = false := by
  cases hx : s.cap.slot? c i with
  | none =>
    have hk := (stopEmpties_visits c cfg s).fades (d := c) (j := i) fun h => not_mem_order_of_none hx h.2
    rw [hy] at hk
    cases hx.symm.trans (hk.bound hb)
  | some x =>
    cases hf : x.state.fills with
    | true =>
      obtain rfl := Option.some.inj (hy.symm.trans (stopEmpties_filling cfg hx hf))
      cases hb
    | false =>
      have hk := (stopEmpties_visits c cfg s).slot_miss hx hf
      rw [hy] at hk
      obtain rfl := Option.some.inj (hk.bound hb)
      exact ⟨rfl, hf⟩

/-- A buffer that no emptied and no completed slot has stays. -/
theorem stopCompletes_buf_other (b : Buf) (h : ∀ i x, s.cap.slot? c i = some x → x.buf = some b →
    x.state.fills = false ∧ x.state.stops = false) : (stopCompletes c cfg s).cap.bufs[b] = s.cap.bufs[b] := by
  have h1 := (stopEmpties_visits c cfg s).buf_other (fun _ => rfl) (fun _ => rfl) b fun i x hx hb => (h i x hx hb).1
  have h2 := (stopCompletes_visits c cfg s).buf_other (fun _ => rfl) (fun _ => rfl) b fun i y hy hb =>
    (h i y (stopEmpties_bound c cfg s hy hb).1 hb).2
  exact h2.trans h1

/-- The buffer of an emptied or a completed slot has been given up. -/
theorem stopCompletes_givenUp {i : Nat} {x : OutSlot} {b : Buf} (hx : s.cap.slot? c i = some x) (hb : x.buf = some b)
    (h : x.state.fills = true ∨ x.state.stops = true) (hs : s.cap.bufs[b].state ≠ .sending)
    (hf : s.cap.bufs[b].state ≠ .free) : GivenUp b s.cap.bufs[b] (stopCompletes c cfg s) := by
  have start : GivesUp c i b s.cap.bufs[b] (setChan c (.stopping cfg) s) := .inr ⟨rfl, x, hx, hb⟩
  have fin := (stopCompletes_visits c cfg s).givesUp hs hf ((stopEmpties_visits c cfg s).givesUp hs hf start)
  have bare : ∃ y, (stopCompletes c cfg s).cap.slot? c i = some y ∧ y.buf = none :=
    h.elim (fun h => ⟨_, stopCompletes_filling cfg hx h, rfl⟩) fun h => ⟨_, stopCompletes_stopped cfg hx h, rfl⟩
  refine fin.resolve_right fun ⟨_, z, hz, hzb⟩ => ?_
  obtain ⟨y, hy, hyb⟩ := bare
  obtain rfl := Option.some.inj (hz.symm.trans hy)
  cases hyb.symm.trans hzb

theorem stopCompletes_port : (stopCompletes c cfg s).port = s.port :=
  (stopCompletes_visits c cfg s).port.trans (stopEmpties_visits c cfg s).port

/-! ### The command during the stop -/

end

section
variable (s : State)

theorem cmd_foldl {α : Type} {f : State → α → State} (h : ∀ s a, (f s a).cmd = s.cmd) (l : List α) (s : State) :
    (l.foldl f s).cmd = s.cmd := by
  induction l generalizing s with
  | nil => rfl
  | cons a l ih => rw [List.foldl_cons, ih, h]

@[simp] theorem dropJob_cmd (b : Buf) (d : Drop) : (dropJob b d s).cmd = s.cmd := by
  unfold dropJob; split <;> rfl

@[simp] theorem releaseBuf_cmd (b : Buf) : (releaseBuf b s).cmd = s.cmd := by
  unfold releaseBuf; split <;> simp

@[simp] theorem releaseSlotBuf_cmd (c : Chan) (i : Nat) : (releaseSlotBuf c i s).cmd = s.cmd := by
  unfold releaseSlotBuf; split <;> simp

@[simp] theorem startWriteback_cmd : (startWriteback s).cmd = s.cmd := by
  unfold startWriteback; (repeat' split) <;> rfl

@[simp] theorem emptyFilling_cmd (c : Chan) (i : Nat) : (emptyFilling c s i).cmd = s.cmd := by
  unfold emptyFilling; (repeat' split) <;> simp

@[simp] theorem stopSlot_cmd (c : Chan) (i : Nat) : (stopSlot c s i).cmd = s.cmd := by
  unfold stopSlot completeSlot; (repeat' split) <;> simp

theorem stopCompletes_cmd (c : Chan) (cfg : ChanCfg) : (stopCompletes c cfg s).cmd = s.cmd :=
  (cmd_foldl (fun s i => stopSlot_cmd s c i) _ _).trans (cmd_foldl (fun s i => emptyFilling_cmd s c i) _ _)

end

/-! ### The end of the stop (R80) -/

theorem setChan_chans (c d : Chan) (st : ChanState) (s : State) : (setChan c st s).wm.chans[d] =
    if d = c then ⟨st, s.wm.chans[c].generation⟩ else s.wm.chans[d] := by
  by_cases h : d = c
  · subst h; simp
  · have hv : (c : Nat) ≠ d := fun hv => h (Fin.ext hv.symm)
    simp [h, hv]

/-- The drain is complete when every slot is OPEN after the stop. -/
theorem outDrained_stopCompletes (c : Chan) (cfg : ChanCfg) (s : State) :
    outDrained c (stopCompletes c cfg s) = true ↔ ∀ o ∈ s.outStates c, o.afterStop = .open := by
  have stopping : (stopCompletes c cfg s).wm.isStopping c = true := by
    rw [stopCompletes_wm, Matcher.isStopping, setChan_chans, if_pos rfl]
  have states : (stopCompletes c cfg s).cap.rings[c].slots.all (fun x => decide (x.state = .open)) = true
      ↔ ∀ o ∈ (stopCompletes c cfg s).outStates c, o = .open := by
    simp [State.outStates]
  rw [outDrained, stopping, Bool.true_and, states, stopCompletes_outStates]
  simp

end Sys2Proof.Machine

namespace Sys2Proof.Machine

@[simp] theorem arriveNext_cap (s : State) : (arriveNext s).cap = s.cap := by
  unfold arriveNext arrive; (repeat' split) <;> rfl

@[simp] theorem arriveNext_cmd (s : State) : (arriveNext s).cmd = s.cmd := by
  unfold arriveNext arrive; (repeat' split) <;> rfl

theorem arriveNext_outStates (s : State) (d : Chan) : (arriveNext s).outStates d = s.outStates d := by
  simp [State.outStates]

theorem finishOutDrain_waits (c : Chan) (s : State) (h : ¬ outDrained c s = true) : finishOutDrain c s = s :=
  if_neg h

theorem finishOutDrain_ends (c : Chan) (s : State) (h : outDrained c s = true) : finishOutDrain c s =
    endCommand .done 0#32 { setChan c .off s with cap := s.cap.onRing c (fun _ => OutRing.empty) } :=
  if_pos h

section
variable (c : Chan) (s : State)

/-- The end of a drain discards the ring's records, and leaves the rest of the Capture Unit. -/
theorem finishOutDrain_cap : (finishOutDrain c s).cap = s.cap
    ∨ (finishOutDrain c s).cap = s.cap.onRing c (fun _ => OutRing.empty) := by
  by_cases h : outDrained c s = true
  · rw [finishOutDrain_ends c s h]; exact .inr rfl
  · rw [finishOutDrain_waits c s h]; exact .inl rfl

theorem finishOutDrain_bufs : (finishOutDrain c s).cap.bufs = s.cap.bufs := by
  rcases finishOutDrain_cap c s with h | h <;> rw [h]
  rfl

theorem finishOutDrain_jobs : (finishOutDrain c s).cap.jobs = s.cap.jobs := by
  rcases finishOutDrain_cap c s with h | h <;> rw [h]
  rfl

theorem finishOutDrain_wbQueue : (finishOutDrain c s).cap.wbQueue = s.cap.wbQueue := by
  rcases finishOutDrain_cap c s with h | h <;> rw [h]
  rfl

theorem finishOutDrain_outStates_other {d : Chan} (hd : d ≠ c) : (finishOutDrain c s).outStates d = s.outStates d := by
  unfold State.outStates
  rcases finishOutDrain_cap c s with h | h <;> rw [h]
  rw [onRing_rings, if_neg hd]

theorem finishOutDrain_chans_other {d : Chan} (hd : d ≠ c) : (finishOutDrain c s).wm.chans[d] = s.wm.chans[d] := by
  by_cases h : outDrained c s = true
  · rw [finishOutDrain_ends c s h]
    exact (setChan_chans c d .off s).trans (if_neg hd)
  · rw [finishOutDrain_waits c s h]

end

/-! ## STOP_CHANNEL at its start (R40, R78, R157) -/

theorem startStop_off (c : Command) (s : State) (h : s.wm.chans[c.chan].state = .off) :
    startStop c s = endCommand .channelIdle 0#32 s := by
  simp only [startStop, h]

theorem startStop_inbound (c : Command) (s : State) (cfg : ChanCfg) (h : s.wm.chans[c.chan].state = .active cfg)
    (hi : cfg.isInbound = true) : startStop c s = stopInbound c.chan cfg s := by
  simp only [startStop, h, hi, if_true]

theorem startStop_outbound (c : Command) (s : State) (cfg : ChanCfg) (h : s.wm.chans[c.chan].state = .active cfg)
    (hi : cfg.isInbound = false) : startStop c s = finishOutDrain c.chan (stopCompletes c.chan cfg s) := by
  simp only [startStop, h, hi, Bool.false_eq_true, if_false, stopOutbound_eq]

/-! ### An INBOUND channel (R132, R157, R159) -/

theorem setChan_setChan (c : Chan) (a b : ChanState) (s : State) : setChan c a (setChan c b s) = setChan c a s := by
  simp [setChan]

/-- A STOPPING inbound channel is drained when none of its slots is LANDING. -/
theorem inDrained_stopping (c : Chan) (cfg : ChanCfg) (s : State) (hi : cfg.isInbound = true) :
    inDrained c (requestCredit c (setChan c (.stopping cfg) s)) = true
      ↔ ∀ x ∈ s.land.rings[c].slots, x.state ≠ .landing := by
  have hc : (setChan c (.stopping cfg) s).wm.chans[c] = ⟨.stopping cfg, s.wm.chans[c].generation⟩ :=
    (setChan_chans c c _ s).trans (if_pos rfl)
  have stopping : (setChan c (.stopping cfg) s).wm.isStopping c = true := by rw [Matcher.isStopping, hc]
  have inbound : (setChan c (.stopping cfg) s).wm.isInbound c = true := by
    rw [Matcher.isInbound, Matcher.cfg?, hc]; exact hi
  rw [inDrained, requestCredit_wm, stopping, inbound]
  simp

theorem stopInbound_waits (c : Chan) (cfg : ChanCfg) (s : State) (hi : cfg.isInbound = true)
    (h : ∃ x ∈ s.land.rings[c].slots, x.state = .landing) :
    stopInbound c cfg s = requestCredit c (setChan c (.stopping cfg) s) := by
  obtain ⟨x, hx, hl⟩ := h
  exact if_neg fun hd => (inDrained_stopping c cfg s hi).mp hd x hx hl

theorem stopInbound_ends (c : Chan) (cfg : ChanCfg) (s : State) (hi : cfg.isInbound = true)
    (h : ∀ x ∈ s.land.rings[c].slots, x.state ≠ .landing) :
    stopInbound c cfg s = endCommand .done 0#32 { requestCredit c (setChan c .off s) with
      land := s.land.onRing c (fun _ => InRing.empty) } := by
  have hoff : setChan c .off (requestCredit c (setChan c (.stopping cfg) s)) = requestCredit c (setChan c .off s) :=
    congrArg (requestCredit c) (setChan_setChan c .off (.stopping cfg) s)
  rw [stopInbound, finishInDrain, if_pos ((inDrained_stopping c cfg s hi).mpr h), hoff]
  rfl

/-- Settles O26. -/
theorem stopsStart : Obligations.StopsStart := by
  refine ⟨fun s r w c s2 h hk => ?_, fun s r w c s2 cfg h hk hc hi => ?_⟩
  all_goals have he : exec .stopChannel s = .next (arriveNext (startStop c s2)) :=
    exec_starts_code h hk (startCommand_stop s2)
  · refine ⟨fun ho => by rw [he, startStop_off c s2 ho, starts_answers s r w c s2 h], fun cfg hc hi =>
      ⟨fun hl => ?_, fun hl => ?_⟩⟩
    · rw [he, startStop_inbound c s2 cfg hc hi, stopInbound_waits c.chan cfg s2 hi hl]; rfl
    · rw [he, startStop_inbound c s2 cfg hc hi, stopInbound_ends c.chan cfg s2 hi hl]
      exact congrArg _ (congrArg _ (endCommand_answers _ c _ _ (congrArg _ (starts_places h))))
  · intro after drained stops ring order gives
    rw [startStop_outbound c s2 cfg hc hi] at he
    have hafter : after = OutState.afterStop := by
      funext o
      cases o <;> rfl
    have hstops : stops = fun x => x.state.stops := by
      funext x
      simp only [stops, hafter, OutState.stops]
    have hfills (x : OutSlot) : x.state.fills = true ↔ x.state = .filling := by simp [OutState.fills]
    have hd : outDrained c.chan (stopCompletes c.chan cfg s2) = true ↔ drained := by
      rw [outDrained_stopCompletes]
      simp only [drained, hafter]
    have hwm := stopCompletes_wm c.chan cfg s2
    refine ⟨_, he, fun d hne => ⟨?_, ?_⟩, ?_, fun b hb => ?_, fun b hb hs hf => ?_, fun hn => ?_, fun hn => ?_⟩
    · rw [arriveNext_outStates, finishOutDrain_outStates_other _ _ hne, stopCompletes_outStates_other _ _ _ hne]
    · rw [arriveNext_wm, finishOutDrain_chans_other _ _ hne, hwm, setChan_chans, if_neg hne]
    · rw [arriveNext_cap, finishOutDrain_wbQueue, stopCompletes_wbQueue, hstops]
      rfl
    · rw [arriveNext_cap, finishOutDrain_bufs]
      refine stopCompletes_buf_other c.chan cfg s2 b fun i x hx hxb => ?_
      have hg : ¬ (x.state = .filling ∨ stops x = true) := fun hg => hb ⟨i, x, hx, hxb, hg⟩
      simpa [← hfills, hstops] using hg
    · obtain ⟨i, x, hx, hxb, hg⟩ := hb
      rw [← hfills, hstops] at hg
      have given := stopCompletes_givenUp c.chan cfg s2 hx hxb hg hs hf
      unfold GivenUp at given
      rw [stopCompletes_port] at given
      rw [arriveNext_cap, finishOutDrain_bufs, finishOutDrain_jobs]
      exact given
    · rw [finishOutDrain_waits _ _ fun ho => hn (hd.mp ho), arriveNext_wm, arriveNext_cmd, arriveNext_cap, hwm,
        setChan_chans, if_pos rfl]
      refine ⟨rfl, stopCompletes_cmd s2 c.chan cfg, ?_, fun i x hx => ⟨fun hs => ?_, fun hf => ?_⟩⟩
      · rw [arriveNext_outStates, hafter, stopCompletes_outStates]
      · rw [hstops] at hs
        exact ⟨_, stopCompletes_stopped cfg hx hs, rfl, rfl⟩
      · exact stopCompletes_filling cfg hx ((hfills x).mpr hf)
    · rw [finishOutDrain_ends _ _ (hd.mpr hn), arriveNext_wm, arriveNext_cmd, arriveNext_cap]
      refine ⟨?_, ?_, ?_⟩
      · exact (setChan_chans c.chan c.chan .off _).trans ((if_pos rfl).trans (by rw [hwm, setChan_chans, if_pos rfl]))
      · exact congrArg OutRing.slots ((onRing_rings _ c.chan c.chan _).trans (if_pos rfl))
      · change (stopCompletes c.chan cfg s2).cmd.executing.map _ = _
        rw [stopCompletes_cmd, starts_places h]
        rfl

end Sys2Proof.Machine


namespace Sys2Proof.Machine

/-! ## The checks of a channel record (R36, R37, R173) -/

/-- Ranges that are not empty meet exactly when they share a byte. -/
theorem rangesMeet_iff {a la b lb : Nat} (ha : 0 < la) (hb : 0 < lb) :
    rangesMeet a la b lb = true ↔ ∃ x, a ≤ x ∧ x < a + la ∧ b ≤ x ∧ x < b + lb := by
  simp only [rangesMeet, Bool.and_eq_true, decide_eq_true_eq]
  constructor
  · rintro ⟨h1, h2⟩
    exact ⟨max a b, by omega⟩
  · rintro ⟨x, h⟩
    omega

theorem rangesMeet_comm (a la b lb : Nat) : rangesMeet a la b lb = rangesMeet b lb a la := Bool.and_comm _ _

theorem meetsChannel_iff (wm : Matcher) (a n : Nat) (c : Chan) :
    meetsChannel wm a n c = true ↔ ∃ o, wm.cfg? c = some o ∧ rangesMeet a n o.base o.bytes = true := by
  unfold meetsChannel
  cases wm.cfg? c <;> simp

theorem meetsRing_iff (cfg : ChanCfg) (ev : EventUnit) : meetsRing cfg ev = true ↔ ev.run ≠ .stopped
    ∧ ∃ x, ev.ringCfg = some x ∧ rangesMeet cfg.base cfg.bytes x.base (16 * x.size) = true := by
  unfold meetsRing
  cases ev.ringCfg <;> simp

theorem usesDest_iff (wm : Matcher) (d : Option Chan) (m : Chan) :
    wm.usesDest d m = true ↔ ∃ o e, wm.cfg? m = some o ∧ d = some e ∧ o.dest? = some e := by
  unfold Matcher.usesDest
  cases wm.cfg? m <;> cases d <;> simp

theorem mem_allChans (c : Chan) : c ∈ allChans := by
  revert c; decide

theorem find_allChans_none {p : Chan → Bool} : allChans.find? p = none ↔ ∀ m, ¬ p m = true := by
  simp [List.find?_eq_none, mem_allChans]

/-- Another channel's area meets the area of a record for channel `n`. -/
def meetsOther (n : Chan) (cfg : ChanCfg) (s : State) (m : Chan) : Bool :=
  decide (m ≠ n) && meetsChannel s.wm cfg.base cfg.bytes m

/-- Another channel uses its destination. -/
def sharesDest (n : Chan) (cfg : ChanCfg) (s : State) (m : Chan) : Bool :=
  decide (m ≠ n) && s.wm.usesDest cfg.dest? m

theorem meetsOther_iff (n : Chan) (cfg : ChanCfg) (s : State) (m : Chan) : meetsOther n cfg s m = true ↔
    m ≠ n ∧ ∃ o, s.wm.cfg? m = some o ∧ rangesMeet cfg.base cfg.bytes o.base o.bytes = true := by
  simp only [meetsOther, Bool.and_eq_true, decide_eq_true_eq, meetsChannel_iff]

theorem sharesDest_iff (n : Chan) (cfg : ChanCfg) (s : State) (m : Chan) : sharesDest n cfg s m = true ↔
    m ≠ n ∧ ∃ o d, s.wm.cfg? m = some o ∧ cfg.dest? = some d ∧ o.dest? = some d := by
  simp only [sharesDest, Bool.and_eq_true, decide_eq_true_eq, usesDest_iff]

/-- The checks of R37 in their order. -/
theorem overlapCheck_eq (n : Chan) (cfg : ChanCfg) (s : State) : overlapCheck n cfg s =
    if rangesMeet cfg.base cfg.bytes s.wm.base 0x1000 then some (.overlap, 16#32)
    else ((allChans.find? (meetsOther n cfg s)).map (fun m => (Result.overlap, BitVec.ofNat 32 m.val))).or
      (if meetsRing cfg s.ev then some (.overlap, 17#32)
        else (allChans.find? (sharesDest n cfg s)).map (fun m => (.destInUse, BitVec.ofNat 32 m.val))) := by
  unfold overlapCheck
  split
  · rfl
  · change (match allChans.find? (meetsOther n cfg s) with | some m => _ | none => _) = _
    cases allChans.find? (meetsOther n cfg s) <;> rfl

section
variable {n : Chan} {cfg : ChanCfg} {s : State}

theorem overlapCheck_other (hb : ¬ rangesMeet cfg.base cfg.bytes s.wm.base 0x1000 = true) {m : Chan}
    (hm : meetsOther n cfg s m = true) (hl : ∀ k, k < m → ¬ meetsOther n cfg s k = true) :
    overlapCheck n cfg s = some (.overlap, BitVec.ofNat 32 m.val) := by
  rw [overlapCheck_eq, if_neg hb, find_lowest _ m hm fun k hk => by simpa using hl k hk]
  rfl

theorem overlapCheck_apart (hb : ¬ rangesMeet cfg.base cfg.bytes s.wm.base 0x1000 = true)
    (hm : ∀ m, ¬ meetsOther n cfg s m = true) : overlapCheck n cfg s =
      if meetsRing cfg s.ev then some (.overlap, 17#32)
      else (allChans.find? (sharesDest n cfg s)).map (fun m => (.destInUse, BitVec.ofNat 32 m.val)) := by
  rw [overlapCheck_eq, if_neg hb, find_allChans_none.mpr hm]
  rfl

/-- A record passes when its area is apart and its destination free. -/
theorem overlapCheck_eq_none : overlapCheck n cfg s = none ↔
    (¬ rangesMeet cfg.base cfg.bytes s.wm.base 0x1000 = true ∧ ∀ m, ¬ meetsOther n cfg s m = true)
      ∧ ¬ meetsRing cfg s.ev = true ∧ ∀ m, ¬ sharesDest n cfg s m = true := by
  rw [overlapCheck_eq, ← find_allChans_none, ← find_allChans_none]
  by_cases hb : rangesMeet cfg.base cfg.bytes s.wm.base 0x1000 = true
  · simp [hb]
  by_cases hr : meetsRing cfg s.ev = true
  · simp [hb, hr]
  · simp [hb, hr]

end

/-- The geometry checks of R36, on the words of the record. -/
theorem geometry_eq (f : RecordFields) : f.geometry =
    if f.w0.toNat % 4 = 0 ∨ f.w0.toNat % 4 = 3 then some 1
    else if 4 < f.sizeCode then some 2
    else if f.count < 2 ∨ 256 < f.count then some 3
    else if 2 ^ 28 ≤ f.base ∨ f.base % f.size ≠ 0 then some 4
    else if 0xFFFFFFF < f.base + f.size * f.count - 1 then some 5
    else if f.w0.toNat % 4 = 2 ∧ f.count < f.posted then some 6
    else none := by
  have hdir : f.direction = f.w0.toNat % 4 := by simp [RecordFields.direction, bits]
  have hbase : bits f.w1 28 4 ≠ 0 ↔ 2 ^ 28 ≤ f.base := by
    have h := f.w1.isLt
    simp only [bits, RecordFields.base]
    omega
  simp only [RecordFields.geometry, hdir, hbase]

/-- Settles O20. -/
theorem channelRecordChecks : Obligations.ChannelRecordChecks := by
  refine ⟨fun a la b lb => rangesMeet_iff, fun f => ?_, fun n cfg s => ?_⟩
  · intro dir code n base size bad1 bad2 bad3 bad4 bad5 bad6
    have h : f.geometry = if bad1 then some 1 else if bad2 then some 2 else if bad3 then some 3
        else if bad4 then some 4 else if bad5 then some 5 else if bad6 then some 6 else none := geometry_eq f
    refine ⟨fun h1 => ?_, fun h1 h2 => ?_, fun h1 h2 h3 => ?_, fun h1 h2 h3 h4 => ?_, fun h1 h2 h3 h4 h5 => ?_,
      fun h1 h2 h3 h4 h5 h6 => ?_, fun h1 h2 h3 h4 h5 h6 => ?_⟩
    · rwa [if_pos h1] at h
    · rwa [if_neg h1, if_pos h2] at h
    · rwa [if_neg h1, if_neg h2, if_pos h3] at h
    · rwa [if_neg h1, if_neg h2, if_neg h3, if_pos h4] at h
    · rwa [if_neg h1, if_neg h2, if_neg h3, if_neg h4, if_pos h5] at h
    · rwa [if_neg h1, if_neg h2, if_neg h3, if_neg h4, if_neg h5, if_pos h6] at h
    · rwa [if_neg h1, if_neg h2, if_neg h3, if_neg h4, if_neg h5, if_neg h6] at h
  · dsimp only
    simp only [← meetsOther_iff, ← sharesDest_iff, ← meetsRing_iff]
    split
    · next hb => rw [overlapCheck_eq, if_pos hb]
    · next hb =>
      refine ⟨fun m => overlapCheck_other hb, fun hm => ⟨fun hr => ?_, fun hr => ⟨fun m ht hl => ?_, fun ht => ?_⟩⟩⟩
      · rw [overlapCheck_apart hb hm, if_pos hr]
      · rw [overlapCheck_apart hb hm, if_neg hr, find_lowest _ m ht fun k hk => by simpa using hl k hk]
        rfl
      · exact overlapCheck_eq_none.mpr ⟨⟨hb, hm⟩, hr, ht⟩

end Sys2Proof.Machine

namespace Sys2Proof.Machine

/-! ## The layout: channels, generations and the event ring (R34, R37, R128, R163)

The channel table, the Credit Unit's copies of the generations and the event ring; most operations leave all of it. -/

/-- Run state, installed ring and producer index (R163). -/
structure RingPlace where
  run : RunState
  cfg : Option RingCfg
  producer : Nat

def EventUnit.place (ev : EventUnit) : RingPlace := ⟨ev.run, ev.ringCfg, ev.producer⟩

structure Layout where
  anchor : BitVec 4
  chans : Vector Channel 16
  gens : Chan → BitVec 8
  place : RingPlace

def CreditUnit.gens (u : CreditUnit) : Chan → BitVec 8 := fun c => u.recv[c].generation

def State.layout (s : State) : Layout := ⟨s.wm.anchor, s.wm.chans, s.cred.gens, s.ev.place⟩

/-- A record update that keeps the Credit Unit and, of the others, what the layout holds. -/
@[simp] theorem layout_update (t : State) (b : Bool) (now : Word) (i : Bool) (o : List (Option LinkWord))
    (m : List Host.Cell) (h : HostPort) (p : Option HostAccess) (a : Option HostAnswer) (g : MemPort) (q : Requests)
    (w : Matcher) (c : CommandUnit) (u : CaptureUnit) (l : LinkController) (x : TransmitEngine) (e : LandingEngine)
    (v : EventUnit) (f : Nat) (n : List Instr) (ha : w.anchor = t.wm.anchor) (hc : w.chans = t.wm.chans)
    (hr : v.run = t.ev.run) (hg : v.ringCfg = t.ev.ringCfg) (hp : v.producer = t.ev.producer) :
    State.layout ⟨b, now, i, o, m, h, p, a, g, q, w, c, u, l, x, e, t.cred, v, f, n⟩ = t.layout := by
  simp only [State.layout, EventUnit.place, ha, hc, hr, hg, hp]

/-- So for one that keeps the receive records. -/
@[simp] theorem layout_update_cred (t : State) (b : Bool) (now : Word) (i : Bool) (o : List (Option LinkWord))
    (m : List Host.Cell) (h : HostPort) (p : Option HostAccess) (a : Option HostAnswer) (g : MemPort) (q : Requests)
    (w : Matcher) (c : CommandUnit) (u : CaptureUnit) (l : LinkController) (x : TransmitEngine) (e : LandingEngine)
    (d : Vector SendRecord 16) (k : Option Nat) (y : List CreditArrival) (v : EventUnit) (f : Nat) (n : List Instr)
    (ha : w.anchor = t.wm.anchor) (hc : w.chans = t.wm.chans) (hr : v.run = t.ev.run)
    (hg : v.ringCfg = t.ev.ringCfg) (hp : v.producer = t.ev.producer) :
    State.layout ⟨b, now, i, o, m, h, p, a, g, q, w, c, u, l, x, e, ⟨t.cred.recv, d, k, y⟩, v, f, n⟩ = t.layout := by
  simp only [State.layout, EventUnit.place, ha, hc, hr, hg, hp]; rfl

theorem layout_foldl {α : Type} {f : State → α → State} (h : ∀ s a, (f s a).layout = s.layout) (l : List α)
    (s : State) : (l.foldl f s).layout = s.layout := by
  induction l generalizing s with
  | nil => rfl
  | cons a l ih => rw [List.foldl_cons, ih, h]

/-! ### What the units leave -/

@[simp] theorem EventUnit.lose_place (n : Nat) (ev : EventUnit) : (ev.lose n).place = ev.place := rfl

@[simp] theorem EventUnit.choose_place (consumer now : Word) (ev : EventUnit) :
    (ev.choose consumer now).place = ev.place := by
  unfold EventUnit.choose; (repeat' split) <;> rfl

@[simp] theorem EventUnit.take_place (e : Event) (ev : EventUnit) : (ev.take e).place = ev.place := by
  unfold EventUnit.take; (repeat' split) <;> rfl

@[simp] theorem EventUnit.recordEnd_place (e : AccessEnd) (wm : Matcher) (ev : EventUnit) :
    (ev.recordEnd e wm).place = ev.place := by
  unfold EventUnit.recordEnd; dsimp only; split <;> rfl

@[simp] theorem EventUnit.lostEnd_place (n : Word) (e : AccessEnd) (wm : Matcher) (ev : EventUnit) :
    (ev.lostEnd n e wm).place = ev.place := by
  unfold EventUnit.lostEnd; split <;> rfl

theorem onRecv_gens_apply (c d : Chan) (f : RecvRecord → RecvRecord) (u : CreditUnit) :
    (u.onRecv c f).gens d = if d = c then (f u.recv[c]).generation else u.gens d := by
  by_cases h : d = c
  · subst h; simp [CreditUnit.gens, CreditUnit.onRecv]
  · have hv : (c : Nat) ≠ d := fun hv => h (Fin.ext hv.symm)
    simp [CreditUnit.gens, CreditUnit.onRecv, h, hv]

theorem onRecv_gens (c : Chan) (f : RecvRecord → RecvRecord) (u : CreditUnit)
    (h : ∀ r, (f r).generation = r.generation) : (u.onRecv c f).gens = u.gens := by
  funext d
  rw [onRecv_gens_apply, h]
  split
  · next hd => rw [hd]; rfl
  · rfl

theorem tabulate_getElem {α : Type} (f : Fin 16 → α) (c : Fin 16) : (tabulate f)[c] = f c := by
  revert c; simp [tabulate, Fin.forall_fin_succ]

@[simp] theorem CreditUnit.linkReset_gens (u : CreditUnit) : u.linkReset.gens = u.gens := by
  funext d
  have h : u.linkReset.recv[d] = ⟨u.recv[d].generation, u.recv[d].posted.forget, false⟩ := tabulate_getElem _ d
  rw [CreditUnit.gens, h]
  rfl


section
variable (s : State)

/-! ### The Event Unit's requests and posts leave the layout -/

@[simp] theorem present_layout (r : DevReq) : (present r s).layout = s.layout := rfl

@[simp] theorem endCommand_layout (r : Result) (d : Word) : (endCommand r d s).layout = s.layout := rfl

@[simp] theorem count_layout (f : Counters → Counters) : (count f s).layout = s.layout := rfl

@[simp] theorem driveInt_layout : (driveInt s).layout = s.layout := rfl

@[simp] theorem runRing_layout : (runRing s).layout = s.layout := by
  simp [State.layout, runRing]

@[simp] theorem post_layout (k : EventKind) (c : Chan) (d1 d2 : Word) : (post k c d1 d2 s).layout = s.layout := by
  rw [post, runRing_layout]; simp [State.layout]

@[simp] theorem postFaultIf_layout (e : AccessEnd) (c : Chan) (o : Origin) (a : Nat) :
    (postFaultIf e c o a s).layout = s.layout := by
  unfold postFaultIf postFault; split <;> simp

@[simp] theorem startSnapshot_layout (c : Command) : (startSnapshot c s).layout = s.layout := by
  unfold startSnapshot; rw [runRing_layout]; rfl

@[simp] theorem endStartWrite_layout (e : AccessEnd) (r : DevReq) : (endStartWrite e r s).layout = s.layout := by
  unfold endStartWrite postFault
  dsimp only
  split <;> simp <;> rfl

@[simp] theorem endSnapBurst_layout (e : AccessEnd) (r : DevReq) : (endSnapBurst e r s).layout = s.layout := by
  unfold endSnapBurst; dsimp only; (repeat' split) <;> simp <;> rfl

/-! ### The Credit Unit -/

@[simp] theorem requestCtl_layout (r : CtlReq) : (requestCtl r s).layout = s.layout := rfl

/-- A change of receive records that keeps their generations. -/
theorem layout_cred (u : CreditUnit) (h : u.gens = s.cred.gens) : State.layout { s with cred := u } = s.layout := by
  simp only [State.layout, h]

@[simp] theorem requestCredit_layout (c : Chan) : (requestCredit c s).layout = s.layout := by
  have h : (requestCredit c s).cred.gens = s.cred.gens := by
    simp only [requestCredit_cred]
    split
    · exact onRecv_gens _ _ _ fun _ => rfl
    · rfl
  exact layout_cred s _ h

@[simp] theorem reportPosted_layout (c : Chan) : (reportPosted c s).layout = s.layout := by
  unfold reportPosted
  split
  · rw [requestCredit_layout, layout_cred]
    exact onRecv_gens _ _ _ fun _ => rfl
  · rfl

@[simp] theorem refreshCredits_layout : (refreshCredits s).layout = s.layout := by
  unfold refreshCredits; exact layout_foldl (fun s c => by split <;> simp) _ s

@[simp] theorem creditUpChan_layout (c : Chan) : (creditUpChan s c).layout = s.layout := by
  unfold creditUpChan
  split
  · rw [requestCredit_layout, layout_cred]
    exact onRecv_gens _ _ _ fun _ => rfl
  · rfl

@[simp] theorem creditLinkUp_layout : (creditLinkUp s).layout = s.layout := by
  simp [creditLinkUp, layout_foldl creditUpChan_layout]

@[simp] theorem chargeSend_layout (c : Chan) : (chargeSend c s).layout = s.layout := by
  refine layout_cred s _ ?_
  (repeat' split) <;> rfl

@[simp] theorem refreshExpires_layout : (refreshExpires s).layout = s.layout := by
  unfold refreshExpires; dsimp only; split <;> simp

@[simp] theorem clearQueued_layout (c : Chan) : (clearQueued c s).layout = s.layout :=
  layout_cred s _ (onRecv_gens _ _ _ fun _ => rfl)

/-! ### The Capture Unit -/

@[simp] theorem presentRead_layout : (presentRead s).layout = s.layout := rfl

@[simp] theorem removeJob_layout (b : Buf) : (removeJob b s).layout = s.layout := rfl

@[simp] theorem dropJob_layout (b : Buf) (d : Drop) : (dropJob b d s).layout = s.layout := by
  unfold dropJob; split <;> rfl

@[simp] theorem startWriteback_layout : (startWriteback s).layout = s.layout := by
  unfold startWriteback; (repeat' split) <;> rfl

@[simp] theorem releaseBuf_layout (b : Buf) : (releaseBuf b s).layout = s.layout := by
  unfold releaseBuf; split <;> simp

@[simp] theorem releaseSlotBuf_layout (c : Chan) (i : Nat) : (releaseSlotBuf c i s).layout = s.layout := by
  unfold releaseSlotBuf; split <;> simp

@[simp] theorem enterCompleting_layout (c : Chan) (i : Nat) (st : Status) (sent : Option SentInfo) :
    (enterCompleting c i st sent s).layout = s.layout := rfl

@[simp] theorem completeSlot_layout (c : Chan) (i : Nat) (st : Status) (sent : Option SentInfo) :
    (completeSlot c i st sent s).layout = s.layout := by
  simp [completeSlot]

@[simp] theorem passTransmit_layout (c : Chan) : (passTransmit c s).layout = s.layout := rfl

@[simp] theorem drainClosed_layout (c : Chan) (n : Nat) : (drainClosed c n s).layout = s.layout := by
  induction n generalizing s with
  | zero => rfl
  | succ n ih => unfold drainClosed; split <;> simp [ih]

@[simp] theorem settleClosed_layout (c : Chan) : (settleClosed c s).layout = s.layout := drainClosed_layout s c _

@[simp] theorem recordCommit_layout (c : Chan) (i len : Nat) (notify : Bool) :
    (recordCommit c i len notify s).layout = s.layout := rfl

@[simp] theorem takeCommit_layout (c : Chan) (i len : Nat) (notify : Bool) :
    (takeCommit c i len notify s).layout = s.layout := by
  unfold takeCommit rejectCommit acceptCommit; dsimp only; (repeat' split) <;> simp

@[simp] theorem captureWord_layout (c : Chan) (i off : Nat) (be : BitVec 4) (d : Word) :
    (captureWord c i off be d s).layout = s.layout := rfl

@[simp] theorem planReads_layout (refetch : Bool) (c : Chan) (i len : Nat) (b : Buf) :
    (planReads refetch c i len b s).layout = s.layout := by
  unfold planReads; split <;> rfl

@[simp] theorem beginStaging_layout (c : Chan) : (beginStaging c s).layout = s.layout := by
  unfold beginStaging; (repeat' split) <;> simp

@[simp] theorem finishDropped_layout (b : Buf) (d : Drop) : (finishDropped b d s).layout = s.layout := rfl

@[simp] theorem acceptRead_layout (j : ReadJob) (r : DevReq) : (acceptRead j r s).layout = s.layout := by
  unfold acceptRead; split <;> rfl

@[simp] theorem endStagingRead_layout (b : Buf) (e : AccessEnd) (r : DevReq) :
    (endStagingRead b e r s).layout = s.layout := by
  unfold endStagingRead faultStaging postFault; (repeat' split) <;> simp

@[simp] theorem grantRefetch_layout : (grantRefetch s).layout = s.layout := by
  unfold grantRefetch; (repeat' split) <;> simp

@[simp] theorem cancelCaptureRefetch_layout : (cancelCaptureRefetch s).layout = s.layout := by
  unfold cancelCaptureRefetch; dsimp only; (repeat' split) <;> simp

@[simp] theorem emptyFilling_layout (c : Chan) (i : Nat) : (emptyFilling c s i).layout = s.layout := by
  unfold emptyFilling; (repeat' split) <;> simp

@[simp] theorem stopSlot_layout (c : Chan) (i : Nat) : (stopSlot c s i).layout = s.layout := by
  unfold stopSlot; (repeat' split) <;> simp

@[simp] theorem resetSlot_layout (c : Chan) (i : Nat) : (resetSlot c s i).layout = s.layout := by
  unfold resetSlot; (repeat' split) <;> simp

@[simp] theorem captureReset_layout : (captureReset s).layout = s.layout :=
  (layout_foldl (fun s c => layout_foldl (fun s i => resetSlot_layout s c i) _ s) _ _).trans
    (cancelCaptureRefetch_layout s)

@[simp] theorem endWbHeader_layout (e : AccessEnd) (r : DevReq) : (endWbHeader e r s).layout = s.layout := by
  unfold endWbHeader toWord0; (repeat' split) <;> simp

@[simp] theorem countReturned_layout (c : Chan) (st : Status) : (countReturned c st s).layout = s.layout := by
  unfold countReturned; (repeat' split) <;> simp

@[simp] theorem postDone_layout (c : Chan) (i : Nat) (notify : Bool) (st : Status) :
    (postDone c i notify st s).layout = s.layout := by
  unfold postDone; split <;> simp

@[simp] theorem settleDest_layout (d : Chan) : (settleDest d s).layout = s.layout :=
  layout_foldl (fun s c => by split <;> simp) _ _

/-! ### The Link Controller -/

@[simp] theorem callStatus_layout : (callStatus s).layout = s.layout := rfl

@[simp] theorem driveLane_layout : (driveLane s).layout = s.layout := rfl

@[simp] theorem setRx_layout (rx : LaneRx) : (setRx rx s).layout = s.layout := rfl

@[simp] theorem statusEnd_layout (e : AccessEnd) (r : DevReq) : (statusEnd e r s).layout = s.layout := by
  unfold statusEnd; dsimp only; split <;> simp

@[simp] theorem trySync_layout : (trySync s).layout = s.layout := by
  unfold trySync; split <;> rfl

@[simp] theorem acknowledge_layout : (acknowledge s).layout = s.layout := by
  unfold acknowledge; dsimp only; split <;> simp

@[simp] theorem postDown_layout (cause : Cause) : (postDown cause s).layout = s.layout := by
  unfold postDown; split <;> simp

@[simp] theorem linkReset_layout (cause : Cause) : (linkReset cause s).layout = s.layout := by
  unfold linkReset
  rw [callStatus_layout, driveLane_layout]
  exact (postDown_layout _ cause).trans (count_layout s _)

@[simp] theorem reportReset_layout (cause : Cause) : (reportReset cause s).layout = s.layout := by
  unfold reportReset; split <;> simp

@[simp] theorem takeInit_layout (epoch : Epoch) (heard : Option Epoch) :
    (takeInit epoch heard s).layout = s.layout := by
  unfold takeInit enterUp; dsimp only; (repeat' split) <;> simp

@[simp] theorem startEnable_layout : (startEnable s).layout = s.layout := by
  unfold startEnable; split <;> simp

@[simp] theorem startDisable_layout : (startDisable s).layout = s.layout := by
  unfold startDisable; split <;> simp

@[simp] theorem linkRecordEnd_layout (e : AccessEnd) (r : DevReq) : (linkRecordEnd e r s).layout = s.layout := by
  unfold linkRecordEnd installLink postFault; dsimp only; (repeat' split) <;> simp

@[simp] theorem lockFound_layout (ws : List LinkWord) : (lockFound ws s).layout = s.layout := by
  unfold lockFound; split <;> simp

@[simp] theorem lockLost_layout (ws : List LinkWord) : (lockLost ws s).layout = s.layout := by
  unfold lockLost; dsimp only; (repeat' split) <;> simp

@[simp] theorem initArrives_layout (ws : List LinkWord) : (initArrives ws s).layout = s.layout := by
  unfold initArrives; split <;> simp

@[simp] theorem initTimerExpires_layout : (initTimerExpires s).layout = s.layout := by
  unfold initTimerExpires; split <;> rfl

@[simp] theorem syncTimerExpires_layout : (syncTimerExpires s).layout = s.layout := by
  unfold syncTimerExpires; split <;> simp

/-! ### The Transmit Engine -/

@[simp] theorem transmit_layout (f : Frame) (b : Option Buf) : (transmit f b s).layout = s.layout := rfl

@[simp] theorem popCtl_layout : (popCtl s).layout = s.layout := rfl

@[simp] theorem cancelRefetch_layout : (cancelRefetch s).layout = s.layout := by
  unfold cancelRefetch; split <;> simp

@[simp] theorem restOn_layout (x : ReplayEntry) : (restOn x s).layout = s.layout := by
  unfold restOn retryLimitReached requestRefetch haltPass; (repeat' split) <;> simp

@[simp] theorem movePass_layout (x : ReplayEntry) : (movePass x s).layout = s.layout := by
  unfold movePass; dsimp only; split <;> simp

@[simp] theorem startPass_layout (x : ReplayEntry) : (startPass x s).layout = s.layout := by
  simp [startPass]

@[simp] theorem resendFrame_layout : (resendFrame s).layout = s.layout := by
  unfold resendFrame sendAgain advancePass; dsimp only; (repeat' split) <;> simp

@[simp] theorem firstSendFrame_layout : (firstSendFrame s).layout = s.layout := by
  unfold firstSendFrame sendNew; split <;> simp

@[simp] theorem sendInitFrame_layout : (sendInitFrame s).layout = s.layout := by
  unfold sendInitFrame; split <;> rfl

@[simp] theorem sendAckFrame_layout : (sendAckFrame s).layout = s.layout := by
  unfold sendAckFrame; split <;> rfl

@[simp] theorem sendNakFrame_layout : (sendNakFrame s).layout = s.layout := by
  unfold sendNakFrame; split <;> rfl

@[simp] theorem sendCreditFrame_layout : (sendCreditFrame s).layout = s.layout := by
  unfold sendCreditFrame; (repeat' split) <;> simp

@[simp] theorem endSend_layout (how : SendEnd) : (endSend how s).layout = s.layout := by
  unfold endSend reportEnd; (repeat' split) <;> rfl

@[simp] theorem completeEntry_layout (st : ReplayEntry → Status) (x : ReplayEntry) :
    (completeEntry st s x).layout = s.layout := by
  unfold completeEntry; dsimp only; split <;> simp

@[simp] theorem adjustPass_layout : (adjustPass s).layout = s.layout := by
  unfold adjustPass; (repeat' split) <;> simp

@[simp] theorem ackTaken_layout : (ackTaken s).layout = s.layout := by
  unfold ackTaken takeAck coverAck timerAfterRemoval popTransmit
  (repeat' split) <;> simp [layout_foldl (fun s x => completeEntry_layout s _ x)]

@[simp] theorem nakTaken_layout : (nakTaken s).layout = s.layout := by
  unfold nakTaken takeNak coverNak popTransmit; dsimp only; (repeat' split) <;> simp

@[simp] theorem ackArrives_layout (ws : List LinkWord) : (ackArrives ws s).layout = s.layout := by
  unfold ackArrives; split <;> rfl

@[simp] theorem nakArrives_layout (ws : List LinkWord) : (nakArrives ws s).layout = s.layout := by
  unfold nakArrives; split <;> rfl

@[simp] theorem ackTimerTurn_layout : (ackTimerTurn s).layout = s.layout := by
  unfold ackTimerTurn ackTimerExpires expiryPass; dsimp only; (repeat' split) <;> simp

theorem faultRefetch_layout (j : ReadJob) (r : DevReq) : (faultRefetch j r s).layout = s.layout := by
  have h : (removeJob j.buf (postFault j.chan .refetch r.addr s)).layout = s.layout := post_layout s _ _ _ _
  unfold faultRefetch haltPass
  generalize removeJob j.buf (postFault j.chan .refetch r.addr s) = t at h ⊢
  simp [h]

@[simp] theorem endRefetchRead_layout (b : Buf) (e : AccessEnd) (r : DevReq) :
    (endRefetchRead b e r s).layout = s.layout := by
  unfold endRefetchRead; (repeat' split) <;> simp [faultRefetch_layout]

@[simp] theorem transmitReset_layout : (transmitReset s).layout = s.layout := by
  simp [transmitReset, layout_foldl (fun s x => completeEntry_layout s _ x)]

/-! ### The Landing Engine -/

@[simp] theorem reportPostedTimes_layout (c : Chan) (n : Nat) : (reportPostedTimes c n s).layout = s.layout := by
  induction n generalizing s with
  | zero => rfl
  | succ n ih => simp [reportPostedTimes, ih]

@[simp] theorem takeRelease_layout (c : Chan) (i : Nat) (notify : Bool) :
    (takeRelease c i notify s).layout = s.layout := by
  simp [takeRelease]

@[simp] theorem setInState_layout (c : Chan) (i : Nat) (st : InState) : (setInState c i st s).layout = s.layout := rfl

@[simp] theorem askNak_layout : (askNak s).layout = s.layout := by
  unfold askNak; split <;> rfl

@[simp] theorem batchDisposal_layout : (batchDisposal s).layout = s.layout := by
  unfold batchDisposal; dsimp only; split <;> rfl

@[simp] theorem dispose_layout (x : LandEntry) (reason : Option Reason) : (dispose x reason s).layout = s.layout := by
  unfold dispose listRefusal; (repeat' split) <;> simp

@[simp] theorem toPayload_layout (e : LandEntry) (l : Landing) (bursts : List Burst) :
    (toPayload e l bursts s).layout = s.layout := by
  unfold toPayload; split <;> rfl

@[simp] theorem runQueue_layout (q : List LandEntry) : (runQueue q s).layout = s.layout := by
  induction q generalizing s with
  | nil => rfl
  | cons e rest ih => unfold runQueue startLanding; dsimp only; (repeat' split) <;> simp [ih]

@[simp] theorem enqueue_layout (e : LandEntry) : (enqueue e s).layout = s.layout := by
  unfold enqueue; split <;> simp

@[simp] theorem takeData_layout (c : Chan) (q : Seq) (user : Word) (payload : List Byte) :
    (takeData c q user payload s).layout = s.layout := by
  unfold takeData accept; dsimp only; (repeat' split) <;> simp

@[simp] theorem dataTaken_layout : (dataTaken s).layout = s.layout := by
  unfold dataTaken takeArrival popLanding; (repeat' split) <;> simp

@[simp] theorem dataArrives_layout (ws : List LinkWord) : (dataArrives ws s).layout = s.layout := by
  unfold dataArrives; split <;> rfl

@[simp] theorem damaged_layout (ws : List LinkWord) : (damaged ws s).layout = s.layout := by
  unfold damaged takeDamage reportDamage; dsimp only; (repeat' split) <;> simp

@[simp] theorem ackDelayExpires_layout : (ackDelayExpires s).layout = s.layout := by
  unfold ackDelayExpires; split <;> rfl

@[simp] theorem leaveLanding_layout (c : Chan) (i : Nat) : (leaveLanding c i s).layout = s.layout := by
  unfold leaveLanding; (repeat' split) <;> rfl

@[simp] theorem guardTurn_layout : (guardTurn s).layout = s.layout := by
  unfold guardTurn guardExpires; dsimp only; (repeat' split) <;> simp

@[simp] theorem endLandPayload_layout (e : AccessEnd) (r : DevReq) : (endLandPayload e r s).layout = s.layout := by
  unfold endLandPayload; split <;> simp

@[simp] theorem endLandHeader_layout (e : AccessEnd) (r : DevReq) : (endLandHeader e r s).layout = s.layout := by
  unfold endLandHeader toControl setHead; split <;> simp

@[simp] theorem disposeLanding_layout (x : LandEntry) (l : Landing) : (disposeLanding x l s).layout = s.layout := by
  unfold disposeLanding; split <;> simp

@[simp] theorem returnSlot_layout (x : LandEntry) (l : Landing) (st : Status) :
    (returnSlot x l st s).layout = s.layout := by
  unfold returnSlot; dsimp only; (repeat' split) <;> simp

@[simp] theorem discardEntry_layout (e : LandEntry) : (discardEntry s e).layout = s.layout := by
  unfold discardEntry returnPosted; split <;> simp

/-! ### Notices of a link reset, CREDITs, the host port -/

@[simp] theorem captureNotice_layout : (captureNotice s).layout = s.layout := by
  unfold captureNotice; split <;> simp

@[simp] theorem transmitNotice_layout : (transmitNotice s).layout = s.layout := by
  unfold transmitNotice; split <;> simp

@[simp] theorem creditNotice_layout : (creditNotice s).layout = s.layout := by
  unfold creditNotice
  split
  · rfl
  · rw [acknowledge_layout]
    exact layout_cred s _ (CreditUnit.linkReset_gens s.cred)

@[simp] theorem creditTaken_layout : (creditTaken s).layout = s.layout := by
  unfold creditTaken takeCredit popCredit
  dsimp only
  (repeat' split) <;> simp [CreditUnit.onSend]

@[simp] theorem creditArrives_layout (ws : List LinkWord) : (creditArrives ws s).layout = s.layout := by
  unfold creditArrives; split <;> rfl

@[simp] theorem arrive_layout (a : HostAccess) : (arrive a s).layout = s.layout := by
  unfold arrive; split <;> rfl

@[simp] theorem arriveNext_layout : (arriveNext s).layout = s.layout := by
  unfold arriveNext; split <;> simp

@[simp] theorem presentAccess_layout (a : HostAccess) : (presentAccess a s).layout = s.layout := by
  unfold presentAccess leaveSelect; (repeat' split) <;> simp

@[simp] theorem arbitrate_layout : (arbitrate s).layout = s.layout := by
  unfold arbitrate; dsimp only; (repeat' split) <;> rfl

@[simp] theorem hostEnd_layout (e : AccessEnd) : (hostEnd e s).layout = s.layout := by
  unfold hostEnd endTransfer; split <;> simp [endHost]

/-! ### Slot words, and the commands that load and stop nothing -/

@[simp] theorem plainSlotWord_layout (c : Chan) (i off : Nat) (w : RecordWord) :
    (plainSlotWord c i off w s).layout = s.layout := by
  unfold plainSlotWord; split <;> rfl

@[simp] theorem SlotPass.word_layout (c : Chan) (i off : Nat) (w : RecordWord) (p : SlotPass) :
    (p.word c i off w).state.layout = p.state.layout := by
  unfold SlotPass.word SlotPass.violate handover duplicate violation; (repeat' split) <;> simp

@[simp] theorem slotRecordWord_layout (p : SlotPass) (w : RecordWord) :
    (slotRecordWord p w).state.layout = p.state.layout := by
  unfold slotRecordWord; split <;> simp

theorem slotWords_layout (ws : List RecordWord) (p : SlotPass) :
    (ws.foldl slotRecordWord p).state.layout = p.state.layout := by
  induction ws generalizing p with
  | nil => rfl
  | cons w ws ih => rw [List.foldl_cons, ih, slotRecordWord_layout]

@[simp] theorem applySlots_layout (ws : List RecordWord) : (applySlots ws s).layout = s.layout :=
  slotWords_layout ws _

@[simp] theorem startLoad_layout (c : Command) : (startLoad c s).layout = s.layout := by
  unfold startLoad; split <;> simp

@[simp] theorem endDetail_layout (e : AccessEnd) (r : DevReq) : (endDetail e r s).layout = s.layout := by
  unfold endDetail; dsimp only; split <;> simp

end
end Sys2Proof.Machine

namespace Sys2Proof.Machine

/-! ## Generations agree, and channels and event ring stay apart (R34, R37, R128, R163, R173, R174) -/

/-- Installed exactly while the unit is not STOPPED; the size; the producer index below it. -/
structure RingPlace.Legal (p : RingPlace) : Prop where
  installed : p.cfg = none ↔ p.run = .stopped
  sizes : ∀ r, p.cfg = some r → 16 ≤ r.size ∧ r.size ≤ 1024
  index : ∀ r, p.cfg = some r → p.producer < r.size

def Layout.base (l : Layout) : Nat := l.anchor.toNat * 0x1000000

def Layout.cfg? (l : Layout) (c : Chan) : Option ChanCfg := l.chans[c].state.cfg?

/-- The two channels share neither a byte nor a destination. -/
def ChanCfg.apartFrom (x y : ChanCfg) : Prop := x.clearOf y.base y.bytes ∧ (x.dest? = none ∨ x.dest? ≠ y.dest?)

def ChanCfg.apartFromRing (x : ChanCfg) (p : RingPlace) : Prop := ∀ r, p.cfg = some r → x.clearOf r.base (16 * r.size)

structure Layout.Legal (l : Layout) : Prop where
  ring : l.place.Legal
  block : ∀ c x, l.cfg? c = some x → x.clearOf l.base 0x1000
  events : ∀ c x, l.cfg? c = some x → x.apartFromRing l.place
  pairs : ∀ c d x y, l.cfg? c = some x → d ≠ c → l.cfg? d = some y → x.apartFrom y

def Layout.Agrees (l : Layout) : Prop := ∀ c : Chan, l.gens c = l.chans[c].generation

/-- What the laws say of one layout, they say of the other. -/
structure Layout.SafeTo (a b : Layout) : Prop where
  agrees : a.Agrees → b.Agrees
  legal : a.Legal → b.Legal

theorem generationLaw_iff (s : State) : GenerationLaw s ↔ s.layout.Agrees := Iff.rfl

theorem eventRingLaw_iff (s : State) : EventRingLaw s ↔ s.ev.place.Legal := by
  unfold EventRingLaw
  split
  · next r hr =>
    have hp : s.ev.place.cfg = some r := hr
    refine ⟨fun ⟨hrun, h16, h1024, hi⟩ => ⟨by simpa [EventUnit.place, hr] using hrun, ?_, ?_⟩, fun ⟨hn, hs, hi⟩ => ?_⟩
    · simp [hp, h16, h1024]
    · simpa [EventUnit.place, hr] using hi
    · exact ⟨by simpa [EventUnit.place, hr] using hn, (hs r hp).1, (hs r hp).2, hi r hp⟩
  · next hr =>
    have hp : s.ev.place.cfg = none := hr
    exact ⟨fun h => ⟨by simpa [EventUnit.place, hr] using h, by simp [hp], by simp [hp]⟩, fun h => h.installed.mp hp⟩

theorem ringAndAreas_iff (s : State) : EventRingLaw s ∧ AreasLaw s ↔
    (s.resetLow = true → ∀ c, s.layout.cfg? c = none) ∧ s.layout.Legal := by
  constructor
  · rintro ⟨hr, hlow, ha⟩
    exact ⟨hlow, (eventRingLaw_iff s).mp hr, fun c x hc => (ha c x hc).1, fun c x hc => (ha c x hc).2.1,
      fun c d x y hc hn hd => (ha c x hc).2.2 d y hn hd⟩
  · rintro ⟨hlow, hr, hb, he, hp⟩
    exact ⟨(eventRingLaw_iff s).mpr hr, hlow,
      fun c x hc => ⟨hb c x hc, he c x hc, fun d y hn hd => hp c d x y hc hn hd⟩⟩

theorem Layout.SafeTo.refl (a : Layout) : a.SafeTo a := ⟨id, id⟩

theorem Layout.SafeTo.trans {a b c : Layout} (h : a.SafeTo b) (k : b.SafeTo c) : a.SafeTo c :=
  ⟨fun x => k.agrees (h.agrees x), fun x => k.legal (h.legal x)⟩

/-! ### Channels that leave, and the place of the ring -/

def Layout.setState (c : Chan) (st : ChanState) (l : Layout) : Layout :=
  { l with chans := l.chans.set c ⟨st, l.chans[c].generation⟩ }

theorem chans_set (v : Vector Channel 16) (c d : Chan) (x : Channel) :
    (v.set c x)[d] = if d = c then x else v[d] := by
  by_cases h : d = c
  · subst h; simp
  · have hv : (c : Nat) ≠ d := fun hv => h (Fin.ext hv.symm)
    simp [h, hv]

theorem Layout.cfg?_set (l : Layout) (v : Vector Channel 16) (c d : Chan) (x : Channel) (hv : l.chans = v.set c x) :
    l.cfg? d = if d = c then x.state.cfg? else v[d].state.cfg? := by
  rw [Layout.cfg?, hv, chans_set]
  split <;> rfl

/-- A channel that is switched OFF, or keeps its fields, leaves the others as they were. -/
theorem Layout.safeTo_setState (l : Layout) (c : Chan) (st : ChanState)
    (h : ∀ x, st.cfg? = some x → l.cfg? c = some x) : l.SafeTo (l.setState c st) := by
  have sub : ∀ d x, (l.setState c st).cfg? d = some x → l.cfg? d = some x := by
    intro d x hd
    rw [Layout.cfg?_set _ l.chans c d _ rfl] at hd
    split at hd
    · next hdc => subst hdc; exact h x hd
    · exact hd
  refine ⟨fun ha d => ?_, fun ⟨hr, hb, he, hp⟩ => ⟨hr, fun d x hd => hb d x (sub d x hd),
    fun d x hd => he d x (sub d x hd), fun d e x y hd hn hy => hp d e x y (sub d x hd) hn (sub e y hy)⟩⟩
  refine (ha d).trans ?_
  simp only [Layout.setState, chans_set]
  split
  · next hdc => subst hdc; rfl
  · rfl

/-- A ring that goes, or stays where it is, meets nothing new. -/
theorem Layout.safeTo_place (l : Layout) (p : RingPlace) (hl : l.place.Legal → p.Legal)
    (h : p.cfg = none ∨ p.cfg = l.place.cfg) : l.SafeTo { l with place := p } := by
  refine ⟨id, fun ⟨hr, hb, he, hp⟩ => ⟨hl hr, hb, fun c x hc r hpr => ?_, hp⟩⟩
  obtain hn | hs := h
  · simp [hn] at hpr
  · exact he c x hc r (hs ▸ hpr)

section
variable {a : Layout} {s : State}

/-- What leaves the layout is safe. -/
theorem safe_of_eq {t : State} (h : a.SafeTo s.layout) (ht : t.layout = s.layout) : a.SafeTo t.layout := ht ▸ h

/-! ### Stop (R78, R80, R157, R159) -/

theorem setChan_off_safe (c : Chan) (h : a.SafeTo s.layout) : a.SafeTo (setChan c .off s).layout :=
  h.trans (Layout.safeTo_setState _ c .off nofun)

theorem setChan_stopping_safe {c : Chan} {cfg : ChanCfg} (hc : s.wm.chans[c].state = .active cfg)
    (h : a.SafeTo s.layout) : a.SafeTo (setChan c (.stopping cfg) s).layout := by
  refine h.trans (Layout.safeTo_setState _ c _ fun x hx => ?_)
  change s.wm.chans[c].state.cfg? = some x
  rwa [hc]

theorem finishOutDrain_safe (c : Chan) (h : a.SafeTo s.layout) : a.SafeTo (finishOutDrain c s).layout := by
  unfold finishOutDrain
  split
  · exact setChan_off_safe c h
  · exact h

theorem finishInDrain_safe (c : Chan) (h : a.SafeTo s.layout) : a.SafeTo (finishInDrain c s).layout := by
  unfold finishInDrain
  split
  · exact setChan_off_safe c h
  · exact h

theorem stopOutbound_safe {c : Chan} {cfg : ChanCfg} (hc : s.wm.chans[c].state = .active cfg)
    (h : a.SafeTo s.layout) : a.SafeTo (stopOutbound c cfg s).layout := by
  refine finishOutDrain_safe c ?_
  rw [layout_foldl (fun s i => stopSlot_layout s c i), layout_foldl (fun s i => emptyFilling_layout s c i)]
  exact setChan_stopping_safe hc h

theorem stopInbound_safe {c : Chan} {cfg : ChanCfg} (hc : s.wm.chans[c].state = .active cfg)
    (h : a.SafeTo s.layout) : a.SafeTo (stopInbound c cfg s).layout := by
  refine finishInDrain_safe c ?_
  rw [requestCredit_layout]
  exact setChan_stopping_safe hc h

theorem startStop_safe (cmd : Command) (h : a.SafeTo s.layout) : a.SafeTo (startStop cmd s).layout := by
  unfold startStop
  split
  · simpa using h
  · next cfg hc =>
    split
    · exact stopInbound_safe hc h
    · exact stopOutbound_safe hc h
  · exact h

theorem endWbWord0_safe (e : AccessEnd) (r : DevReq) (h : a.SafeTo s.layout) :
    a.SafeTo (endWbWord0 e r s).layout := by
  unfold endWbWord0
  (repeat' split)
  · exact finishOutDrain_safe _ (by simpa using h)
  all_goals exact h

theorem endLandWord0_safe (e : AccessEnd) (r : DevReq) (h : a.SafeTo s.layout) :
    a.SafeTo (endLandWord0 e r s).layout := by
  unfold endLandWord0
  split
  · exact finishInDrain_safe _ (by simpa using h)
  · exact h

theorem finishInDrains_safe (l : List Chan) (h : a.SafeTo s.layout) :
    a.SafeTo (l.foldl (fun s c => finishInDrain c s) s).layout := by
  induction l generalizing s with
  | nil => exact h
  | cons c l ih => exact ih (finishInDrain_safe c h)

theorem landingNotice_safe (h : a.SafeTo s.layout) : a.SafeTo (landingNotice s).layout := by
  unfold landingNotice
  split
  · exact h
  · rw [acknowledge_layout]
    exact finishInDrains_safe _ (safe_of_eq h (layout_foldl discardEntry_layout _ _))

/-! ### The event ring (R163, R170, R173, R174) -/

theorem finishDrain_safe (h : a.SafeTo s.layout) : a.SafeTo (finishDrain s).layout := by
  unfold finishDrain
  split
  · exact h.trans (Layout.safeTo_place _ ⟨.stopped, none, s.ev.producer⟩ (fun _ => ⟨by simp, nofun, nofun⟩) (.inl rfl))
  · exact h

theorem consumerChanged_safe (h : a.SafeTo s.layout) : a.SafeTo (consumerChanged s).layout := by
  refine finishDrain_safe (safe_of_eq h ?_)
  rw [runRing_layout, driveInt_layout]
  split <;> rfl

theorem stopEvents_safe (h : a.SafeTo s.layout) : a.SafeTo (stopEvents s).layout := by
  unfold stopEvents
  split
  · simpa using h
  · next hr =>
    refine finishDrain_safe ?_
    rw [runRing_layout, driveInt_layout]
    refine h.trans (Layout.safeTo_place _ ⟨.draining, s.ev.ringCfg, s.ev.producer⟩ (fun ⟨hn, hs, hi⟩ => ?_) (.inr rfl))
    have hne : s.ev.ringCfg ≠ none := fun hc => RunState.noConfusion (hr.symm.trans (hn.mp hc))
    exact ⟨by simp [hne], hs, hi⟩
  · exact h

/-- The producer moves inside the ring (R169). -/
theorem EventUnit.producerEnd_legal (ev : EventUnit) (h : ev.place.Legal) : ev.producerEnd.place.Legal := by
  obtain ⟨hn, hs, hi⟩ := h
  refine ⟨hn, hs, fun r hr => ?_⟩
  have hc : ev.ringCfg = some r := hr
  have hp : ev.producerEnd.place.producer = (ev.producer + 1) % r.size := by
    simp [EventUnit.place, EventUnit.producerEnd, EventUnit.nextProducer, hc]
  rw [hp]
  exact Nat.mod_lt _ (by have := (hs r hr).1; omega)

theorem afterRing_safe (h : a.SafeTo s.layout) : a.SafeTo (afterRing s).layout :=
  finishDrain_safe (safe_of_eq h (runRing_layout s))

theorem endRingWrite_safe (k : RingKind) (e : AccessEnd) (r : DevReq) (h : a.SafeTo s.layout) :
    a.SafeTo (endRingWrite k e r s).layout := by
  unfold endRingWrite
  split
  · exact afterRing_safe (safe_of_eq h (by simp [State.layout]))
  · exact afterRing_safe (safe_of_eq h (by simp [State.layout]))
  · refine afterRing_safe (h.trans ?_)
    exact Layout.safeTo_place s.layout s.ev.producerEnd.place (EventUnit.producerEnd_legal s.ev) (.inr rfl)
  · simpa using h

/-! ### Activation (R37, R38) -/

theorem ChanCfg.apartFrom.symm {x y : ChanCfg} (h : x.apartFrom y) : y.apartFrom x := by
  obtain ⟨hc, hd⟩ := h
  refine ⟨(rangesMeet_comm _ _ _ _).trans hc, ?_⟩
  obtain hn | hne := hd
  · rw [hn]; exact em _
  · exact .inr hne.symm

def Layout.install (n : Chan) (x : ChanCfg) (g : BitVec 8) (l : Layout) : Layout :=
  { l with chans := l.chans.set n ⟨.active x, g⟩ }

/-- A channel may be installed where its area and its destination are free. -/
theorem Layout.Legal.install {l : Layout} (h : l.Legal) {n : Chan} {x : ChanCfg} {g : BitVec 8}
    (hb : x.clearOf l.base 0x1000) (he : x.apartFromRing l.place)
    (ho : ∀ m y, m ≠ n → l.cfg? m = some y → x.apartFrom y) : (l.install n x g).Legal := by
  have installed : ∀ d y, (l.install n x g).cfg? d = some y → (d = n ∧ x = y) ∨ (d ≠ n ∧ l.cfg? d = some y) := by
    intro d y hd
    rw [Layout.cfg?_set _ l.chans n d _ rfl] at hd
    split at hd
    · next hdn => exact .inl ⟨hdn, Option.some.inj hd⟩
    · next hdn => exact .inr ⟨hdn, hd⟩
  refine ⟨h.ring, fun d y hd => ?_, fun d y hd => ?_, fun c d y z hc hn hd => ?_⟩
  · obtain ⟨-, rfl⟩ | ⟨-, hl⟩ := installed d y hd
    · exact hb
    · exact h.block d y hl
  · obtain ⟨-, rfl⟩ | ⟨-, hl⟩ := installed d y hd
    · exact he
    · exact h.events d y hl
  · obtain ⟨rfl, rfl⟩ | ⟨hcn, hlc⟩ := installed c y hc
    · obtain ⟨rfl, -⟩ | ⟨-, hld⟩ := installed d z hd
      · exact absurd rfl hn
      · exact ho d z hn hld
    · obtain ⟨rfl, rfl⟩ | ⟨-, hld⟩ := installed d z hd
      · exact (ho c y hcn hlc).symm
      · exact h.pairs c d y z hlc hn hld

/-- The checks of R37 find the place of the record free. -/
theorem install_legal_of_check {n : Chan} {x : ChanCfg} (hk : overlapCheck n x s = none) (g : BitVec 8)
    (h : s.layout.Legal) : (s.layout.install n x g).Legal := by
  obtain ⟨⟨hb, hm⟩, hr, hd⟩ := overlapCheck_eq_none.mp hk
  refine h.install (Bool.eq_false_iff.mpr hb) (fun r hc => ?_) fun m y hn hy => ⟨?_, ?_⟩
  · by_contra hmeet
    have hrun : s.ev.run ≠ .stopped := fun hs => by simp [h.ring.installed.mpr hs] at hc
    exact hr ((meetsRing_iff x s.ev).mpr ⟨hrun, r, hc, by simpa [ChanCfg.clearOf] using hmeet⟩)
  · by_contra hmeet
    exact hm m ((meetsOther_iff n x s m).mpr ⟨hn, y, hy, by simpa [ChanCfg.clearOf] using hmeet⟩)
  · by_contra hsame
    obtain ⟨hne, heq⟩ := not_or.mp hsame
    obtain ⟨e, he⟩ := Option.ne_none_iff_exists'.mp hne
    exact hd m ((sharesDest_iff n x s m).mpr ⟨hn, y, e, hy, he, by rw [← not_not.mp heq, he]⟩)

theorem activateOut_safe {n : Chan} {x : ChanCfg} (hk : overlapCheck n x s = none) (h : a.SafeTo s.layout) :
    a.SafeTo (activateOut n x s).layout := by
  refine h.trans ⟨fun ha d => (ha d).trans ?_, install_legal_of_check hk _⟩
  change s.layout.chans[d].generation = (s.layout.chans.set n ⟨.active x, s.layout.chans[n].generation⟩)[d].generation
  rw [chans_set]
  split
  · next hd => rw [hd]
  · rfl

theorem creditLoaded_layout (c : Chan) (g : BitVec 8) (k : Nat) (s : State) : (creditLoaded c g k s).layout =
    { s.layout with gens := fun d => if d = c then g else s.layout.gens d } := by
  rw [creditLoaded, requestCredit_layout]
  simp only [State.layout, Layout.mk.injEq, true_and, and_true]
  exact funext fun d => onRecv_gens_apply c d _ s.cred

theorem activateIn_layout (n : Chan) (x : ChanCfg) (k : Nat) (s : State) : (activateIn n x k s).layout =
    { s.layout.install n x (s.wm.chans[n].generation + 1) with
      gens := fun d => if d = n then s.wm.chans[n].generation + 1 else s.layout.gens d } := by
  rw [activateIn, endCommand_layout, creditLoaded_layout]
  rfl

theorem activateIn_safe {n : Chan} {x : ChanCfg} (k : Nat) (hk : overlapCheck n x s = none)
    (h : a.SafeTo s.layout) : a.SafeTo (activateIn n x k s).layout := by
  rw [activateIn_layout]
  refine h.trans ⟨fun ha d => ?_, fun hl => ?_⟩
  · change _ = (s.layout.chans.set n ⟨.active x, s.wm.chans[n].generation + 1⟩)[d].generation
    rw [chans_set]
    split
    · next hd => exact if_pos hd
    · next hd => exact (if_neg hd).trans (ha d)
  · obtain ⟨hr, hb, he, hp⟩ := install_legal_of_check hk (s.wm.chans[n].generation + 1) hl
    exact ⟨hr, hb, he, hp⟩

theorem endLoad_safe (n : Chan) (e : AccessEnd) (r : DevReq) (h : a.SafeTo s.layout) :
    a.SafeTo (endLoad n e r s).layout := by
  unfold endLoad
  split
  · unfold judgeRecord
    split
    · simpa using h
    · next hk =>
      have hc : overlapCheck n (RecordFields.ofWords (memReadBurst s.mem r.addr r.words.length)).cfg s = none := by
        unfold refuseRecord at hk
        split at hk
        · cases hk
        · exact hk
      unfold activate
      split
      · exact activateOut_safe hc h
      · exact activateIn_safe _ hc h
  · simpa [postFault] using h

/-- A ring that passes the checks of R173 has a legal size and meets no channel. -/
theorem eventsStartCheck_none {wm : Matcher} {b n : Word} (hk : eventsStartCheck wm b n = none) :
    (16 ≤ n.toNat ∧ n.toNat ≤ 1024) ∧ ∀ c x, wm.cfg? c = some x → x.clearOf b.toNat (16 * n.toNat) := by
  rw [eventsStartCheck_eq] at hk
  split at hk; · cases hk
  split at hk; · cases hk
  next hsize =>
  split at hk; · cases hk
  split at hk; · cases hk
  next hmeet =>
  refine ⟨by omega, fun c x hc => ?_⟩
  refine Bool.eq_false_iff.mpr fun h => hmeet ⟨c, x, hc, ?_⟩
  rwa [rangesMeet_comm]

theorem installRing_safe {b n : Word} (hk : eventsStartCheck s.wm b n = none) (h : a.SafeTo s.layout) :
    a.SafeTo (installRing b n s).layout := by
  obtain ⟨⟨h16, h1024⟩, hclear⟩ := eventsStartCheck_none hk
  have hl : (installRing b n s).layout = { s.layout with place := ⟨.running, some ⟨b.toNat, n.toNat⟩, 0⟩ } := by
    rw [installRing_eq]
    rfl
  rw [hl]
  refine h.trans ⟨id, fun ⟨_, hb, _, hp⟩ => ⟨⟨by simp, ?_, ?_⟩, hb, fun c x hc r hr => ?_, hp⟩⟩
  · rintro r ⟨⟩; exact ⟨h16, h1024⟩
  · rintro r ⟨⟩; exact Nat.lt_of_lt_of_le (Nat.zero_lt_succ 15) h16
  · cases hr; exact hclear c x hc

theorem startEvents_safe (cmd : Command) (h : a.SafeTo s.layout) : a.SafeTo (startEvents cmd s).layout := by
  unfold startEvents
  split
  · split
    · simpa using h
    · next hk =>
      exact installRing_safe hk h
  · simpa using h
  · simpa using h

/-! ### Commands, records and device ends -/

theorem execute_safe (cmd : Command) (h : a.SafeTo s.layout) : a.SafeTo (execute cmd s).layout := by
  have hs : a.SafeTo { s with cmd := { s.cmd with executing := some ⟨cmd, .running⟩ } : State }.layout := by
    simpa using h
  unfold execute startCommand
  split
  case h_2 => simpa using h
  case h_3 => exact startStop_safe cmd hs
  case h_6 => exact startEvents_safe cmd hs
  case h_7 => exact stopEvents_safe hs
  all_goals simpa using h

theorem endResponse_safe (e : AccessEnd) (r : DevReq) (h : a.SafeTo s.layout) :
    a.SafeTo (endResponse e r s).layout := by
  unfold endResponse
  dsimp only
  split
  · exact execute_safe _ (by simpa using h)
  · simpa using h

theorem commandArrival_safe (cmd : Command) (h : a.SafeTo s.layout) : a.SafeTo (commandArrival cmd s).layout := by
  unfold commandArrival
  split
  · exact execute_safe cmd h
  · simpa using h
  · simpa using h

theorem latchRecordWord_safe (w : RecordWord) (h : a.SafeTo s.layout) : a.SafeTo (latchRecordWord s w).layout := by
  unfold latchRecordWord
  split
  · next k hk =>
    have hs : a.SafeTo { s with wm := s.wm.latch k w.be w.data : State }.layout :=
      safe_of_eq h (by cases k <;> rfl)
    unfold afterLatch
    split
    · split
      · exact hs
      · exact consumerChanged_safe hs
    · simpa using hs
    all_goals exact hs
  all_goals exact h

theorem applyLatches_safe (ws : List RecordWord) (h : a.SafeTo s.layout) : a.SafeTo (applyLatches ws s).layout := by
  induction ws generalizing s with
  | nil => exact h
  | cons w ws ih => exact ih (latchRecordWord_safe w h)

theorem applyRecord_safe (r : WriteRecord) (h : a.SafeTo s.layout) : a.SafeTo (applyRecord r s).layout := by
  have hs : a.SafeTo (applySlots r.words (applyLatches r.words s)).layout := by
    rw [applySlots_layout]; exact applyLatches_safe _ h
  unfold applyRecord applyCommand
  split
  · split
    · exact commandArrival_safe _ hs
    · exact hs
  · exact h

theorem takeRecord_safe (mine : Matcher → WriteRecord → Bool) (s : State) :
    s.layout.SafeTo (takeRecord mine s).layout := by
  unfold takeRecord
  split
  · split
    · rw [arriveNext_layout]
      exact applyRecord_safe _ (.refl _)
    · exact .refl _
  all_goals exact .refl _

theorem ownerGoesOn_safe (e : AccessEnd) (r : DevReq) (h : a.SafeTo s.layout) :
    a.SafeTo (ownerGoesOn e r s).layout := by
  unfold ownerGoesOn
  split
  case h_3 => exact endLandWord0_safe e r h
  case h_7 => exact endWbWord0_safe e r h
  case h_9 => exact endResponse_safe e r h
  case h_10 => exact endRingWrite_safe _ e r h
  case h_13 => exact endLoad_safe _ e r h
  all_goals simpa using h

theorem deviceEnd_safe (mine : Purpose → Bool) (e : AccessEnd) (s : State) :
    s.layout.SafeTo (deviceEnd mine e s).layout := by
  unfold deviceEnd atDeviceEnd
  split
  · split
    · exact ownerGoesOn_safe e _ (.refl _)
    · exact .refl _
  all_goals exact .refl _

theorem responseTimeout_safe (kept : List Bool) (answered : List Word) (s : State) :
    s.layout.SafeTo (responseTimeout kept answered s).layout := by
  unfold responseTimeout
  (repeat' split)
  · exact safe_of_eq (.refl _) (by simp [endTransfer, endHost])
  · exact deviceEnd_safe _ _ s
  all_goals exact .refl _

end

/-! ### Every step -/

theorem safe_live {f : State → State} {s t : State} (hf : s.layout.SafeTo (f s).layout) (h : live f s = .next t) :
    s.layout.SafeTo t.layout := by
  cases h
  split
  · exact .refl _
  · exact hf

theorem safe_unit {f : State → State} {s t : State} (hf : (f s).layout = s.layout) (h : live f s = .next t) :
    s.layout.SafeTo t.layout := safe_live (hf ▸ .refl _) h

/-- While RESET_N is high, only PIN_RESET is outside the two laws. -/
theorem exec_safe {c : Instr} {s t : State} (hon : s.on) (hp : ∀ kept, c ≠ .pinReset kept) (h : exec c s = .next t) :
    s.layout.SafeTo t.layout := by
  cases c with
  | pinReset kept => exact absurd rfl (hp kept)
  | resetNRelease straps =>
    cases h
    rw [if_neg (by simp [show s.resetLow = false from hon])]
    exact .refl _
  | hostReadArrival addr enables =>
    simp only [exec, execHostReadArrival] at h
    split at h <;> cases h
    simpa using Layout.SafeTo.refl s.layout
  | hostWriteArrival addr words =>
    simp only [exec, execHostWriteArrival] at h
    split at h <;> cases h
    simpa using Layout.SafeTo.refl s.layout
  | memoryResponseTimeout kept answered => exact safe_live (responseTimeout_safe kept answered s) h
  | completedWriteRecord | argumentWordWrite | consumerIndexWrite | interruptControlWrite | echo | loadChannel
  | stopChannel | linkEnable | linkDisable | eventsStart | eventsStop | snapshot | badCommand =>
    exact safe_live (takeRecord_safe _ s) h
  | responseDetailWriteEnd e | responseWordWriteEnd e | channelRecordReadEnd e | linkRecordReadEnd e
  | stagingReadEnd e | refetchReadEnd e | writebackHeaderBurstEnd e | writebackWord0End e | linkStatusWriteEnd e
  | landingPayloadWriteEnd e | landingHeaderWriteEnd e | landingWord0WriteEnd e | eventRecordWriteEnd e
  | eventsLostWriteEnd e | producerWriteEnd e | startProducerWriteEnd e | snapshotBurstEnd e =>
    exact safe_live (deviceEnd_safe _ e s) h
  | landingLinkReset => exact safe_live (landingNotice_safe (.refl _)) h
  | ackReceived how | nakReceived how | dataReceived how | creditReceived how =>
    cases how <;> exact safe_unit (by simp) h
  | _ => exact safe_unit (by simp) h

/-- RESET_N stays high but for PIN_RESET. -/
theorem exec_on {c : Instr} {s t : State} (hon : s.on) (hp : ∀ kept, c ≠ .pinReset kept) (h : exec c s = .next t) :
    t.on := by
  have outer {u v : State} (hu : u.outer = v.outer) (hv : v.on) : u.on := (congrArg Outer.resetLow hu).trans hv
  cases exec_effect h with
  | stays => exact hon
  | reset kept hc => exact absurd hc (hp kept)
  | released => exact (congrArg Outer.resetLow (arriveNext_outer _)).trans rfl
  | hostEnds => exact (congrArg Outer.resetLow (arriveNext_outer _)).trans hon
  | presents a => exact (presentAccess_resetLow s a).trans hon
  | grantsHost | grantsDevice => exact hon
  | deviceEnds r e => exact outer (ownerGoesOn_outer e r _) hon
  | takes r => exact (congrArg Outer.resetLow (arriveNext_outer _)).trans (outer (applyRecord_outer r _) hon)
  | inner t ho => exact outer ho hon

/-- What a step does to the layout: PIN_RESET empties it; while RESET_N is high every other step is safe, and
while it is low a step can only sample the anchor. -/
def LayoutStep (s t : State) : Prop :=
  t.layout = State.reset.layout ∨ (t.on ∧ s.layout.SafeTo t.layout)
    ∨ (s.resetLow = true ∧ ∃ anchor, t.layout = { s.layout with anchor := anchor })

theorem exec_layout {c : Instr} {s t : State} (h : exec c s = .next t) : LayoutStep s t := by
  by_cases hp : ∃ kept, c = .pinReset kept
  · obtain ⟨kept, rfl⟩ := hp
    cases h
    exact .inl rfl
  have hp : ∀ kept, c ≠ .pinReset kept := fun kept hc => hp ⟨kept, hc⟩
  by_cases hon : s.on
  · exact .inr (.inl ⟨exec_on hon hp h, exec_safe hon hp h⟩)
  have low : s.resetLow = true := by simpa [State.on] using hon
  refine .inr (.inr ⟨low, ?_⟩)
  cases c with
  | resetNRelease straps =>
    rw [exec_resetNRelease_low straps s low] at h
    cases h
    exact ⟨straps, by rw [arriveNext_layout]; rfl⟩
  | hostReadArrival addr enables =>
    simp only [exec, execHostReadArrival] at h
    split at h <;> cases h
    exact ⟨_, presentAccess_layout s _⟩
  | hostWriteArrival addr words =>
    simp only [exec, execHostWriteArrival] at h
    split at h <;> cases h
    exact ⟨_, presentAccess_layout s _⟩
  | _ =>
    rw [exec_low _ s low hp nofun nofun nofun] at h
    cases h
    exact ⟨_, rfl⟩

/-- An empty layout meets no control block, wherever the anchor is. -/
theorem Layout.Legal.anchored {l : Layout} (h : l.Legal) (hn : ∀ c, l.cfg? c = none) (anchor : BitVec 4) :
    { l with anchor := anchor : Layout }.Legal :=
  ⟨h.ring, fun c _ hc => absurd ((hn c).symm.trans hc) nofun, h.events, h.pairs⟩

theorem tick_layoutStep (s : State) : LayoutStep s (tick s) := by
  unfold tick
  split
  · cases hr : s.resetLow
    · exact .inr (.inl ⟨hr, .refl _⟩)
    · exact .inr (.inr ⟨hr, _, rfl⟩)
  · next hr => exact .inr (.inl ⟨by simp_all [State.on], safe_of_eq (.refl _) (by simp)⟩)

theorem step_layout {s t : State} (h : step s = .next t) : LayoutStep s t := by
  unfold step at h
  split at h
  · cases h; exact tick_layoutStep s
  · exact (exec_layout h : LayoutStep (s.withQueue _) t)

/-- Settles O60: both laws speak of the layout, and every operation that changes it is safe. -/
theorem channelsStayApart : Obligations.ChannelsStayApart := by
  obtain ⟨-, -, -, -, -, -, -, -, -, -, -, generation, ring, areas, -, -⟩ := lawsAtReset
  refine ⟨fun s t hs h => ?_, fun s t hs h => ?_⟩
  · rw [generationLaw_iff] at hs ⊢
    obtain hl | ⟨-, hl⟩ | ⟨-, anchor, hl⟩ := step_layout h
    · exact hl ▸ generation
    · exact hl.agrees hs
    · exact hl ▸ hs
  · obtain ⟨hlow, hs⟩ := (ringAndAreas_iff s).mp hs
    refine (ringAndAreas_iff t).mpr ?_
    obtain hl | ⟨hon, hl⟩ | ⟨low, anchor, hl⟩ := step_layout h
    · exact hl ▸ ⟨fun _ => reset_cfg_none, ((ringAndAreas_iff State.reset).mp ⟨ring, areas⟩).2⟩
    · exact ⟨fun ht => Bool.noConfusion (hon.symm.trans ht), hl.legal hs⟩
    · exact hl ▸ ⟨fun _ => hlow low, hs.anchored (hlow low) anchor⟩

end Sys2Proof.Machine

namespace Sys2Proof.Machine

/-! ## The end of the table read of LOAD_CHANNEL (R33, R35, R38, R54, R132, R141) -/

/-- The four words of the record (R33). -/
theorem ofWords_burst (m : List Host.Cell) (a : Nat) : RecordFields.ofWords (memReadBurst m a 8) =
    ⟨memReadWord m a, memReadWord m ((a + 4) % 268435456), memReadWord m ((a + 8) % 268435456),
      memReadWord m ((a + 12) % 268435456)⟩ := by
  simp [RecordFields.ofWords, memReadBurst, nextWord, Config.memorySize, Nat.mod_add_mod, Nat.add_assoc]

theorem direction_eq (f : RecordFields) : f.direction = f.w0.toNat % 4 := by simp [RecordFields.direction, bits]

theorem cfg_dir_inbound {f : RecordFields} (h : f.w0.toNat % 4 = 2) :
    f.cfg.dir = .inbound (f.w3.toNat % 256) (f.w3.toNat / 2 ^ 16 % 512) := by
  rw [RecordFields.cfg, if_pos ((direction_eq f).trans h)]
  simp [bits, RecordFields.posted]

theorem cfg_dir_outbound {f : RecordFields} (h : f.w0.toNat % 4 ≠ 2) :
    f.cfg.dir = .outbound (Fin.ofNat 16 (f.w2.toNat % 16)) (f.w2.getLsbD 8) := by
  rw [RecordFields.cfg, if_neg (direction_eq f ▸ h)]
  simp [bits, chanOfBits]

theorem refuseRecord_geometry {n : Chan} {f : RecordFields} {s : State} {k : Nat} (h : f.geometry = some k) :
    refuseRecord n f s = some (.badGeometry, BitVec.ofNat 32 k) := by
  simp only [refuseRecord, h]

theorem refuseRecord_overlap {n : Chan} {f : RecordFields} {s : State} (h : f.geometry = none) :
    refuseRecord n f s = overlapCheck n f.cfg s := by
  simp only [refuseRecord, h]

theorem judgeRecord_refused {n : Chan} {f : RecordFields} {s : State} {r : Result} {d : Word}
    (h : refuseRecord n f s = some (r, d)) : judgeRecord n f s = endCommand r d s := by
  simp only [judgeRecord, h]

theorem judgeRecord_passes {n : Chan} {f : RecordFields} {s : State} (h : refuseRecord n f s = none) :
    judgeRecord n f s = activate n f.cfg s := by
  simp only [judgeRecord, h]

theorem activate_outbound {n : Chan} {cfg : ChanCfg} {s : State} {d : Chan} {on : Bool} (h : cfg.dir = .outbound d on) :
    activate n cfg s = activateOut n cfg s := by
  simp only [activate, h]

theorem activate_inbound {n : Chan} {cfg : ChanCfg} {s : State} {g k : Nat} (h : cfg.dir = .inbound g k) :
    activate n cfg s = activateIn n cfg k s := by
  simp only [activate, h]

section
variable {s : State} {n : Chan} {r : DevReq}

/-- The row, with the table read in progress. -/
theorem exec_channelRecordReadEnd (e : AccessEnd) (h : s.serves (.channelRecord n) r) :
    exec (.channelRecordReadEnd e) s = .next (endLoad n e r (endDevice r e s)) := by
  refine (deviceEnd_serves _ _ e s r h rfl).trans ?_
  obtain ⟨-, -, hp⟩ := h
  simp only [ownerGoesOn, hp]

/-- A read leaves memory, so the record judged is the one in memory at the end of the read. -/
theorem endLoad_ok (hw : r.write = false) : endLoad n .ok r (endDevice r .ok s) =
    judgeRecord n (RecordFields.ofWords (memReadBurst s.mem r.addr r.words.length)) (endDevice r .ok s) := by
  simp [endLoad, accessOk, memAfter, hw]

end

/-- Settles O21. -/
theorem channelRecordReadEnds : Obligations.ChannelRecordReadEnds := by
  refine ⟨ofWords_burst, fun f => ⟨rfl, rfl, rfl, cfg_dir_inbound, cfg_dir_outbound⟩, fun s n r hs hw =>
    ⟨fun kept data => exec_channelRecordReadEnd _ hs, ?_⟩⟩
  have ends : exec (.channelRecordReadEnd .ok) s = .next (judgeRecord n
      (RecordFields.ofWords (memReadBurst s.mem r.addr r.words.length)) (endDevice r .ok s)) :=
    (exec_channelRecordReadEnd .ok hs).trans (congrArg _ (endLoad_ok hw))
  refine ⟨fun k hk => ?_, fun res d hg ho => ?_, fun hg ho => ⟨fun d on hdir => ?_, fun g0 k hdir => ?_⟩⟩
  · rw [ends, judgeRecord_refused (refuseRecord_geometry hk)]
  · rw [ends, judgeRecord_refused ((refuseRecord_overlap hg).trans ho)]
  · rw [ends, judgeRecord_passes ((refuseRecord_overlap hg).trans ho), activate_outbound hdir]
    rfl
  · rw [ends, judgeRecord_passes ((refuseRecord_overlap hg).trans ho), activate_inbound hdir]
    rfl

end Sys2Proof.Machine

namespace Sys2Proof.Machine

/-! ## Slot words (R44, R45, R47 to R52) -/

theorem qualifies_iff (w : RecordWord) : w.qualifies = true ↔ w.be = 15#4 ∧ w.data.getLsbD 31 = true := by
  simp [RecordWord.qualifies]

/-! ### A word of a slot, by its class -/

section
variable {p : SlotPass} {w : RecordWord} {c : Chan} {i off : Nat}

theorem slotRecordWord_slot
    (h : p.state.wm.classify w.addr = (if off = 0 then WordClass.header0 c i else WordClass.slot c i off)) :
    slotRecordWord p w = p.word c i off w := by
  unfold slotRecordWord
  rw [h]
  by_cases ho : off = 0
  · subst ho; rfl
  · rw [if_neg ho]

/-- A handover of a host-owned slot (R48). -/
theorem word_handover (hq : w.qualifies = true) (hb : w.be ≠ 0#4) (ho : hostOwns c i p.state = true) :
    p.word c i 0 w = { p with state := handover c i w.data p.state } := by
  simp [SlotPass.word, hb, hq, ho]

/-- A duplicate (R49). -/
theorem word_duplicate (hq : w.qualifies = true) (hb : w.be ≠ 0#4) (ho : hostOwns c i p.state = false) :
    p.word c i 0 w = { p with state := duplicate c i p.state } := by
  simp [SlotPass.word, hb, hq, ho]

/-- Any other word on a host-owned slot (R50). -/
theorem word_plain (hq : ¬ (off = 0 ∧ w.qualifies = true)) (hb : w.be ≠ 0#4) (ho : hostOwns c i p.state = true) :
    p.word c i off w = { p with state := plainSlotWord c i off w p.state } := by
  rw [SlotPass.word, if_neg hb, if_neg hq, if_pos ho]

/-- Any other word on a device-owned slot (R52). -/
theorem word_violates (hq : ¬ (off = 0 ∧ w.qualifies = true)) (hb : w.be ≠ 0#4) (ho : hostOwns c i p.state = false) :
    p.word c i off w = p.violate c i off := by
  rw [SlotPass.word, if_neg hb, if_neg hq, if_neg (by simp [ho])]

theorem writesSlot_not_control {s : State} (h : s.writesSlot w c i off) (k : ControlWord) :
    w.addr ≠ s.wm.base + k.offset := by
  intro hk
  have hclass := h.2.symm.trans (classify_eq_control.mpr hk)
  split at hclass <;> cases hclass

end

/-! ### A record of one slot word -/

section
variable {s : State} {w : RecordWord} {c : Chan} {i off : Nat}

theorem applySlots_word (h : s.writesSlot w c i off) : applySlots [w] s = (SlotPass.word c i off w ⟨s, []⟩).state :=
  congrArg SlotPass.state (slotRecordWord_slot h.2)

/-- A slot word updates no latch and is no command (R22, R23). -/
theorem applyRecord_slotWord {a : Nat} (h : s.writesSlot w c i off) :
    applyRecord ⟨a, [w], true⟩ s = applySlots [w] s := by
  have hn := writesSlot_not_control h
  have latches : applyLatches [w] s = s := latchRecordWord_other hn
  have base : (applySlots [w] s).wm.base = s.wm.base := by
    have anchor : (applySlots [w] s).wm.anchor = s.wm.anchor := congrArg Layout.anchor (applySlots_layout s _)
    rw [Matcher.base, anchor, Matcher.base]
  have command : (⟨a, [w], true⟩ : WriteRecord).command? (applySlots [w] s).wm = none := by
    refine command?_none _ _ fun v hv hc => ?_
    obtain rfl := List.mem_singleton.mp hv
    exact hn .command (by simpa [ControlWord.offset] using hc.1.trans base)
  simp only [applyRecord, latches, applyCommand, command, if_true]

theorem exec_slotWord (h : s.slotWrite w c i off) : exec .completedWriteRecord s =
    .next (arriveNext (SlotPass.word c i off w ⟨{ s with host := .idle }, []⟩).state) := by
  obtain ⟨hb, ⟨a, hon, hh, -⟩, hc⟩ := h
  have writes : State.writesSlot { s with host := .idle } w c i off := ⟨hb, hc⟩
  rw [exec_completedWriteRecord s hon, ← applySlots_word writes, ← applyRecord_slotWord writes (a := a)]
  simp only [takeRecord, hh, if_true]

end

/-! ## Commits (R48, R54, R56 to R58, R63, R79) -/

theorem freeze_unbound {u : CaptureUnit} {c : Chan} {i : Nat} (h : ∀ x, u.slot? c i = some x → x.buf = none) :
    u.freeze c i = u := by
  have hn : (u.slot? c i).bind (·.buf) = none := Option.bind_eq_none_iff.mpr h
  simp only [CaptureUnit.freeze, hn]

theorem freeze_bound {u : CaptureUnit} {c : Chan} {i : Nat} {x : OutSlot} {b : Buf} (hx : u.slot? c i = some x)
    (hb : x.buf = some b) : u.freeze c i = u.onBuf b (fun x => { x with state := .frozen }) := by
  simp only [CaptureUnit.freeze, hx, Option.bind_some, hb]

/-- A commit by the channel's state: rejected or accepted on an ACTIVE channel, completed STOPPED on a STOPPING one. -/
theorem takeCommit_eq (c : Chan) (i len : Nat) (notify : Bool) (s : State) : takeCommit c i len notify s =
    let t := s.committing c i len notify
    match s.wm.chans[c].state with
    | .active cfg =>
      if len = 0 ∨ cfg.capacity < len then
        completeSlot c i .badLength none (post .commitRejected c (BitVec.ofNat 32 i) (BitVec.ofNat 32 len) t)
      else settleClosed c { t with cap := (t.cap.freeze c i).onRing c (OutRing.accept i) }
    | .stopping _ => completeSlot c i .stopped none t
    | .off => t := rfl

/-- A full-word write of header word 0 with owner 1 is the commit. -/
theorem exec_commit {s : State} {w : RecordWord} {c : Chan} {i : Nat} (h : s.slotWrite w c i 0) (hb : w.be = 15#4)
    (ho : w.data.getLsbD 31 = true) (hi : s.wm.isInbound c = false) (hh : hostOwns c i s = true) :
    exec .completedWriteRecord s = .next (arriveNext
      (takeCommit c i (w.data.toNat % 1024) (w.data.getLsbD 15) { s with host := .idle })) := by
  rw [exec_slotWord h, word_handover ((qualifies_iff w).mpr ⟨hb, ho⟩) h.1 hh]
  simp [handover, hi, bits]

/-- Settles O22. -/
theorem commitTaken : Obligations.CommitTaken := by
  refine ⟨fun u c i => ⟨freeze_unbound, fun x b hx hb => freeze_bound hx hb⟩, fun s w c i h hb ho hi hh =>
    ⟨fun cfg ha hl => ?_, fun cfg ha h0 hl => ?_, fun cfg hs => ?_⟩⟩
  · rw [exec_commit h hb ho hi hh, takeCommit_eq]
    simp only [ha, if_pos hl]
  · rw [exec_commit h hb ho hi hh, takeCommit_eq]
    have hn : ¬ (w.data.toNat % 1024 = 0 ∨ cfg.capacity < w.data.toNat % 1024) := by omega
    simp only [ha, if_neg hn]
  · rw [exec_commit h hb ho hi hh, takeCommit_eq]
    simp only [hs]

end Sys2Proof.Machine

namespace Sys2Proof.Machine

/-! ## Ownership and class of a word (R42, R44, R45) -/

theorem InState.hostOwned_iff (x : InState) : x.hostOwned = true ↔ x = .host := by
  cases x <;> simp [InState.hostOwned]

theorem OutState.hostOwned_iff (x : OutState) : x.hostOwned = true ↔ x = .open ∨ x = .filling := by
  cases x <;> simp [OutState.hostOwned]

theorem hostOwns_inbound {s : State} {c : Chan} (i : Nat) (h : s.wm.isInbound c = true) :
    hostOwns c i s = true ↔ ∃ x, s.land.slot? c i = some x ∧ x.state = .host := by
  rw [hostOwns, if_pos h]
  cases s.land.slot? c i <;> simp [InState.hostOwned_iff]

theorem hostOwns_outbound {s : State} {c : Chan} (i : Nat) (h : s.wm.isInbound c = false) :
    hostOwns c i s = true ↔ ∃ x, s.cap.slot? c i = some x ∧ (x.state = .open ∨ x.state = .filling) := by
  rw [hostOwns, if_neg (by simp [h])]
  cases s.cap.slot? c i <;> simp [OutState.hostOwned_iff]

theorem hostOwns_iff (s : State) (c : Chan) (i : Nat) : hostOwns c i s = true ↔
    (s.wm.isInbound c = true ∧ ∃ x, s.land.slot? c i = some x ∧ x.state = .host)
    ∨ (s.wm.isInbound c = false ∧ ∃ x, s.cap.slot? c i = some x ∧ (x.state = .open ∨ x.state = .filling)) := by
  cases h : s.wm.isInbound c
  · simp [hostOwns_outbound i h]
  · simp [hostOwns_inbound i h]

/-- Channel `c` is not OFF, with the fields `k`, and its area contains the address. -/
def Matcher.inArea (m : Matcher) (a : Nat) (c : Chan) (k : ChanCfg) : Prop :=
  m.cfg? c = some k ∧ k.base ≤ a ∧ a < k.base + k.size * k.count

theorem contains_iff (k : ChanCfg) (a : Nat) : k.contains a = true ↔ k.base ≤ a ∧ a < k.base + k.size * k.count := by
  rw [ChanCfg.contains, Bool.and_eq_true, decide_eq_true_iff, decide_eq_true_iff, ChanCfg.bytes]

section
variable {m : Matcher} {a : Nat}

/-- The lowest channel's area, of areas that meet. -/
theorem owner?_lowest {c : Chan} {k : ChanCfg} (h : m.inArea a c k) (hl : ∀ d l, d < c → ¬ m.inArea a d l) :
    m.owner? a = some (c, k) := by
  rw [Matcher.owner?, allChans_split c]
  refine findSome_first _ c (c, k) _ _ (fun d hd => ?_) ?_
  · split
    · next l hc =>
      rw [if_neg fun hk => hl d l (lt_of_mem_take c d hd) ⟨hc, (contains_iff l a).mp hk⟩]
    · rfl
  · simp only [h.1, (contains_iff k a).mpr h.2, if_true]

theorem owner?_none (h : ∀ c k, ¬ m.inArea a c k) : m.owner? a = none := by
  refine List.findSome?_eq_none_iff.mpr fun c _ => ?_
  split
  · next k hc => rw [if_neg fun hk => h c k ⟨hc, (contains_iff k a).mp hk⟩]
  · rfl

theorem control?_none (h : ∀ k : ControlWord, a ≠ m.base + k.offset) : m.control? a = none :=
  Option.eq_none_iff_forall_ne_some.mpr fun k hk => h k (control?_eq_some.mp hk)

theorem classify_area {c : Chan} {k : ChanCfg} (hn : ∀ k : ControlWord, a ≠ m.base + k.offset)
    (h : m.owner? a = some (c, k)) : m.classify a =
      if k.wordOffset a = 0 then .header0 c (k.slotIndex a) else .slot c (k.slotIndex a) (k.wordOffset a) := by
  simp only [Matcher.classify, control?_none hn, h]

theorem classify_plain (hn : ∀ k : ControlWord, a ≠ m.base + k.offset) (h : m.owner? a = none) :
    m.classify a = .plain := by
  simp only [Matcher.classify, control?_none hn, h]

/-- A word at offset 0 is of class HEADER0, not SLOT. -/
theorem classify_slot_ne_zero {c : Chan} {i off : Nat} (h : m.classify a = .slot c i off) : off ≠ 0 := by
  unfold Matcher.classify at h
  split at h
  · cases h
  · split at h
    · split at h
      · cases h
      · next hn => cases h; exact hn
    · cases h

end

/-! ## Records of several words (R47, R52) -/

section
variable {t : State} {w : RecordWord} {c d : Chan} {i j off n : Nat} {seen : List (Chan × Nat)}

theorem violates_iff : t.violates w c i ↔
    hostOwns c i t = false ∧ ∃ off, t.writesSlot w c i off ∧ ¬ (off = 0 ∧ w.qualifies = true) := by
  simp only [State.violates, qualifies_iff]

/-- A word writes one slot at most. -/
theorem writesSlot_unique (h : t.writesSlot w c i off) (k : t.writesSlot w d j n) : (c, i, off) = (d, j, n) := by
  have hc := h.2.symm.trans k.2
  split at hc <;> split at hc <;> cases hc
  · next h0 k0 => rw [h0, k0]
  · rfl

theorem slotRecordWord_writes (h : t.writesSlot w c i off) :
    slotRecordWord ⟨t, seen⟩ w = SlotPass.word c i off w ⟨t, seen⟩ := slotRecordWord_slot h.2

/-- A word that writes no slot has no effect. -/
theorem slotRecordWord_writes_none (h : ∀ c i off, ¬ t.writesSlot w c i off) :
    slotRecordWord ⟨t, seen⟩ w = ⟨t, seen⟩ := by
  unfold slotRecordWord
  split
  · next c i hc =>
    have hb : w.be = 0#4 := by_contra fun hb => h c i 0 ⟨hb, hc⟩
    exact if_pos hb
  · next c i off hc =>
    have hb : w.be = 0#4 := by_contra fun hb => h c i off ⟨hb, by rw [if_neg (classify_slot_ne_zero hc)]; exact hc⟩
    exact if_pos hb
  all_goals rfl

/-- A violation is the slot's, whatever has been recorded before. -/
theorem slotRecordWord_violates (h : t.violates w c i) :
    ∃ off, ∀ seen, slotRecordWord ⟨t, seen⟩ w = SlotPass.violate c i off ⟨t, seen⟩ := by
  obtain ⟨ho, off, hw, hq⟩ := violates_iff.mp h
  exact ⟨off, fun seen => (slotRecordWord_writes hw).trans (word_violates hq hw.1 ho)⟩

/-- Any other word has the effect that it has alone. -/
theorem slotRecordWord_obeys (h : ∀ c i, ¬ t.violates w c i) :
    slotRecordWord ⟨t, seen⟩ w = ⟨applySlots [w] t, seen⟩ := by
  by_cases hw : ∃ c i off, t.writesSlot w c i off
  · obtain ⟨c, i, off, hw⟩ := hw
    rw [applySlots_word hw, slotRecordWord_writes hw]
    by_cases hq : off = 0 ∧ w.qualifies = true
    · obtain ⟨rfl, hq⟩ := hq
      cases ho : hostOwns c i t
      · rw [word_duplicate hq hw.1 ho, word_duplicate hq hw.1 ho]
      · rw [word_handover hq hw.1 ho, word_handover hq hw.1 ho]
    · cases ho : hostOwns c i t
      · exact absurd (violates_iff.mpr ⟨ho, off, hw, hq⟩) (h c i)
      · rw [word_plain hq hw.1 ho, word_plain hq hw.1 ho]
  · have hn : ∀ c i off, ¬ t.writesSlot w c i off := fun c i off hc => hw ⟨c, i, off, hc⟩
    have alone : applySlots [w] t = t := congrArg SlotPass.state (slotRecordWord_writes_none hn)
    rw [slotRecordWord_writes_none hn, alone]

theorem violates_unique (h : t.violates w c i) (k : t.violates w d j) : (c, i) = (d, j) := by
  obtain ⟨-, off, hw, -⟩ := h
  obtain ⟨-, n, kw, -⟩ := k
  cases writesSlot_unique hw kw
  rfl

/-- The slots seen are those with a violation. -/
theorem mem_seen_slotRecordWord :
    (c, i) ∈ (slotRecordWord ⟨t, seen⟩ w).seen ↔ (c, i) ∈ seen ∨ t.violates w c i := by
  by_cases hv : ∃ d j, t.violates w d j
  · obtain ⟨d, j, hv⟩ := hv
    obtain ⟨off, hw⟩ := slotRecordWord_violates hv
    have only : t.violates w c i ↔ (c, i) = (d, j) :=
      ⟨fun h => violates_unique h hv, fun h => by cases h; exact hv⟩
    rw [hw, only, SlotPass.violate]
    split
    · next hm => exact ⟨.inl, fun h => h.elim id fun h => h ▸ hm⟩
    · rw [List.mem_cons, or_comm]
  · have hn : ∀ c i, ¬ t.violates w c i := fun c i h => hv ⟨c, i, h⟩
    simp [slotRecordWord_obeys hn, hn]

end

/-- A word before the last of `ws` violated the slot. -/
def State.violatedBy (s : State) (ws : List RecordWord) (c : Chan) (i : Nat) : Prop :=
  ∃ front v back, ws = front ++ v :: back ∧ (applySlots front s).violates v c i

theorem violatedBy_concat (s : State) (ws : List RecordWord) (w : RecordWord) (c : Chan) (i : Nat) :
    s.violatedBy (ws ++ [w]) c i ↔ s.violatedBy ws c i ∨ (applySlots ws s).violates w c i := by
  constructor
  · rintro ⟨front, v, back, hws, hv⟩
    obtain rfl | ⟨back, x, rfl⟩ := List.eq_nil_or_concat' back
    · obtain ⟨rfl, h⟩ := List.append_inj' hws rfl
      cases h
      exact .inr hv
    · rw [← List.cons_append, ← List.append_assoc] at hws
      exact .inl ⟨front, v, back, (List.append_inj' hws rfl).1, hv⟩
  · rintro (⟨front, v, back, rfl, hv⟩ | hv)
    · exact ⟨front, v, back ++ [w], by simp, hv⟩
    · exact ⟨ws, w, [], rfl, hv⟩

/-- The pass over the slot words of a record: the state, and the slots with a violation. -/
theorem slotWords_eq (s : State) (ws : List RecordWord) : ∃ seen,
    ws.foldl slotRecordWord ⟨s, []⟩ = ⟨applySlots ws s, seen⟩ ∧ ∀ c i, (c, i) ∈ seen ↔ s.violatedBy ws c i := by
  induction ws using List.reverseRecOn with
  | nil => exact ⟨[], rfl, fun c i => by simp [State.violatedBy]⟩
  | append_singleton ws w ih =>
    obtain ⟨seen, hp, hm⟩ := ih
    refine ⟨_, rfl, fun c i => ?_⟩
    rw [violatedBy_concat, List.foldl_append, hp, ← hm]
    exact mem_seen_slotRecordWord

section
variable {s : State} {ws : List RecordWord} {w : RecordWord} {c : Chan} {i : Nat}

theorem applySlots_concat (seen : List (Chan × Nat)) (h : ws.foldl slotRecordWord ⟨s, []⟩ = ⟨applySlots ws s, seen⟩) :
    applySlots (ws ++ [w]) s = (slotRecordWord ⟨applySlots ws s, seen⟩ w).state := by
  rw [applySlots, List.foldl_append, h]
  rfl

/-- A second violation of a slot is not recorded. -/
theorem applySlots_again (hv : (applySlots ws s).violates w c i) (hb : s.violatedBy ws c i) :
    applySlots (ws ++ [w]) s = applySlots ws s := by
  obtain ⟨seen, hp, hm⟩ := slotWords_eq s ws
  obtain ⟨off, hw⟩ := slotRecordWord_violates hv
  rw [applySlots_concat seen hp, hw, SlotPass.violate, if_pos ((hm c i).mpr hb)]

/-- Any other word has the effect that it has alone. -/
theorem applySlots_next (h : ¬ ∃ c i, (applySlots ws s).violates w c i ∧ s.violatedBy ws c i) :
    applySlots (ws ++ [w]) s = applySlots [w] (applySlots ws s) := by
  obtain ⟨seen, hp, hm⟩ := slotWords_eq s ws
  rw [applySlots_concat seen hp]
  by_cases hv : ∃ c i, (applySlots ws s).violates w c i
  · obtain ⟨c, i, hv⟩ := hv
    obtain ⟨off, hw⟩ := slotRecordWord_violates hv
    have hn : (c, i) ∉ seen := fun hs => h ⟨c, i, hv, (hm c i).mp hs⟩
    have alone : applySlots [w] (applySlots ws s) = violation c i off (applySlots ws s) :=
      congrArg SlotPass.state (hw [])
    rw [hw, alone, SlotPass.violate, if_neg hn]
  · rw [slotRecordWord_obeys fun c i hc => hv ⟨c, i, hc⟩]

end

/-! ## Releases and duplicates -/

theorem offset_mem (k : ControlWord) : (k.offset, k) ∈ [(0x0, ControlWord.command), (0x4, .arg1), (0x8, .arg2),
    (0xC, .arg3), (0x20, .consumer), (0x24, .intEnable)] := by
  cases k <;> decide

/-- The word classes of section 2.2 and 3.3. -/
theorem wordClasses (m : Matcher) (a : Nat) :
    let control : List (Nat × ControlWord) :=
      [(0x0, .command), (0x4, .arg1), (0x8, .arg2), (0xC, .arg3), (0x20, .consumer), (0x24, .intEnable)]
    (∀ p ∈ control, a = m.base + p.1 → m.classify a = .control p.2)
    ∧ ((∀ p ∈ control, a ≠ m.base + p.1) →
      (∀ c k, m.inArea a c k → (∀ d l, d < c → ¬ m.inArea a d l) →
        let i := (a - k.base) / k.size
        let off := (a - k.base) % k.size / 4
        m.classify a = (if off = 0 then .header0 c i else .slot c i off))
      ∧ ((∀ c k, ¬ m.inArea a c k) → m.classify a = .plain)) := by
  intro control
  refine ⟨fun p hp ha => classify_eq_control.mpr (ha.trans ?_), fun hn => ?_⟩
  · simp only [control, List.mem_cons, List.not_mem_nil, or_false] at hp
    rcases hp with rfl | rfl | rfl | rfl | rfl | rfl <;> rfl
  · have hn : ∀ k : ControlWord, a ≠ m.base + k.offset := fun k => hn _ (offset_mem k)
    exact ⟨fun c k h hl => classify_area hn (owner?_lowest h hl), fun h => classify_plain hn (owner?_none h)⟩

theorem slotAddr_eq {m : Matcher} {c : Chan} {k : ChanCfg} (i : Nat) (h : m.cfg? c = some k) :
    m.slotAddr c i = k.base + k.size * i := by
  simp only [Matcher.slotAddr, h, ChanCfg.slotAddr]

section
variable {s : State} {w : RecordWord} {c : Chan} {i off : Nat}

theorem exec_release (h : s.slotWrite w c i 0) (hb : w.be = 15#4) (ho : w.data.getLsbD 31 = true)
    (hi : s.wm.isInbound c = true) (hh : hostOwns c i s = true) : exec .completedWriteRecord s =
      .next (arriveNext (takeRelease c i (w.data.getLsbD 15) { s with host := .idle })) := by
  rw [exec_slotWord h, word_handover ((qualifies_iff w).mpr ⟨hb, ho⟩) h.1 hh]
  simp [handover, hi]

theorem exec_duplicate (h : s.slotWrite w c i 0) (hb : w.be = 15#4) (ho : w.data.getLsbD 31 = true)
    (hh : hostOwns c i s = false) : exec .completedWriteRecord s =
      .next (arriveNext (duplicate c i { s with host := .idle })) := by
  rw [exec_slotWord h, word_duplicate ((qualifies_iff w).mpr ⟨hb, ho⟩) h.1 hh]

theorem exec_violation (h : s.slotWrite w c i off) (hq : ¬ (off = 0 ∧ w.be = 15#4 ∧ w.data.getLsbD 31 = true))
    (hh : hostOwns c i s = false) : exec .completedWriteRecord s =
      .next (arriveNext (violation c i off { s with host := .idle })) := by
  rw [exec_slotWord h, word_violates (by rwa [qualifies_iff]) h.1 hh]
  rfl

/-- A record of one slot word has the word's effect and no other. -/
theorem exec_oneWord {a : Nat} (hon : s.on) (hh : s.host = .idle) (h : s.writesSlot w c i off) :
    exec .completedWriteRecord { s with host := .handoff ⟨a, [w], true⟩ } = .next (arriveNext (applySlots [w] s)) := by
  have offers : State.slotWrite { s with host := .handoff ⟨a, [w], true⟩ } w c i off := ⟨h.1, ⟨a, hon, rfl, rfl⟩, h.2⟩
  have idle : { s with host := .idle } = s := by rw [← hh]
  rw [exec_slotWord offers, applySlots_word h]
  exact congrArg (fun t => Host.Outcome.next (arriveNext (SlotPass.word c i off w ⟨t, []⟩).state)) idle

end

/-- Settles O24. -/
theorem releasesAndDuplicates : Obligations.ReleasesAndDuplicates := by
  refine ⟨hostOwns_iff, fun m a => ?_, fun s w c i h hb ho hi hh => exec_release h hb ho hi hh,
    fun s w c i off h hh => ⟨?_, fun hq => exec_violation h hq hh⟩,
    fun t w c i off a hon hh hw => exec_oneWord hon hh hw, fun s ws w => ⟨rfl, ?_, applySlots_next⟩⟩
  · obtain ⟨hcontrol, harea⟩ := wordClasses m a
    exact ⟨hcontrol, harea, fun c k i => slotAddr_eq i⟩
  · rintro rfl hb ho
    rw [exec_duplicate h hb ho hh]
    refine ⟨fun hi => ?_, fun hi => ?_⟩ <;> simp only [duplicate, hi] <;> rfl
  · rintro ⟨c, i, hv, hb⟩
    exact applySlots_again hv hb

end Sys2Proof.Machine

namespace Sys2Proof.Machine

/-! ## Capture (R50, R51, R59, R62, R79) -/

/-! ### The bytes stored -/

theorem mapLookup_insert_if (b : Bool) (m : List (Nat × Byte)) (a k : Nat) (v : Byte) :
    mapLookup (if b then mapInsert m a v else m) k = if b = true ∧ k = a then some v else mapLookup m k := by
  cases b
  · simp
  · by_cases h : k = a
    · subst h; simp [mapLookup_insert_same]
    · simp [mapLookup_insert_other _ _ _ _ h, h]

/-- Slot byte `j` is buffer byte `j − 12` (R62). -/
theorem mapLookup_storeLanes {off : Nat} (be : BitVec 4) (d : Word) (m : List (Nat × Byte)) (k : Nat) (h : 3 ≤ off) :
    mapLookup (storeLanes off be d m) k =
      if 4 * off ≤ k + 12 ∧ k + 12 < 4 * off + 4 ∧ be.getLsbD (k + 12 - 4 * off) = true
      then some (lane d (k + 12 - 4 * off)) else mapLookup m k := by
  simp only [storeLanes, List.foldl_cons, List.foldl_nil, mapLookup_insert_if]
  by_cases hk : 4 * off ≤ k + 12 ∧ k + 12 < 4 * off + 4
  · obtain ⟨j, hj⟩ : ∃ j, k + 12 = 4 * off + j := ⟨k + 12 - 4 * off, by omega⟩
    have hsub : k + 12 - 4 * off = j := by omega
    have hlane (n : Nat) : (k = 4 * off + n - 12) ↔ (j = n) := by omega
    have hlt : j < 4 := by omega
    simp only [hlane, hsub, hk, true_and]
    rcases (by omega : j = 0 ∨ j = 1 ∨ j = 2 ∨ j = 3) with rfl | rfl | rfl | rfl <;> simp
  · have hlane (n : Nat) (hn : n < 4) : ¬ k = 4 * off + n - 12 := by omega
    have hout : ¬ (4 * off ≤ k + 12 ∧ k + 12 < 4 * off + 4 ∧ be.getLsbD (k + 12 - 4 * off) = true) :=
      fun ⟨h1, h2, _⟩ => hk ⟨h1, h2⟩
    simp only [hlane 0 (by omega), hlane 1 (by omega), hlane 2 (by omega), hlane 3 (by omega), hout, and_false,
      if_false]

/-! ### The slot and its buffer -/

section
variable {u : CaptureUnit} {c : Chan} {i : Nat} {x : OutSlot} {b : Buf} {off : Nat} {be : BitVec 4} {d : Word}

theorem modify_eq_set {α : Type} {l : List α} {i : Nat} {x : α} (f : α → α) (h : l[i]? = some x) :
    l.modify i f = l.set i (f x) := by
  rw [List.modify_eq_set_getElem?, h]
  rfl

/-- A change of a slot record depends on what the record is. -/
theorem onSlot_at (f : OutSlot → OutSlot) (h : u.slot? c i = some x) :
    u.onSlot c i f = u.onSlot c i (fun _ => f x) := by
  have hr : OutRing.onSlot i f u.rings[c] = OutRing.onSlot i (fun _ => f x) u.rings[c] := by
    rw [OutRing.onSlot, OutRing.onSlot, modify_eq_set f h, modify_eq_set _ h]
  simp only [CaptureUnit.onSlot, CaptureUnit.onRing, hr]

theorem onSlot_self (h : u.slot? c i = some x) : u.onSlot c i (fun _ => x) = u := by
  have hl : u.rings[c].slots.set i x = u.rings[c].slots := by
    obtain ⟨hi, rfl⟩ := List.getElem?_eq_some_iff.mp h
    exact List.set_getElem_self hi
  have hr : OutRing.onSlot i (fun _ => x) u.rings[c] = u.rings[c] := by
    rw [OutRing.onSlot, modify_eq_set _ h, hl]
  rw [CaptureUnit.onSlot, CaptureUnit.onRing, hr]
  exact congrArg (fun v => { u with rings := v }) (Vector.set_getElem_self c.isLt)

/-- What the attach of a buffer and the store of the first word leave (R62). -/
theorem attach_store (h : u.slot? c i = some x) : (u.attach c i b).store b off be d =
    (u.onBuf b (fun _ => ⟨.capturing, some .capture, some (c, i), storeLanes off be d []⟩)).onSlot c i
      (fun _ => { x with state := .filling, buf := some b }) := by
  have attach : u.attach c i b = (u.onBuf b (fun _ => ⟨.capturing, some .capture, some (c, i), []⟩)).onSlot c i
      (fun _ => { x with state := .filling, buf := some b }) := onSlot_at _ h
  rw [attach]
  simp [CaptureUnit.store, CaptureUnit.onBuf, CaptureUnit.onSlot, CaptureUnit.onRing]

theorem captureWord_attaches (h : u.slot? c i = some x) (ho : x.state = .open) (hn : u.captureCount < 14)
    (hb : u.freeBuf? = some b) : u.captureWord c i off be d = (u.attach c i b).store b off be d := by
  have ha : u.attach? = some b := (if_pos hn).trans hb
  simp only [CaptureUnit.captureWord, h, ho, ha]

theorem captureWord_no_buffer (h : u.slot? c i = some x) (ho : x.state = .open)
    (hn : 14 ≤ u.captureCount ∨ u.freeBuf? = none) : u.captureWord c i off be d = u := by
  have ha : u.attach? = none := by
    unfold CaptureUnit.attach?
    split
    · next hc => exact hn.resolve_left (Nat.not_le.mpr hc)
    · rfl
  simp only [CaptureUnit.captureWord, h, ho, ha]

theorem captureWord_stores (h : u.slot? c i = some x) (hf : x.state = .filling) (hb : x.buf = some b) :
    u.captureWord c i off be d = u.store b off be d := by
  simp only [CaptureUnit.captureWord, h, hf, hb]

end

/-! ### Words on host-owned slots -/

theorem cfg?_active {m : Matcher} {c : Chan} {cfg : ChanCfg} (h : m.chans[c].state = .active cfg) :
    m.cfg? c = some cfg := by
  rw [Matcher.cfg?, h]; rfl

theorem outbound_of_capture {m : Matcher} {c : Chan} {cfg : ChanCfg} (h : m.cfg? c = some cfg)
    (hc : cfg.captureOn = true) : m.isInbound c = false := by
  simp only [Matcher.isInbound, h]
  unfold ChanCfg.captureOn at hc
  split at hc
  · next hd => simp only [ChanCfg.isInbound, ChanCfg.dest?, hd]; rfl
  · cases hc

section
variable {s : State} {w : RecordWord} {c : Chan} {i off : Nat}

theorem captureWord_active {cfg : ChanCfg} (be : BitVec 4) (d : Word) (h : s.wm.chans[c].state = .active cfg) :
    captureWord c i off be d s = { s with cap := s.cap.captureWord c i off be d } := by
  have ha : s.wm.isActive c = true := by simp only [Matcher.isActive, h]
  simp only [captureWord, ha, if_true]

theorem captureWord_not_active (be : BitVec 4) (d : Word) (h : ∀ cfg, s.wm.chans[c].state ≠ .active cfg) :
    captureWord c i off be d s = s := by
  have ha : s.wm.isActive c = false := by
    unfold Matcher.isActive
    split
    · next cfg hc => exact absurd hc (h cfg)
    all_goals rfl
  simp [captureWord, ha]

theorem plainSlotWord_captured {cfg : ChanCfg} (ho : 3 ≤ off) (h : s.wm.chans[c].state = .active cfg)
    (hc : cfg.captureOn = true) :
    plainSlotWord c i off w s = { s with cap := s.cap.captureWord c i off w.be w.data } := by
  have on : s.wm.captureOn c = true := by simp only [Matcher.captureOn, cfg?_active h, hc]
  rw [plainSlotWord, if_pos ⟨ho, on⟩, captureWord_active _ _ h]

/-- A word that is not captured has no effect but on memory. -/
theorem plainSlotWord_stays (h : off < 3 ∨ ∀ cfg, s.wm.chans[c].state = .active cfg → cfg.captureOn = false) :
    plainSlotWord c i off w s = s := by
  unfold plainSlotWord
  split
  · next hc =>
    have h := h.resolve_left (Nat.not_lt.mpr hc.1)
    refine captureWord_not_active _ _ fun cfg ha => ?_
    have on : cfg.captureOn = true := by simpa only [Matcher.captureOn, cfg?_active ha] using hc.2
    exact Bool.noConfusion (on.symm.trans (h cfg ha))
  · rfl

theorem exec_plainSlotWord (h : s.slotWrite w c i off) (hq : ¬ (off = 0 ∧ w.be = 15#4 ∧ w.data.getLsbD 31 = true))
    (ho : hostOwns c i s = true) : exec .completedWriteRecord s =
      .next (arriveNext (plainSlotWord c i off w { s with host := .idle })) := by
  rw [exec_slotWord h, word_plain (by rwa [qualifies_iff]) h.1 ho]

/-- A word that capture takes, on a slot that is OPEN or FILLING. -/
theorem exec_captured {cfg : ChanCfg} {x : OutSlot} (h : s.slotWrite w c i off) (h3 : 3 ≤ off)
    (ha : s.wm.chans[c].state = .active cfg) (hc : cfg.captureOn = true) (hx : s.cap.slot? c i = some x)
    (ho : x.state = .open ∨ x.state = .filling) : exec .completedWriteRecord s =
      .next (arriveNext { s with host := .idle, cap := s.cap.captureWord c i off w.be w.data }) := by
  have outbound := outbound_of_capture (cfg?_active ha) hc
  have owns : hostOwns c i s = true := (hostOwns_outbound i outbound).mpr ⟨x, hx, ho⟩
  rw [exec_plainSlotWord h (by omega) owns, plainSlotWord_captured (s := { s with host := .idle }) h3 ha hc]

end

/-- Settles O25. -/
theorem captureStores : Obligations.CaptureStores := by
  refine ⟨fun off be d m k => mapLookup_storeLanes be d m k, fun s w c i off cfg x h h3 ha hc hx => ?_,
    fun s w c i off h ho hq hn => ?_⟩
  · refine ⟨fun hs b hb hf => ?_, fun hs hn => ?_, fun b hs hb => ?_⟩
    · rw [exec_captured h h3 ha hc hx (.inl hs), captureWord_attaches hx hs hb hf, attach_store hx]
      rfl
    · rw [exec_captured h h3 ha hc hx (.inl hs), captureWord_no_buffer hx hs hn]
    · have hu : s.cap.store b off w.be w.data = (s.cap.store b off w.be w.data).onSlot c i (fun _ => x) :=
        (onSlot_self (u := s.cap.store b off w.be w.data) hx).symm
      rw [exec_captured h h3 ha hc hx (.inr hs), captureWord_stores hx hs hb, hu]
      rfl
  · rw [exec_plainSlotWord h hq ho, plainSlotWord_stays (s := { s with host := .idle }) hn]

end Sys2Proof.Machine

namespace Sys2Proof.Machine

/-! ## FIRST_SEND (R55, R70, R71, R104, R107 to R109, R137) -/

/-! ### The bytes of a frame in a buffer -/

theorem payload_getElem? {x : Buffer} {len k : Nat} {v : Byte} (hk : k < len) (h : mapLookup x.bytes (4 + k) = some v) :
    (x.payload len)[k]? = some v := by
  simp [Buffer.payload, hk, Buffer.byte, h]

theorem lane_user {x : Buffer} {j : Nat} {v : Byte} (hj : j < 4) (h : mapLookup x.bytes j = some v) :
    lane x.user j = v := by
  have hv : x.byte j = v := by rw [Buffer.byte, h]; rfl
  obtain ⟨h0, h1, h2, h3⟩ := lane_wordOfLanes (x.byte 0) (x.byte 1) (x.byte 2) (x.byte 3)
  match j, hj with
  | 0, _ => exact h0.trans hv
  | 1, _ => exact h1.trans hv
  | 2, _ => exact h2.trans hv
  | 3, _ => exact h3.trans hv

/-! ### Whose turn it is -/

/-- The transmitter may take a new frame (R104, R108). -/
def State.firstTurn (s : State) : Prop :=
  s.tx.sending = none ∧ s.link.initRequest = false ∧ s.link.state = .up ∧ s.tx.queue = []
    ∧ s.tx.pass = none ∧ s.tx.replay.length < 32

/-- Channel `c` has the slot `x`, READY in buffer `b`, at its transmit cursor, and its record lets it go (R70). -/
def State.offersFrame (s : State) (c : Chan) (x : OutSlot) (b : Buf) : Prop :=
  s.cap.slot? c s.cap.rings[c].transmitCursor = some x
    ∧ x.state = .ready ∧ x.buf = some b ∧ (sendRecord s c).peer = .open ∧ 0 < (sendRecord s c).available

theorem gate_iff (r : SendRecord) : r.gate = true ↔ r.peer = .open ∧ 0 < r.available := by
  simp [SendRecord.gate]

section
variable {s : State} {c : Chan} {x : OutSlot} {b : Buf}

theorem offered?_eq_some : offered? c s = some b ↔ ∃ x, s.offersFrame c x b := by
  constructor
  · intro h
    unfold offered? at h
    split at h
    · next x hx =>
      split at h
      · next hr =>
        obtain ⟨hpeer, havail⟩ := (gate_iff _).mp hr.2
        exact ⟨x, hx, hr.1, h, hpeer, havail⟩
      · cases h
    · cases h
  · rintro ⟨x, hx, hr, hb, hpeer, havail⟩
    have hs : s.cap.transmitSlot? c = some x := hx
    simp only [offered?, hs]
    rw [if_pos ⟨hr, (gate_iff _).mpr ⟨hpeer, havail⟩⟩, hb]

theorem offered?_eq_none (h : ∀ x b, ¬ s.offersFrame c x b) : offered? c s = none :=
  Option.eq_none_iff_forall_ne_some.mpr fun b hb => (offered?_eq_some.mp hb).elim fun x hx => h x b hx

theorem firstTurn?_turn (h : s.firstTurn) : firstTurn? s =
    (chansAfter s.tx.lastServed).findSome? (fun c => (offered? c s).map (fun b => (c, b))) := by
  obtain ⟨h1, h2, h3, h4, h5, h6⟩ := h
  simp [firstTurn?, upTurn, LinkController.isUp, Config.replayLimit, h1, h2, h3, h4, h5, h6]

theorem firstTurn?_other (h : ¬ s.firstTurn) : firstTurn? s = none := by
  refine if_neg fun hc => h ?_
  simp only [upTurn, LinkController.isUp, Config.replayLimit, Bool.and_eq_true, Option.isNone_iff_eq_none,
    Bool.not_eq_true', decide_eq_true_eq, List.isEmpty_iff] at hc
  obtain ⟨⟨⟨⟨⟨h1, h2⟩, h3⟩, h4⟩, h5⟩, h6⟩ := hc
  exact ⟨h1, h2, h3, h4, h5, of_decide_eq_true h6⟩

theorem firstTurn?_none (h : ∀ c x b, ¬ s.offersFrame c x b) : firstTurn? s = none := by
  by_cases ht : s.firstTurn
  · rw [firstTurn?_turn ht]
    exact List.findSome?_eq_none_iff.mpr fun c _ => by rw [offered?_eq_none (h c)]; rfl
  · exact firstTurn?_other ht

/-- The first channel after the one served last (R107). -/
theorem firstTurn?_first {k : Chan} (ht : s.firstTurn) (h : s.offersFrame (s.tx.lastServed + 1 + k) x b)
    (hl : ∀ m, m < k → ∀ y a, ¬ s.offersFrame (s.tx.lastServed + 1 + m) y a) :
    firstTurn? s = some (s.tx.lastServed + 1 + k, b) := by
  rw [firstTurn?_turn ht, chansAfter, List.findSome?_map, allChans_split k]
  refine findSome_first _ k _ _ _ (fun m hm => ?_) ?_
  · simp only [Function.comp_apply, offered?_eq_none (hl m (lt_of_mem_take k m hm)), Option.map_none]
  · simp only [Function.comp_apply, offered?_eq_some.mpr ⟨x, h⟩, Option.map_some]

end

/-! ### The frame sent -/

section
variable {s : State} {c d : Chan} {x : OutSlot} {b : Buf} {cfg : ChanCfg}

theorem chargeSend_eq (hcfg : s.wm.cfg? c = some cfg) (hd : cfg.dest? = some d) : chargeSend c s = { s with
    cred := { s.cred with send := s.cred.send.set d { s.cred.send[d] with sent := s.cred.send[d].sent + 1 } } } := by
  simp only [chargeSend, hcfg, hd]
  rfl

theorem destOf_eq (hcfg : s.wm.cfg? c = some cfg) (hd : cfg.dest? = some d) : destOf c s = d := by
  simp only [destOf, hcfg, hd, Option.getD_some]

/-- IN_FLIGHT, SENDING, and the cursor on (R71). -/
theorem takeNew_cap {u : CaptureUnit} (h : u.slot? c u.rings[c].transmitCursor = some x) : u.takeNew c b =
    { u with
      bufs := u.bufs.set b { u.bufs[b] with state := .sending }
      rings := u.rings.set c { u.rings[c] with
        slots := u.rings[c].slots.set u.rings[c].transmitCursor { x with state := .inFlight }
        transmitCursor := (u.rings[c].transmitCursor + 1) % u.rings[c].slots.length } } := by
  have hm := modify_eq_set (fun x => { x with state := OutState.inFlight }) h
  simp [CaptureUnit.takeNew, CaptureUnit.sendBuf, CaptureUnit.onBuf, CaptureUnit.onSlot, CaptureUnit.onRing,
    OutRing.onSlot, OutRing.passTransmit, nextSlot]
  exact congrArg (fun l => u.rings.set c { u.rings[c] with
    slots := l, transmitCursor := (u.rings[c].transmitCursor + 1) % u.rings[c].slots.length }) hm

theorem laneStream_sending {t : TransmitEngine} {y : Send} (l : LinkController) (h : t.sending = some y) :
    laneStream l t = if l.state = .off then [none] else sendWords y.words := by
  rw [laneStream_eq, h]

theorem transmit_eq (f : Frame) (b : Option Buf) (s : State) : transmit f b s = s.sends f b := by
  have hl := laneStream_sending (t := { s.tx with sending := some ⟨f.words, b⟩ }) s.link rfl
  rw [transmit, hl]
  rfl

/-- The replay entry of the frame (R107, R108). -/
theorem newEntry_eq (h : s.cap.slot? c s.cap.rings[c].transmitCursor = some x) :
    newEntry c s = ⟨s.tx.nextSeq, c, s.cap.rings[c].transmitCursor, x.length, 1, none⟩ := by
  have hs : s.cap.transmitSlot? c = some x := h
  simp only [newEntry, offeredLength, hs]

/-- The ack timer starts for a first entry (R109). -/
theorem takeNew_tx (y : ReplayEntry) (interval : Nat) (t : TransmitEngine) : t.takeNew y interval = { t with
    nextSeq := t.nextSeq + 1
    replay := t.replay ++ [y]
    ackTimer := if t.replay = [] then some interval else t.ackTimer
    lastServed := y.chan } := by
  simp only [TransmitEngine.takeNew, List.isEmpty_iff]

theorem sendNew_eq (h : s.offersFrame c x b) (hcfg : s.wm.cfg? c = some cfg) (hd : cfg.dest? = some d) :
    let ring := s.cap.rings[c]
    let i := ring.transmitCursor
    let frame : Frame := .data d s.tx.nextSeq s.cap.bufs[b].user (s.cap.bufs[b].payload x.length)
    sendNew c b s = { s.sends frame (some b) with
      tx := { (s.sends frame (some b)).tx with
        nextSeq := s.tx.nextSeq + 1
        replay := s.tx.replay ++ [⟨s.tx.nextSeq, c, i, x.length, 1, none⟩]
        ackTimer := if s.tx.replay = [] then some s.link.ackInterval else s.tx.ackTimer
        lastServed := c }
      cap := { s.cap with
        bufs := s.cap.bufs.set b { s.cap.bufs[b] with state := .sending }
        rings := s.cap.rings.set c { ring with
          slots := ring.slots.set i { x with state := .inFlight }
          transmitCursor := (i + 1) % ring.slots.length } }
      cred := { s.cred with send := s.cred.send.set d { s.cred.send[d] with sent := s.cred.send[d].sent + 1 } } } := by
  obtain ⟨hslot, -⟩ := h
  intro ring i frame
  have hframe : dataFrame c s.tx.nextSeq x.length b s = frame := by rw [dataFrame, destOf_eq hcfg hd]
  simp only [sendNew, newEntry_eq hslot, hframe, takeNew_tx, takeNew_cap hslot]
  rw [chargeSend_eq (by exact hcfg) hd, transmit_eq]
  rfl

end

/-- Settles O42. -/
theorem firstSends : Obligations.FirstSends := by
  refine ⟨fun s hon => ?_, fun x len => ⟨by simp [Buffer.payload], fun k v => payload_getElem?, fun j v => lane_user⟩⟩
  have row : exec .firstSend s = .next (firstSendFrame s) := live_on _ s hon
  refine ⟨fun hn => ?_, fun hn => ?_, fun k d x b cfg ht hx hl hcfg hd => ?_⟩
  · rw [row, firstSendFrame, firstTurn?_other hn]
  · rw [row, firstSendFrame, firstTurn?_none hn]
  · rw [row, firstSendFrame, firstTurn?_first ht hx hl]
    exact congrArg _ (sendNew_eq hx hcfg hd)

end Sys2Proof.Machine

namespace Sys2Proof.Machine

/-! ## The ends of landing writes (R42, R122, R147 to R151, R154, R159, R161) -/

/-! ### The bytes of a payload word -/

/-- The byte enables that a choice of lanes makes. -/
theorem getLsbD_lanes : ∀ b0 b1 b2 b3 : Bool, ∀ j : Fin 4,
    (BitVec.ofNat 4 (([0, 1, 2, 3].filter (fun j => [b0, b1, b2, b3].getD j false)).foldl
      (fun n j => n + 2 ^ j) 0)).getLsbD j = [b0, b1, b2, b3].getD j false := by
  decide

theorem payloadEnables_getLsbD (len : Nat) {off j : Nat} (ho : 4 ≤ off) (hj : j < 4) :
    (payloadEnables len off).getLsbD j = decide (4 * off + j < 16 + len) := by
  let p (j : Nat) : Bool := decide (4 * off + j - 16 < len)
  have lanes : ∀ j ∈ [0, 1, 2, 3], p j = [p 0, p 1, p 2, p 3].getD j false := by simp
  have choice : [0, 1, 2, 3].filter p = [0, 1, 2, 3].filter (fun j => [p 0, p 1, p 2, p 3].getD j false) :=
    List.filter_congr lanes
  have bit := getLsbD_lanes (p 0) (p 1) (p 2) (p 3) ⟨j, hj⟩
  rw [← choice, ← lanes j (by simp; omega)] at bit
  refine bit.trans (decide_eq_decide.mpr ?_)
  omega

theorem lane_payloadWord {payload : List Byte} {off j : Nat} {b : Byte} (ho : 4 ≤ off) (hj : j < 4)
    (h : payload[4 * off + j - 16]? = some b) : lane (payloadWord payload off).data j = b := by
  have hb : payload.getD (4 * off + j - 16) 0#8 = b := by rw [List.getD_eq_getElem?_getD, h]; rfl
  obtain ⟨h0, h1, h2, h3⟩ := lane_wordOfLanes (payload.getD (4 * off - 16) 0#8) (payload.getD (4 * off - 15) 0#8)
    (payload.getD (4 * off - 14) 0#8) (payload.getD (4 * off - 13) 0#8)
  have index (n m : Nat) (hn : n + m = 16) : 4 * off + n - 16 = 4 * off - m := by omega
  match j, hj with
  | 0, _ => rw [index 0 16 rfl] at hb; exact h0.trans hb
  | 1, _ => rw [index 1 15 rfl] at hb; exact h1.trans hb
  | 2, _ => rw [index 2 14 rfl] at hb; exact h2.trans hb
  | 3, _ => rw [index 3 13 rfl] at hb; exact h3.trans hb

/-! ### What the steps of a landing leave -/

@[simp] theorem postFaultIf_land (e : AccessEnd) (c : Chan) (o : Origin) (a : Nat) (s : State) :
    (postFaultIf e c o a s).land = s.land := by
  cases e <;> rfl

@[simp] theorem postFaultIf_timebase (e : AccessEnd) (c : Chan) (o : Origin) (a : Nat) (s : State) :
    (postFaultIf e c o a s).timebase = s.timebase := congrArg Outer.timebase (postFaultIf_outer e c o a s)

/-- The slot records and the queue of the Landing Engine. -/
def State.landQueue (s : State) : Vector InRing 16 × List LandEntry := (s.land.rings, s.land.queue)

section
variable (s : State)

theorem leaveLanding_landQueue (c : Chan) (i : Nat) : (leaveLanding c i s).landQueue = s.landQueue := by
  unfold leaveLanding; (repeat' split) <;> rfl

theorem batchDisposal_landQueue : (batchDisposal s).landQueue = s.landQueue := by
  unfold batchDisposal; dsimp only; split <;> rfl

theorem dispose_landQueue (x : LandEntry) (reason : Option Reason) : (dispose x reason s).landQueue = s.landQueue := by
  unfold dispose
  split <;> split
  · exact batchDisposal_landQueue _
  · rfl
  · exact (batchDisposal_landQueue _).trans rfl
  · rfl

theorem disposeLanding_landQueue (x : LandEntry) (l : Landing) : (disposeLanding x l s).landQueue = s.landQueue := by
  unfold disposeLanding
  split
  · rfl
  · exact dispose_landQueue s x _

theorem returnSlot_landQueue (x : LandEntry) (l : Landing) (st : Status) :
    (returnSlot x l st s).landQueue = s.landQueue := by
  unfold returnSlot; dsimp only; (repeat' split) <;> rfl

end

/-! ### The next write of the landing at the head -/

section
variable {s : State} {e : LandEntry} {l : Landing} {rest : List LandEntry}

theorem head?_lands (h : s.lands e l rest) : s.land.head? = some (e, l) := by
  obtain ⟨hq, hv⟩ := h
  simp only [LandingEngine.head?, hq, hv]

/-- The landing at the head in phase `p`, with its next write requested. -/
def State.landsNext (s : State) (e : LandEntry) (l : Landing) (rest : List LandEntry) (p : LandPhase) (q : DevReq) :
    State :=
  { s with
    land := { s.land with queue := { e with verdict := .landing { l with phase := p } } :: rest }
    reqs := { s.reqs with landing := some q } }

theorem toPayload_cons (h : s.land.queue.tail = rest) (x : Burst) (more : List Burst) :
    toPayload e l (x :: more) s = s.landsNext e l rest (.payload (x :: more)) ⟨.landPayload, true,
      s.wm.slotAddr e.chan l.slot + 4 * x.off, (List.range' x.off x.len).map (payloadWord l.payload)⟩ := by
  subst h; rfl

theorem toPayload_nil (h : s.land.queue.tail = rest) :
    toPayload e l [] s = s.landsNext e l rest .header ⟨.landHeader, true, s.wm.slotAddr e.chan l.slot,
      [⟨0#4, 0#32⟩, ⟨15#4, headerWord1 e.seq e.epoch 0⟩, ⟨15#4, s.timebase⟩, ⟨15#4, l.user⟩]⟩ := by
  subst h; rfl

theorem notify_eq {u : LandingEngine} {c : Chan} {i : Nat} {y : InSlot} (h : u.slot? c i = some y) :
    u.notify c i = y.notify := by
  simp only [LandingEngine.notify, h]

theorem toControl_eq (h : s.land.queue.tail = rest) {y : InSlot} (hy : s.land.slot? e.chan l.slot = some y) :
    toControl e l s = s.landsNext e l rest .control ⟨.landWord0, true, s.wm.slotAddr e.chan l.slot,
      [⟨15#4, headerWord0 e.length y.notify (if l.fault then .memoryFault else .delivered)⟩]⟩ := by
  subst h
  simp only [toControl, landWord0Req, notify_eq hy]
  rfl

/-- After OK the bursts behind the first are left; after FAULT none is (R148, R151). -/
theorem restBursts_eq {bursts : List Burst} (a : AccessEnd) (h : l.phase = .payload bursts) :
    l.restBursts a = if accessOk a then bursts.tail else [] := by
  simp only [Landing.restBursts, h]

theorem accessOk_iff (a : AccessEnd) : accessOk a = true ↔ a = .ok := by
  cases a <;> simp [accessOk]

theorem restBursts_none {bursts : List Burst} {a : AccessEnd} (h : l.phase = .payload bursts)
    (hn : bursts.length ≤ 1 ∨ a ≠ .ok) : l.restBursts a = [] := by
  rw [restBursts_eq a h]
  split
  · next hok =>
    have hl : bursts.length ≤ 1 := hn.resolve_right (not_not.mpr ((accessOk_iff a).mp hok))
    exact List.length_eq_zero_iff.mp (by rw [List.length_tail]; omega)
  · rfl

end

section
variable {s : State} {r : DevReq} {e : LandEntry} {l : Landing} {rest : List LandEntry}

theorem exec_landPayloadEnd (a : AccessEnd) (hs : s.serves .landPayload r) (h : s.lands e l rest) :
    exec (.landingPayloadWriteEnd a) s = .next (toPayload e (l.afterWrite a) (l.restBursts a)
      (postFaultIf a e.chan .landing r.addr (endDevice r a s))) := by
  refine (deviceEnd_serves _ _ a s r hs rfl).trans ?_
  obtain ⟨-, -, hp⟩ := hs
  have head : (endDevice r a s).land.head? = some (e, l) := head?_lands h
  simp only [ownerGoesOn, hp, endLandPayload, head]

theorem exec_landHeaderEnd (a : AccessEnd) (hs : s.serves .landHeader r) (h : s.lands e l rest) :
    exec (.landingHeaderWriteEnd a) s = .next (toControl e (l.afterWrite a)
      (postFaultIf a e.chan .landing r.addr (endDevice r a s))) := by
  refine (deviceEnd_serves _ _ a s r hs rfl).trans ?_
  obtain ⟨-, -, hp⟩ := hs
  have head : (endDevice r a s).land.head? = some (e, l) := head?_lands h
  simp only [ownerGoesOn, hp, endLandHeader, head]

/-- The queue behind the head, when the write has ended. -/
theorem tail_ended (a : AccessEnd) (h : s.lands e l rest) :
    (postFaultIf a e.chan .landing r.addr (endDevice r a s)).land.queue.tail = rest := by
  rw [postFaultIf_land]
  exact congrArg List.tail h.1

end

/-! ### The end of the word 0 write -/

section
variable {s : State} {r : DevReq} {e : LandEntry} {l : Landing} {rest : List LandEntry} {y : InSlot}

/-- A landing that is not kept is disposed of: with LANDING_FAULT if any of its writes faulted (R122, R151). -/
theorem disposeLanding_eq (a : AccessEnd) (s : State) : disposeLanding e (l.afterWrite a) s =
    if l.kept then s else dispose e (if l.fault = true ∨ a ≠ .ok then some .landingFault else none) s := by
  have hf : (l.afterWrite a).fault = true ↔ l.fault = true ∨ a ≠ .ok := by
    simp [Landing.afterWrite, ← accessOk_iff]
  simp only [disposeLanding, hf]
  rfl

/-- What the host is told of the slot: by the status in word 0, and the slot's notify bit (R150; log 16). -/
theorem returnSlot_eq (hn : s.land.notify e.chan l.slot = y.notify) :
    let s4 := if l.fault then s else { s with ev := { s.ev with counters := s.ev.counters.deliver e.chan } }
    let st : Status := if l.fault then .memoryFault else .delivered
    returnSlot e l l.status s =
      if y.notify then post .slotLanded e.chan (BitVec.ofNat 32 l.slot) (BitVec.ofNat 32 st.code) s4 else s4 := by
  intro s4 st
  have told : (if l.status = .delivered then count (Counters.deliver e.chan) s else s) = s4 := by
    cases hf : l.fault <;> simp only [s4, Landing.status, hf] <;> rfl
  have notify : s4.land.notify e.chan l.slot = y.notify := by
    refine Eq.trans ?_ hn
    simp only [s4]
    split <;> rfl
  simp only [returnSlot, told, notify]
  rfl

/-- The slot is HOST, with its notify bit. -/
theorem setInState_slot? (c : Chan) (i : Nat) (st : InState) (hy : s.land.slot? c i = some y) :
    (setInState c i st s).land.slot? c i = some { y with state := st } := by
  have hs : s.land.rings[(c : Nat)].slots[i]? = some y := hy
  simp [LandingEngine.slot?, setInState, LandingEngine.onRing, InRing.setState, InRing.onSlot, hs]

theorem slot?_of_landQueue {t : State} (h : t.landQueue = s.landQueue) (c : Chan) (i : Nat) :
    t.land.slot? c i = s.land.slot? c i := by
  have hr : t.land.rings = s.land.rings := congrArg Prod.fst h
  simp only [LandingEngine.slot?, hr]

/-- The effects of the end of the word 0 write, in order: the slot returned, the landing disposed of, the host told,
the next entry's turn, the end of a drain (R122, R150, R151, R154, R159, R161). -/
theorem endLandWord0_eq (a : AccessEnd) (h : s.lands e l rest) (hy : s.land.slot? e.chan l.slot = some y) :
    let s1 := postFaultIf a e.chan .landing r.addr s
    let s2 := leaveLanding e.chan l.slot (setInState e.chan l.slot .host s1)
    let s3 := if l.kept then s2 else dispose e (if l.fault = true ∨ a ≠ .ok then some .landingFault else none) s2
    let s4 := if l.fault then s3 else { s3 with ev := { s3.ev with counters := s3.ev.counters.deliver e.chan } }
    let st : Status := if l.fault then .memoryFault else .delivered
    let s5 := if y.notify then post .slotLanded e.chan (BitVec.ofNat 32 l.slot) (BitVec.ofNat 32 st.code) s4 else s4
    endLandWord0 a r s = finishInDrain e.chan (runQueue rest s5) := by
  intro s1 s2 s3 s4 st s5
  have disposed : disposeLanding e (l.afterWrite a) s2 = s3 := disposeLanding_eq a s2
  have kept : s3.landQueue = s2.landQueue := disposed ▸ disposeLanding_landQueue s2 e _
  have slot : s3.land.slot? e.chan l.slot = some { y with state := .host } := by
    rw [slot?_of_landQueue kept, slot?_of_landQueue (leaveLanding_landQueue _ _ _)]
    exact setInState_slot? _ _ _ (by rwa [postFaultIf_land])
  have notify := notify_eq slot
  have told : returnSlot e l l.status s3 = s5 := returnSlot_eq (y := y) notify
  have queue : s5.land.queue.tail = rest := by
    have hq : s5.landQueue = (setInState e.chan l.slot .host s1).landQueue :=
      (told ▸ returnSlot_landQueue s3 e l _).trans (kept.trans (leaveLanding_landQueue _ _ _))
    have hs : (setInState e.chan l.slot .host s1).land.queue = e :: rest := by
      rw [← h.1, ← postFaultIf_land a e.chan .landing r.addr s]
      rfl
    rw [show s5.land.queue = _ from congrArg Prod.snd hq]
    exact congrArg List.tail hs
  simp only [endLandWord0, head?_lands h]
  change finishInDrain e.chan (runQueue (returnSlot e l l.status (disposeLanding e (l.afterWrite a) s2)).land.queue.tail
    (returnSlot e l l.status (disposeLanding e (l.afterWrite a) s2))) = _
  rw [disposed, told, queue]

theorem exec_landWord0End (a : AccessEnd) (hs : s.serves .landWord0 r) :
    exec (.landingWord0WriteEnd a) s = .next (endLandWord0 a r (endDevice r a s)) := by
  refine (deviceEnd_serves _ _ a s r hs rfl).trans ?_
  obtain ⟨-, -, hp⟩ := hs
  simp only [ownerGoesOn, hp]

end

/-! ### The turn of the next entries, and the end of a drain -/

theorem runQueue_refusal {e : LandEntry} {rest : List LandEntry} {s : State} {r : Reason} (h : e.verdict = .refusal r) :
    runQueue (e :: rest) s =
      runQueue rest (dispose e (some r) { s with land := { s.land with queue := e :: rest } }) := by
  rw [runQueue]
  simp only [h]

theorem runQueue_begun {e : LandEntry} {rest : List LandEntry} {s : State} {l : Landing} (h : e.verdict = .landing l)
    (hp : l.phase ≠ .waiting) : runQueue (e :: rest) s = { s with land := { s.land with queue := e :: rest } } := by
  rw [runQueue]
  simp only [h, if_neg hp]

theorem runQueue_starts {e : LandEntry} {rest : List LandEntry} {s : State} {l : Landing} {x : Burst}
    {more : List Burst} (h : e.verdict = .landing l) (hp : l.phase = .waiting)
    (hb : planBursts (payloadOffsets e.length) = x :: more) : runQueue (e :: rest) s =
      s.landsNext e l rest (.payload (x :: more)) ⟨.landPayload, true,
        s.wm.slotAddr e.chan l.slot + 4 * x.off, (List.range' x.off x.len).map (payloadWord l.payload)⟩ := by
  rw [runQueue]
  simp only [h, if_pos hp, startLanding, hb]
  rfl

theorem isStopping_iff (m : Matcher) (c : Chan) : m.isStopping c = true ↔ ∃ cfg, m.chans[c].state = .stopping cfg := by
  unfold Matcher.isStopping
  cases m.chans[c].state <;> simp

theorem inDrained_iff (c : Chan) (s : State) : inDrained c s = true ↔
    (∃ cfg, s.wm.chans[c].state = .stopping cfg ∧ cfg.isInbound = true)
      ∧ ∀ x ∈ s.land.rings[c].slots, x.state ≠ .landing := by
  simp only [inDrained, Bool.and_eq_true, isStopping_iff, List.all_eq_true, decide_eq_true_eq]
  refine and_congr_left fun _ => ⟨fun ⟨⟨cfg, hc⟩, hi⟩ => ⟨cfg, hc, ?_⟩, fun ⟨cfg, hc, hi⟩ => ⟨⟨cfg, hc⟩, ?_⟩⟩
  · simpa only [Matcher.isInbound, Matcher.cfg?, hc, ChanState.cfg?] using hi
  · simpa only [Matcher.isInbound, Matcher.cfg?, hc, ChanState.cfg?] using hi

theorem finishInDrain_ends {c : Chan} {s : State} (h : inDrained c s = true) :
    finishInDrain c s = endCommand .done 0#32 { s with
      wm := { s.wm with chans := s.wm.chans.set c ⟨.off, s.wm.chans[c].generation⟩ }
      land := { s.land with rings := s.land.rings.set c ⟨[], 0, 0⟩ } } := by
  rw [finishInDrain, if_pos h]
  rfl

/-- Settles O49. -/
theorem landingWriteEnds : Obligations.LandingWriteEnds := by
  refine ⟨⟨fun s r a e l rest h => ⟨fun hs bursts hp => ⟨?_, fun hn => ?_⟩, fun hs y hy => ?_⟩,
      fun payload off j ho hj => ⟨payloadEnables_getLsbD _ ho hj, fun b => lane_payloadWord ho hj⟩⟩,
    fun s r a e l rest y hs h hy => ?_, fun s => ⟨rfl, fun e rest => ⟨fun r => runQueue_refusal,
      fun l hv => ⟨runQueue_begun hv, fun x more => runQueue_starts hv⟩⟩⟩, fun c s => ?_⟩
  · rintro x y more rfl rfl
    have left : l.restBursts .ok = y :: more := restBursts_eq .ok hp
    rw [exec_landPayloadEnd _ hs h, left, toPayload_cons (tail_ended _ h)]
    rfl
  · rw [exec_landPayloadEnd _ hs h, restBursts_none hp hn, toPayload_nil (tail_ended _ h)]
    cases a <;> rfl
  · have slot : (postFaultIf a e.chan .landing r.addr (endDevice r a s)).land.slot? e.chan (l.afterWrite a).slot
        = some y := by rw [postFaultIf_land]; exact hy
    rw [exec_landHeaderEnd _ hs h, toControl_eq (tail_ended _ h) slot]
    cases a <;> rfl
  · have ended := endLandWord0_eq (s := endDevice r a s) (r := r) a h hy
    rw [exec_landWord0End a hs, ended]
    cases a <;> rfl
  · dsimp only
    rw [← inDrained_iff]
    exact ⟨fun hn => if_neg hn, finishInDrain_ends⟩

end Sys2Proof.Machine

namespace Sys2Proof.Machine

/-! ## The bounds of capture and of credit (R59, R135, R136)

At most 14 buffers are bound for capture, and no available credit exceeds 32767. Only a capture attach binds one more
buffer for capture, and it takes place below the limit; only a CREDIT raises available credit, within the bound of R135,
and a first send, which lowers it, is made at a credit above 0.
Each bound is kept on its own, so it is stated from the state `a` that a step starts in. -/

/-- The bound of capture, if it holds in `a` (R59). -/
def CaptureUnit.Keeps (u : CaptureUnit) (a : State) : Prop := CaptureLaw a → u.captureCount ≤ 14

/-- The bound of credit, if it holds in `a` (R135, R136). -/
def CreditUnit.Keeps (u : CreditUnit) (a : State) : Prop := CreditLaw a → ∀ d : Chan, (u.send[d]).available ≤ 32767

/-- Of the two bounds, those that hold in `a`. -/
def State.Keeps (s a : State) : Prop := s.cap.Keeps a ∧ s.cred.Keeps a

theorem State.Keeps.refl (s : State) : s.Keeps s := ⟨id, id⟩

/-! ### The buffers bound for capture -/

/-- Counting what may in addition hold at `b` counts at most one more. -/
theorem countP_le_succ {α : Type} [DecidableEq α] {p q : α → Bool} {b : α} (l : List α)
    (h : ∀ x, p x = true → q x = true ∨ x = b) : l.countP p ≤ l.countP q + l.count b := by
  induction l with
  | nil => simp
  | cons x l ih =>
    have hx := h x
    by_cases hb : x = b
    · subst hb
      simp only [List.countP_cons, List.count_cons_self]
      split <;> split <;> omega
    · simp only [List.countP_cons, List.count_cons_of_ne hb]
      simp only [hb, or_false] at hx
      split <;> split <;> simp_all <;> omega

section
variable {a : State} {u v : CaptureUnit} {b : Buf} {c : Chan} {i : Nat}

theorem captureCount_mono (h : ∀ b : Buf, (v.bufs[b]).purpose = some .capture → (u.bufs[b]).purpose = some .capture) :
    v.captureCount ≤ u.captureCount :=
  List.countP_mono_left fun b _ hb => by simpa using h b (by simpa using hb)

theorem CaptureUnit.Keeps.mono (hu : u.Keeps a)
    (h : ∀ b : Buf, (v.bufs[b]).purpose = some .capture → (u.bufs[b]).purpose = some .capture) : v.Keeps a :=
  fun ha => Nat.le_trans (captureCount_mono h) (hu ha)

@[simp] theorem capBounds_update (u : CaptureUnit) (r : Vector OutRing 16) (c : Chan) (j : List ReadJob)
    (q : Option Refetch) (l : List (Chan × Nat)) (p : WbPhase) :
    CaptureUnit.Keeps ⟨r, u.bufs, c, j, q, l, p⟩ a ↔ u.Keeps a := Iff.rfl

/-- A change of one buffer that does not bind it for capture. -/
theorem onBuf_bounds {f : Buffer → Buffer} (hu : u.Keeps a)
    (hf : (f u.bufs[b]).purpose = some .capture → (u.bufs[b]).purpose = some .capture) : (u.onBuf b f).Keeps a := by
  refine hu.mono fun k => ?_
  by_cases hk : k = b
  · subst hk; rw [onBuf_bufs_same]; exact hf
  · rw [onBuf_bufs_other u b f hk]; exact id

theorem onSlot_bounds (f : OutSlot → OutSlot) (hu : u.Keeps a) : (u.onSlot c i f).Keeps a := hu

theorem unbindSlot_bounds (hu : u.Keeps a) : (u.unbindSlot b).Keeps a := by
  unfold CaptureUnit.unbindSlot
  split <;> exact hu

@[simp] theorem freeBuf_bounds (hu : u.Keeps a) : (u.freeBuf b).Keeps a :=
  onBuf_bounds (unbindSlot_bounds hu) nofun

@[simp] theorem drop_bounds (d : Drop) (hu : u.Keeps a) : (u.drop b d).Keeps a := by
  cases d with
  | free => exact freeBuf_bounds hu
  | freeze => exact onBuf_bounds hu id

@[simp] theorem makeReady_bounds (refetch : Bool) (hu : u.Keeps a) : (u.makeReady refetch c i b).Keeps a := by
  unfold CaptureUnit.makeReady
  split <;> exact onBuf_bounds (f := fun x => { x with state := .ready }) hu id

@[simp] theorem freeze_bounds (hu : u.Keeps a) : (u.freeze c i).Keeps a := by
  unfold CaptureUnit.freeze
  split
  · exact onBuf_bounds hu id
  · exact hu

theorem store_bounds (off : Nat) (be : BitVec 4) (d : Word) (hu : u.Keeps a) : (u.store b off be d).Keeps a :=
  onBuf_bounds hu id

/-- The capture attach binds one more buffer, below the limit (R59). -/
theorem attach_bounds (h : u.attach? = some b) : (u.attach c i b).Keeps a := by
  have hlt : u.captureCount < 14 := by
    unfold CaptureUnit.attach? at h
    split at h
    · assumption
    · cases h
  have hone : allBufs.count b = 1 := (by decide : ∀ b : Buf, allBufs.count b = 1) b
  have hle : (u.attach c i b).captureCount ≤ u.captureCount + allBufs.count b := by
    refine countP_le_succ _ fun k hk => ?_
    by_cases hb : k = b
    · exact .inr hb
    · left
      simpa [CaptureUnit.attach, onBuf_bufs_other u b _ hb] using hk
  intro _
  omega

@[simp] theorem captureWord_cap_bounds (off : Nat) (be : BitVec 4) (d : Word) (hu : u.Keeps a) :
    (u.captureWord c i off be d).Keeps a := by
  unfold CaptureUnit.captureWord
  split
  · split
    · split
      · next ha => exact store_bounds _ _ _ (attach_bounds ha)
      · exact hu
    · exact store_bounds _ _ _ hu
    · exact hu
  · exact hu

@[simp] theorem stageFrozen_bounds (hu : u.Keeps a) : (u.stageFrozen c i b).Keeps a :=
  onSlot_bounds _ (onBuf_bounds hu id)

@[simp] theorem stageGranted_bounds (hu : u.Keeps a) : (u.stageGranted c i b).Keeps a :=
  onBuf_bounds (f := fun _ => ⟨.loading, some .staging, some (c, i), []⟩) hu nofun

@[simp] theorem startRefetch_bounds (r : Refetch) (hu : u.Keeps a) : (u.startRefetch r b).Keeps a :=
  onBuf_bounds (f := fun _ => ⟨.loading, some .refetch, some (r.chan, r.slot), []⟩) hu nofun

theorem refetchBuf?_bounded (hu : u.Keeps a) (h : u.refetchBuf? = some (b, v)) : v.Keeps a := by
  unfold CaptureUnit.refetchBuf? at h
  split at h
  · cases h; exact hu
  · obtain ⟨cb, -, rfl⟩ : ∃ cb, _ ∧ u.reclaim (Prod.fst cb) = v := by
      obtain ⟨cb, hcb, he⟩ := Option.map_eq_some_iff.mp h
      exact ⟨cb, hcb, congrArg Prod.snd he⟩
    exact hu

@[simp] theorem sendBuf_bounds (hu : u.Keeps a) : (u.sendBuf b).Keeps a := onBuf_bounds hu id

@[simp] theorem takeNew_bounds (hu : u.Keeps a) : (u.takeNew c b).Keeps a := sendBuf_bounds hu

end

/-! ### The send records -/

section
variable {a : State} {u : CreditUnit} {c d : Chan}

@[simp] theorem credBounds_update (u : CreditUnit) (r : Vector RecvRecord 16) (t : Option Nat)
    (q : List CreditArrival) : CreditUnit.Keeps ⟨r, u.send, t, q⟩ a ↔ u.Keeps a := Iff.rfl

theorem onSend_send (f : SendRecord → SendRecord) :
    (u.onSend d f).send[c] = if c = d then f u.send[d] else u.send[c] := by
  simp only [CreditUnit.onSend, Fin.getElem_fin, Vector.getElem_set]
  split
  · next h => rw [if_pos (Fin.ext h.symm)]
  · next h => rw [if_neg fun k => h (congrArg Fin.val k.symm)]

theorem onSend_bounds {f : SendRecord → SendRecord} (hu : u.Keeps a)
    (hf : u.Keeps a → CreditLaw a → (f u.send[d]).available ≤ 32767) : (u.onSend d f).Keeps a := fun ha c => by
  rw [onSend_send]
  split
  · exact hf hu ha
  · exact hu ha c

/-- A first send lowers a credit above 0 by 1 (R137). -/
theorem charge_available (r : SendRecord) (h : 0 < r.available) : r.charge.available = r.available - 1 := by
  cases ha : r.advertised with
  | none => simp [SendRecord.available, ha] at h
  | some a =>
    simp only [SendRecord.available, SendRecord.charge, ha] at h ⊢
    bv_omega

@[simp] theorem onRecv_bounds (f : RecvRecord → RecvRecord) : (u.onRecv c f).Keeps a ↔ u.Keeps a := Iff.rfl

@[simp] theorem linkReset_bounds : u.linkReset.Keeps a := fun _ d => by
  simp [CreditUnit.linkReset, SendRecord.reset, SendRecord.available]

end

/-! ### The operations keep the bounds -/

section
variable {a s : State}

@[simp] theorem bounds_update (b : Bool) (now : Word) (i : Bool) (o : List (Option LinkWord))
    (m : List Host.Cell) (h : HostPort) (p : Option HostAccess) (r : Option HostAnswer) (g : MemPort) (q : Requests)
    (w : Matcher) (c : CommandUnit) (u : CaptureUnit) (l : LinkController) (x : TransmitEngine) (e : LandingEngine)
    (d : CreditUnit) (v : EventUnit) (f : Nat) (n : List Instr) :
    State.Keeps ⟨b, now, i, o, m, h, p, r, g, q, w, c, u, l, x, e, d, v, f, n⟩ a ↔ u.Keeps a ∧ d.Keeps a := Iff.rfl

@[simp] theorem capture_and_credit (s : State) : s.cap.Keeps a ∧ s.cred.Keeps a ↔ s.Keeps a := Iff.rfl

theorem bounds_foldl {α : Type} {f : State → α → State} (hf : ∀ s x, s.Keeps a → (f s x).Keeps a) (l : List α)
    (h : s.Keeps a) : (l.foldl f s).Keeps a := by
  induction l generalizing s with
  | nil => exact h
  | cons x l ih => exact ih (hf s x h)

theorem bounds_foldl_iff {α : Type} {f : State → α → State} (hf : ∀ s x, (f s x).Keeps a ↔ s.Keeps a) (l : List α)
    : (l.foldl f s).Keeps a ↔ s.Keeps a := by
  induction l generalizing s with
  | nil => rfl
  | cons x l ih => exact ih.trans (hf s x)

/-- An operation that changes neither the buffers nor the send records. -/
theorem bounds_congr {t : State} (hb : t.cap.bufs = s.cap.bufs) (hs : t.cred.send = s.cred.send) :
    t.Keeps a ↔ s.Keeps a := by
  simp only [State.Keeps, CaptureUnit.Keeps, CreditUnit.Keeps, CaptureUnit.captureCount, hb, hs]

theorem State.Keeps.of_eq {t : State} (h : s.Keeps a) (hb : t.cap.bufs = s.cap.bufs)
    (hs : t.cred.send = s.cred.send) : t.Keeps a := (bounds_congr hb hs).mpr h

@[simp] theorem cap_bounds (h : s.Keeps a) : s.cap.Keeps a := h.1

@[simp] theorem cred_bounds (h : s.Keeps a) : s.cred.Keeps a := h.2

/-! ### Events, commands, counters -/

@[simp] theorem runRing_bounds : (runRing s).Keeps a ↔ s.Keeps a := bounds_congr rfl rfl

@[simp] theorem endCommand_bounds (r : Result) (d : Word) : (endCommand r d s).Keeps a ↔ s.Keeps a :=
  bounds_congr rfl rfl

@[simp] theorem count_bounds (f : Counters → Counters) : (count f s).Keeps a ↔ s.Keeps a := bounds_congr rfl rfl

@[simp] theorem present_bounds (r : DevReq) : (present r s).Keeps a ↔ s.Keeps a := bounds_congr rfl rfl

@[simp] theorem post_bounds (k : EventKind) (c : Chan) (d1 d2 : Word) : (post k c d1 d2 s).Keeps a ↔ s.Keeps a :=
  bounds_congr rfl rfl

@[simp] theorem postFaultIf_bounds (e : AccessEnd) (c : Chan) (o : Origin) (n : Nat) :
    (postFaultIf e c o n s).Keeps a ↔ s.Keeps a := by
  unfold postFaultIf
  split
  · rfl
  · exact post_bounds _ _ _ _

@[simp] theorem finishDrain_bounds : (finishDrain s).Keeps a ↔ s.Keeps a := by
  unfold finishDrain
  split
  · exact bounds_congr rfl rfl
  · rfl

@[simp] theorem consumerChanged_bounds : (consumerChanged s).Keeps a ↔ s.Keeps a := by
  unfold consumerChanged
  dsimp only
  split <;> exact finishDrain_bounds.trans (bounds_congr rfl rfl)

@[simp] theorem startEvents_bounds (c : Command) : (startEvents c s).Keeps a ↔ s.Keeps a := by
  unfold startEvents
  (repeat' split) <;> exact bounds_congr rfl rfl

@[simp] theorem stopEvents_bounds : (stopEvents s).Keeps a ↔ s.Keeps a := by
  unfold stopEvents
  split
  · exact bounds_congr rfl rfl
  · exact finishDrain_bounds.trans (bounds_congr rfl rfl)
  · rfl

@[simp] theorem startSnapshot_bounds (c : Command) : (startSnapshot c s).Keeps a ↔ s.Keeps a := bounds_congr rfl rfl

@[simp] theorem endRingWrite_bounds (k : RingKind) (e : AccessEnd) (r : DevReq) :
    (endRingWrite k e r s).Keeps a ↔ s.Keeps a := by
  unfold endRingWrite afterRing
  split
  · exact finishDrain_bounds.trans (bounds_congr rfl rfl)
  · exact finishDrain_bounds.trans (bounds_congr rfl rfl)
  · exact finishDrain_bounds.trans (bounds_congr rfl rfl)
  · unfold endStartWrite
    dsimp only
    split <;> exact bounds_congr rfl rfl

@[simp] theorem endSnapBurst_bounds (e : AccessEnd) (r : DevReq) : (endSnapBurst e r s).Keeps a ↔ s.Keeps a := by
  unfold endSnapBurst
  dsimp only
  (repeat' split) <;> simp

/-! ### Control frame requests and the Credit Unit -/

@[simp] theorem requestCtl_bounds (r : CtlReq) : (requestCtl r s).Keeps a ↔ s.Keeps a := bounds_congr rfl rfl

@[simp] theorem requestCredit_bounds (c : Chan) : (requestCredit c s).Keeps a ↔ s.Keeps a := by
  refine bounds_congr rfl ?_
  simp only [requestCredit_cred]
  split <;> rfl

@[simp] theorem reportPosted_bounds (c : Chan) : (reportPosted c s).Keeps a ↔ s.Keeps a := by
  unfold reportPosted
  split <;> simp

@[simp] theorem creditLoaded_bounds (c : Chan) (g : BitVec 8) (k : Nat) :
    (creditLoaded c g k s).Keeps a ↔ s.Keeps a := by
  simp [creditLoaded]

@[simp] theorem refreshCredits_bounds : (refreshCredits s).Keeps a ↔ s.Keeps a :=
  bounds_foldl_iff (fun s c => by split <;> simp) _

@[simp] theorem creditUpChan_bounds (s : State) (c : Chan) : (creditUpChan s c).Keeps a ↔ s.Keeps a := by
  unfold creditUpChan
  split <;> simp

@[simp] theorem creditLinkUp_bounds : (creditLinkUp s).Keeps a ↔ s.Keeps a := by
  simp [creditLinkUp, bounds_foldl_iff creditUpChan_bounds]

@[simp] theorem refreshExpires_bounds : (refreshExpires s).Keeps a ↔ s.Keeps a := by
  unfold refreshExpires
  dsimp only
  split <;> simp

@[simp] theorem clearQueued_bounds (c : Chan) : (clearQueued c s).Keeps a ↔ s.Keeps a := bounds_congr rfl rfl

/-! ### The Capture Unit -/

@[simp] theorem presentRead_bounds : (presentRead s).Keeps a ↔ s.Keeps a := bounds_congr rfl rfl

@[simp] theorem removeJob_bounds (b : Buf) : (removeJob b s).Keeps a ↔ s.Keeps a := bounds_congr rfl rfl

@[simp] theorem dropJob_bounds (b : Buf) (d : Drop) (h : s.Keeps a) : (dropJob b d s).Keeps a := by
  unfold dropJob
  split
  · exact h.of_eq rfl rfl
  · exact presentRead_bounds.mpr ⟨drop_bounds d h.1, h.2⟩

@[simp] theorem startWriteback_bounds : (startWriteback s).Keeps a ↔ s.Keeps a := by
  unfold startWriteback
  (repeat' split) <;> simp

@[simp] theorem releaseBuf_bounds (b : Buf) (h : s.Keeps a) : (releaseBuf b s).Keeps a := by
  unfold releaseBuf
  split
  · exact ⟨onBuf_bounds (f := fun x => { x with binding := none }) (unbindSlot_bounds h.1) fun k => by simpa using k,
      h.2⟩
  all_goals simp [h]

@[simp] theorem releaseSlotBuf_bounds (c : Chan) (i : Nat) (h : s.Keeps a) : (releaseSlotBuf c i s).Keeps a := by
  unfold releaseSlotBuf
  split <;> simp [h]

@[simp] theorem completeSlot_bounds (c : Chan) (i : Nat) (st : Status) (sent : Option SentInfo) (h : s.Keeps a) :
    (completeSlot c i st sent s).Keeps a :=
  startWriteback_bounds.mpr ((releaseSlotBuf_bounds c i h).of_eq rfl rfl)

@[simp] theorem passTransmit_bounds (c : Chan) : (passTransmit c s).Keeps a ↔ s.Keeps a := bounds_congr rfl rfl

@[simp] theorem drainClosed_bounds (c : Chan) (n : Nat) (h : s.Keeps a) : (drainClosed c n s).Keeps a := by
  induction n generalizing s with
  | zero => exact h
  | succ n ih => unfold drainClosed; split <;> simp [ih, h]

@[simp] theorem settleClosed_bounds (c : Chan) (h : s.Keeps a) : (settleClosed c s).Keeps a :=
  drainClosed_bounds c _ h

@[simp] theorem takeCommit_bounds (c : Chan) (i len : Nat) (notify : Bool) (h : s.Keeps a) :
    (takeCommit c i len notify s).Keeps a := by
  have hr : (recordCommit c i len notify (count (Counters.handover c) s)).Keeps a := h.of_eq rfl rfl
  unfold takeCommit rejectCommit acceptCommit
  dsimp only
  (repeat' split)
  · simp [hr]
  · exact settleClosed_bounds c ⟨freeze_bounds hr.1, h.2⟩
  · simp [hr]
  · exact hr

@[simp] theorem captureWord_bounds (c : Chan) (i off : Nat) (be : BitVec 4) (d : Word) (h : s.Keeps a) :
    (captureWord c i off be d s).Keeps a := by
  unfold captureWord
  split <;> simp [h]

@[simp] theorem planReads_bounds (refetch : Bool) (c : Chan) (i len : Nat) (b : Buf) (h : s.Keeps a) :
    (planReads refetch c i len b s).Keeps a := by
  unfold planReads
  split <;> simp [h]

@[simp] theorem beginStaging_bounds (c : Chan) (h : s.Keeps a) : (beginStaging c s).Keeps a := by
  unfold beginStaging
  dsimp only
  (repeat' split)
  · exact planReads_bounds _ _ _ _ _ ⟨stageFrozen_bounds h.1, h.2⟩
  · exact h
  · exact planReads_bounds _ _ _ _ _ ⟨stageGranted_bounds h.1, h.2⟩
  all_goals exact h

@[simp] theorem finishDropped_bounds (b : Buf) (d : Drop) (h : s.Keeps a) : (finishDropped b d s).Keeps a :=
  presentRead_bounds.mpr ⟨drop_bounds d h.1, h.2⟩

@[simp] theorem acceptRead_bounds (j : ReadJob) (r : DevReq) (h : s.Keeps a) : (acceptRead j r s).Keeps a := by
  have hs : (storeBurst j r s).Keeps a := ⟨onBuf_bounds h.1 id, h.2⟩
  unfold acceptRead
  dsimp only
  split
  · exact presentRead_bounds.mpr ⟨makeReady_bounds _ hs.1, h.2⟩
  · exact presentRead_bounds.mpr (hs.of_eq rfl rfl)

@[simp] theorem endStagingRead_bounds (b : Buf) (e : AccessEnd) (r : DevReq) (h : s.Keeps a) :
    (endStagingRead b e r s).Keeps a := by
  unfold endStagingRead faultStaging postFault
  (repeat' split) <;> simp [h]

@[simp] theorem grantRefetch_bounds (h : s.Keeps a) : (grantRefetch s).Keeps a := by
  unfold grantRefetch
  (repeat' split)
  · next hb => simp [h, refetchBuf?_bounded h.1 hb]
  all_goals exact h

@[simp] theorem cancelCaptureRefetch_bounds (h : s.Keeps a) : (cancelCaptureRefetch s).Keeps a := by
  unfold cancelCaptureRefetch
  dsimp only
  (repeat' split) <;> simp [h]

@[simp] theorem setChan_bounds (c : Chan) (st : ChanState) : (setChan c st s).Keeps a ↔ s.Keeps a :=
  bounds_congr rfl rfl

@[simp] theorem emptyFilling_bounds (c : Chan) (i : Nat) (h : s.Keeps a) : (emptyFilling c s i).Keeps a := by
  unfold emptyFilling
  (repeat' split)
  · exact (releaseSlotBuf_bounds c i h).of_eq rfl rfl
  all_goals exact h

@[simp] theorem stopSlot_bounds (c : Chan) (i : Nat) (h : s.Keeps a) : (stopSlot c s i).Keeps a := by
  unfold stopSlot
  (repeat' split) <;> simp [h]

@[simp] theorem finishOutDrain_bounds (c : Chan) : (finishOutDrain c s).Keeps a ↔ s.Keeps a := by
  unfold finishOutDrain
  split
  · exact bounds_congr rfl rfl
  · rfl

@[simp] theorem stopOutbound_bounds (c : Chan) (cfg : ChanCfg) (h : s.Keeps a) : (stopOutbound c cfg s).Keeps a :=
  (finishOutDrain_bounds c).mpr (bounds_foldl (fun _ i => stopSlot_bounds c i) _
    (bounds_foldl (fun _ i => emptyFilling_bounds c i) _ ((setChan_bounds c _).mpr h)))

@[simp] theorem resetSlot_bounds (c : Chan) (i : Nat) (h : s.Keeps a) : (resetSlot c s i).Keeps a := by
  unfold resetSlot
  dsimp only
  (repeat' split)
  · exact ⟨onSlot_bounds _ (drop_bounds _ h.1), h.2⟩
  · exact ⟨onSlot_bounds _ (drop_bounds _ h.1), h.2⟩
  · exact (dropJob_bounds _ _ h).of_eq rfl rfl
  · exact (dropJob_bounds _ _ h).of_eq rfl rfl
  all_goals exact h

@[simp] theorem captureReset_bounds (h : s.Keeps a) : (captureReset s).Keeps a :=
  bounds_foldl (fun _ c hs => bounds_foldl (fun _ i => resetSlot_bounds c i) _ hs) _
    (cancelCaptureRefetch_bounds h)

@[simp] theorem endWbHeader_bounds (e : AccessEnd) (r : DevReq) : (endWbHeader e r s).Keeps a ↔ s.Keeps a := by
  unfold endWbHeader toWord0
  (repeat' split) <;> simp

@[simp] theorem returnOut_bounds (c : Chan) (i : Nat) (notify : Bool) (st : Status) :
    (returnOut c i notify st s).Keeps a ↔ s.Keeps a := by
  have hs : ({ s with cap := s.cap.slotDone c i }).Keeps a ↔ s.Keeps a := bounds_congr rfl rfl
  unfold returnOut postDone countReturned
  (repeat' split) <;> simp only [finishOutDrain_bounds, post_bounds, count_bounds, startWriteback_bounds, hs]

@[simp] theorem endWbWord0_bounds (e : AccessEnd) (r : DevReq) : (endWbWord0 e r s).Keeps a ↔ s.Keeps a := by
  unfold endWbWord0
  (repeat' split) <;> simp

/-! ### The Link Controller -/

@[simp] theorem callStatus_bounds : (callStatus s).Keeps a ↔ s.Keeps a := bounds_congr rfl rfl

@[simp] theorem statusEnd_bounds (e : AccessEnd) (r : DevReq) : (statusEnd e r s).Keeps a ↔ s.Keeps a := by
  unfold statusEnd
  dsimp only
  split <;> simp

@[simp] theorem trySync_bounds : (trySync s).Keeps a ↔ s.Keeps a := by
  unfold trySync
  split
  · exact bounds_congr rfl rfl
  · rfl

@[simp] theorem acknowledge_bounds : (acknowledge s).Keeps a ↔ s.Keeps a := by
  unfold acknowledge
  dsimp only
  split <;> simp

@[simp] theorem linkReset_state_bounds (cause : Cause) : (linkReset cause s).Keeps a ↔ s.Keeps a := by
  unfold linkReset postDown
  dsimp only
  split <;> exact bounds_congr rfl rfl

@[simp] theorem reportReset_bounds (cause : Cause) : (reportReset cause s).Keeps a ↔ s.Keeps a := by
  unfold reportReset
  split <;> simp

@[simp] theorem takeInit_bounds (epoch : Epoch) (heard : Option Epoch) :
    (takeInit epoch heard s).Keeps a ↔ s.Keeps a := by
  unfold takeInit enterUp
  dsimp only
  (repeat' split) <;> simp

@[simp] theorem startEnable_bounds : (startEnable s).Keeps a ↔ s.Keeps a := by
  unfold startEnable
  split <;> exact bounds_congr rfl rfl

@[simp] theorem startDisable_bounds : (startDisable s).Keeps a ↔ s.Keeps a := by
  unfold startDisable
  split <;> simp

@[simp] theorem linkRecordEnd_bounds (e : AccessEnd) (r : DevReq) :
    (linkRecordEnd e r s).Keeps a ↔ s.Keeps a := by
  unfold linkRecordEnd
  dsimp only
  (repeat' split) <;> exact bounds_congr rfl rfl

@[simp] theorem setRx_bounds (rx : LaneRx) : (setRx rx s).Keeps a ↔ s.Keeps a := bounds_congr rfl rfl

@[simp] theorem lockFound_bounds (ws : List LinkWord) : (lockFound ws s).Keeps a ↔ s.Keeps a := by
  unfold lockFound
  split <;> simp

@[simp] theorem lockLost_bounds (ws : List LinkWord) : (lockLost ws s).Keeps a ↔ s.Keeps a := by
  unfold lockLost
  dsimp only
  (repeat' split) <;> simp

@[simp] theorem initArrives_bounds (ws : List LinkWord) : (initArrives ws s).Keeps a ↔ s.Keeps a := by
  unfold initArrives
  split <;> simp

@[simp] theorem initTimerExpires_bounds : (initTimerExpires s).Keeps a ↔ s.Keeps a := by
  unfold initTimerExpires
  split <;> simp

@[simp] theorem syncTimerExpires_bounds : (syncTimerExpires s).Keeps a ↔ s.Keeps a := by
  unfold syncTimerExpires
  split <;> simp

/-! ### The Transmit Engine -/

@[simp] theorem transmit_bounds (f : Frame) (b : Option Buf) : (transmit f b s).Keeps a ↔ s.Keeps a :=
  bounds_congr rfl rfl

@[simp] theorem popCtl_bounds : (popCtl s).Keeps a ↔ s.Keeps a := bounds_congr rfl rfl

@[simp] theorem cancelRefetch_bounds (h : s.Keeps a) : (cancelRefetch s).Keeps a := by
  unfold cancelRefetch
  split <;> simp [h]

@[simp] theorem restOn_bounds (x : ReplayEntry) : (restOn x s).Keeps a ↔ s.Keeps a := by
  unfold restOn retryLimitReached haltPass requestRefetch
  (repeat' split) <;> simp

@[simp] theorem movePass_bounds (x : ReplayEntry) (h : s.Keeps a) : (movePass x s).Keeps a := by
  unfold movePass
  dsimp only
  split <;> simp [h]

@[simp] theorem startPass_bounds (x : ReplayEntry) (h : s.Keeps a) : (startPass x s).Keeps a := by
  simp [startPass, h]

/-- A READY new frame is offered at a credit above 0 (R70, R136). -/
theorem firstTurn?_credit {c : Chan} {b : Buf} (h : firstTurn? s = some (c, b)) : 0 < (sendRecord s c).available := by
  unfold firstTurn? at h
  split at h
  · obtain ⟨d, -, hd⟩ := List.exists_of_findSome?_eq_some h
    obtain ⟨b', ho, he⟩ := Option.map_eq_some_iff.mp hd
    cases he
    obtain ⟨x, -, -, -, -, hx⟩ := offered?_eq_some.mp ho
    exact hx
  · cases h

/-- The send record of a channel whose destination has a credit above 0 takes the charge (R137). -/
theorem chargeSend_bounds {c : Chan} (hg : 0 < (sendRecord s c).available) (h : s.Keeps a) :
    (chargeSend c s).Keeps a := by
  refine ⟨h.1, ?_⟩
  unfold chargeSend
  dsimp only
  split
  · next cfg hc =>
    split
    · next d hd =>
      simp only [sendRecord, hc, hd] at hg
      refine onSend_bounds h.2 fun hu ha => ?_
      have hle := hu ha d
      rw [charge_available _ hg]
      omega
    · exact h.2
  · exact h.2

@[simp] theorem firstSendFrame_bounds (h : s.Keeps a) : (firstSendFrame s).Keeps a := by
  unfold firstSendFrame
  split
  · next c b ht =>
    have hg := firstTurn?_credit ht
    exact (transmit_bounds _ _).mpr (chargeSend_bounds hg ⟨takeNew_bounds h.1, h.2⟩)
  · exact h

@[simp] theorem resendFrame_bounds (h : s.Keeps a) : (resendFrame s).Keeps a := by
  unfold resendFrame sendAgain advancePass
  dsimp only
  (repeat' split) <;> simp [h]

@[simp] theorem sendInitFrame_bounds : (sendInitFrame s).Keeps a ↔ s.Keeps a := by
  unfold sendInitFrame
  split <;> simp

@[simp] theorem sendAckFrame_bounds : (sendAckFrame s).Keeps a ↔ s.Keeps a := by
  unfold sendAckFrame resetBatch
  split <;> simp

@[simp] theorem sendNakFrame_bounds : (sendNakFrame s).Keeps a ↔ s.Keeps a := by
  unfold sendNakFrame
  split <;> simp

@[simp] theorem sendCreditFrame_bounds : (sendCreditFrame s).Keeps a ↔ s.Keeps a := by
  unfold sendCreditFrame
  (repeat' split) <;> simp

@[simp] theorem endSend_bounds (how : SendEnd) (h : s.Keeps a) : (endSend how s).Keeps a := by
  unfold endSend reportEnd driveLane
  (repeat' split) <;> simp [h]

@[simp] theorem completeEntry_bounds (st : ReplayEntry → Status) (x : ReplayEntry) (h : s.Keeps a) :
    (completeEntry st s x).Keeps a := by
  unfold completeEntry
  dsimp only
  split <;> simp [h]

@[simp] theorem adjustPass_bounds (h : s.Keeps a) : (adjustPass s).Keeps a := by
  unfold adjustPass
  (repeat' split) <;> simp [h]

@[simp] theorem coverAck_bounds (q : Seq) (rs : List RefusalEntry) (h : s.Keeps a) : (coverAck q rs s).Keeps a := by
  have hs (r : List ReplayEntry) : ({ s with tx := { s.tx with replay := r } }).Keeps a := h.of_eq rfl rfl
  exact adjustPass_bounds ((bounds_foldl (fun _ x => completeEntry_bounds _ x) _ (hs _)).of_eq rfl rfl)

@[simp] theorem ackTaken_bounds (h : s.Keeps a) : (ackTaken s).Keeps a := by
  have hp : (popTransmit s).Keeps a := h.of_eq rfl rfl
  unfold ackTaken takeAck
  (repeat' split) <;> simp [hp, h]

@[simp] theorem nakTaken_bounds (h : s.Keeps a) : (nakTaken s).Keeps a := by
  have hp : (popTransmit s).Keeps a := h.of_eq rfl rfl
  unfold nakTaken takeNak coverNak
  dsimp only
  (repeat' split) <;> simp [hp, h]

@[simp] theorem ackArrives_bounds (ws : List LinkWord) : (ackArrives ws s).Keeps a ↔ s.Keeps a := by
  unfold ackArrives handTransmit
  split <;> simp

@[simp] theorem nakArrives_bounds (ws : List LinkWord) : (nakArrives ws s).Keeps a ↔ s.Keeps a := by
  unfold nakArrives handTransmit
  split <;> simp

@[simp] theorem ackTimerTurn_bounds (h : s.Keeps a) : (ackTimerTurn s).Keeps a := by
  unfold ackTimerTurn ackTimerExpires expiryPass
  dsimp only
  (repeat' split) <;> simp [h]

@[simp] theorem endRefetchRead_bounds (b : Buf) (e : AccessEnd) (r : DevReq) (h : s.Keeps a) :
    (endRefetchRead b e r s).Keeps a := by
  unfold endRefetchRead faultRefetch haltPass postFault
  dsimp only
  (repeat' split) <;> simp [h]

@[simp] theorem transmitReset_bounds (h : s.Keeps a) : (transmitReset s).Keeps a := by
  have hs : ({ s with tx := { s.tx with replay := [] } }).Keeps a := h.of_eq rfl rfl
  exact (cancelRefetch_bounds (bounds_foldl (fun _ x => completeEntry_bounds _ x) s.tx.replay hs)).of_eq rfl rfl

/-! ### The Landing Engine -/

@[simp] theorem reportPostedTimes_bounds (c : Chan) (n : Nat) :
    (reportPostedTimes c n s).Keeps a ↔ s.Keeps a := by
  induction n generalizing s with
  | zero => rfl
  | succ n ih => exact ih.trans (reportPosted_bounds c)

@[simp] theorem takeRelease_bounds (c : Chan) (i : Nat) (notify : Bool) :
    (takeRelease c i notify s).Keeps a ↔ s.Keeps a :=
  (reportPostedTimes_bounds c _).trans (bounds_congr rfl rfl)

@[simp] theorem askNak_bounds : (askNak s).Keeps a ↔ s.Keeps a := by
  unfold askNak
  split <;> simp

@[simp] theorem batchDisposal_bounds : (batchDisposal s).Keeps a ↔ s.Keeps a := by
  unfold batchDisposal
  dsimp only
  split <;> simp

@[simp] theorem dispose_bounds (x : LandEntry) (reason : Option Reason) :
    (dispose x reason s).Keeps a ↔ s.Keeps a := by
  unfold dispose listRefusal
  (repeat' split) <;> simp

@[simp] theorem toPayload_bounds (e : LandEntry) (l : Landing) (bursts : List Burst) :
    (toPayload e l bursts s).Keeps a ↔ s.Keeps a := by
  unfold toPayload
  split <;> exact bounds_congr rfl rfl

@[simp] theorem runQueue_bounds (q : List LandEntry) : (runQueue q s).Keeps a ↔ s.Keeps a := by
  induction q generalizing s with
  | nil => exact bounds_congr rfl rfl
  | cons e rest ih =>
    unfold runQueue startLanding
    dsimp only
    (repeat' split) <;> simp [ih]

@[simp] theorem takeData_bounds (c : Chan) (q : Seq) (user : Word) (payload : List Byte) :
    (takeData c q user payload s).Keeps a ↔ s.Keeps a := by
  unfold takeData accept enqueue
  dsimp only
  (repeat' split) <;> simp

@[simp] theorem dataTaken_bounds : (dataTaken s).Keeps a ↔ s.Keeps a := by
  unfold dataTaken takeArrival popLanding
  (repeat' split) <;> simp

@[simp] theorem dataArrives_bounds (ws : List LinkWord) : (dataArrives ws s).Keeps a ↔ s.Keeps a := by
  unfold dataArrives handLanding
  split <;> simp

@[simp] theorem damaged_bounds (ws : List LinkWord) : (damaged ws s).Keeps a ↔ s.Keeps a := by
  unfold damaged takeDamage reportDamage
  dsimp only
  (repeat' split) <;> simp

@[simp] theorem ackDelayExpires_bounds : (ackDelayExpires s).Keeps a ↔ s.Keeps a := by
  unfold ackDelayExpires
  split <;> simp

@[simp] theorem leaveLanding_bounds (c : Chan) (i : Nat) : (leaveLanding c i s).Keeps a ↔ s.Keeps a := by
  unfold leaveLanding
  dsimp only
  (repeat' split) <;> simp

@[simp] theorem guardTurn_bounds : (guardTurn s).Keeps a ↔ s.Keeps a := by
  unfold guardTurn guardExpires
  dsimp only
  (repeat' split) <;> simp

@[simp] theorem finishInDrain_bounds (c : Chan) : (finishInDrain c s).Keeps a ↔ s.Keeps a := by
  unfold finishInDrain
  split <;> simp

@[simp] theorem endLandPayload_bounds (e : AccessEnd) (r : DevReq) :
    (endLandPayload e r s).Keeps a ↔ s.Keeps a := by
  unfold endLandPayload
  split <;> simp

@[simp] theorem endLandHeader_bounds (e : AccessEnd) (r : DevReq) :
    (endLandHeader e r s).Keeps a ↔ s.Keeps a := by
  unfold endLandHeader
  split
  · exact (bounds_congr rfl rfl).trans (postFaultIf_bounds e _ .landing r.addr)
  · rfl

@[simp] theorem endLandWord0_bounds (e : AccessEnd) (r : DevReq) : (endLandWord0 e r s).Keeps a ↔ s.Keeps a := by
  unfold endLandWord0 returnSlot disposeLanding setInState
  dsimp only
  (repeat' split) <;> simp

theorem discardEntry_bounds (s : State) (e : LandEntry) : (discardEntry s e).Keeps a ↔ s.Keeps a := by
  unfold discardEntry returnPosted
  split <;> simp

@[simp] theorem landingNotice_bounds : (landingNotice s).Keeps a ↔ s.Keeps a := by
  unfold landingNotice landingReset
  dsimp only
  split
  · rfl
  · exact acknowledge_bounds.trans ((bounds_foldl_iff (fun _ c => finishInDrain_bounds c) _).trans
      ((bounds_foldl_iff discardEntry_bounds _).trans (bounds_congr rfl rfl)))

/-! ### Words, commands and records -/

@[simp] theorem latchRecordWord_bounds (s : State) (w : RecordWord) : (latchRecordWord s w).Keeps a ↔ s.Keeps a := by
  unfold latchRecordWord
  split
  · unfold afterLatch
    split
    · split
      · exact bounds_congr rfl rfl
      · exact consumerChanged_bounds.trans (bounds_congr rfl rfl)
    all_goals exact bounds_congr rfl rfl
  all_goals rfl

@[simp] theorem plainSlotWord_bounds (c : Chan) (i off : Nat) (w : RecordWord) (h : s.Keeps a) :
    (plainSlotWord c i off w s).Keeps a := by
  unfold plainSlotWord
  split <;> simp [h]

theorem slotRecordWord_bounds (p : SlotPass) (w : RecordWord) (h : p.state.Keeps a) :
    (slotRecordWord p w).state.Keeps a := by
  have word (c : Chan) (i off : Nat) : (p.word c i off w).state.Keeps a := by
    unfold SlotPass.word SlotPass.violate handover duplicate violation
    (repeat' split) <;> simp [h]
  unfold slotRecordWord
  split
  · exact word _ _ _
  · exact word _ _ _
  · exact h
  · exact h

theorem applySlots_bounds (ws : List RecordWord) (h : s.Keeps a) : (applySlots ws s).Keeps a := by
  have pass (p : SlotPass) (hp : p.state.Keeps a) : (ws.foldl slotRecordWord p).state.Keeps a := by
    induction ws generalizing p with
    | nil => exact hp
    | cons w ws ih => exact ih _ (slotRecordWord_bounds p w hp)
  exact pass ⟨s, []⟩ h

@[simp] theorem activate_bounds (n : Chan) (cfg : ChanCfg) : (activate n cfg s).Keeps a ↔ s.Keeps a := by
  unfold activate activateIn
  dsimp only
  split
  · exact bounds_congr rfl rfl
  · exact (endCommand_bounds _ _).trans ((creditLoaded_bounds _ _ _).trans (bounds_congr rfl rfl))

@[simp] theorem endLoad_bounds (n : Chan) (e : AccessEnd) (r : DevReq) : (endLoad n e r s).Keeps a ↔ s.Keeps a := by
  unfold endLoad judgeRecord postFault
  (repeat' split) <;> simp

@[simp] theorem startStop_bounds (c : Command) (h : s.Keeps a) : (startStop c s).Keeps a := by
  unfold startStop stopInbound
  (repeat' split) <;> simp [h]

@[simp] theorem execute_bounds (c : Command) (h : s.Keeps a) : (execute c s).Keeps a := by
  unfold execute startCommand startLoad
  (repeat' split) <;> simp [h]

@[simp] theorem commandArrival_bounds (c : Command) (h : s.Keeps a) : (commandArrival c s).Keeps a := by
  unfold commandArrival
  split <;> simp [h]

theorem applyRecord_bounds (r : WriteRecord) (h : s.Keeps a) : (applyRecord r s).Keeps a := by
  have hs : (applySlots r.words (applyLatches r.words s)).Keeps a :=
    applySlots_bounds _ ((bounds_foldl_iff latchRecordWord_bounds _).mpr h)
  unfold applyRecord applyCommand
  (repeat' split) <;> simp [h, hs]

@[simp] theorem endDetail_bounds (e : AccessEnd) (r : DevReq) : (endDetail e r s).Keeps a ↔ s.Keeps a := by
  unfold endDetail
  dsimp only
  (repeat' split) <;> simp

@[simp] theorem endResponse_bounds (e : AccessEnd) (r : DevReq) (h : s.Keeps a) : (endResponse e r s).Keeps a := by
  unfold endResponse
  dsimp only
  split <;> simp [h]

/-! ### Notices and CREDITs -/

@[simp] theorem captureNotice_bounds (h : s.Keeps a) : (captureNotice s).Keeps a := by
  unfold captureNotice
  split <;> simp [h]

@[simp] theorem transmitNotice_bounds (h : s.Keeps a) : (transmitNotice s).Keeps a := by
  unfold transmitNotice
  split <;> simp [h]

@[simp] theorem creditNotice_bounds (h : s.Keeps a) : (creditNotice s).Keeps a := by
  unfold creditNotice
  split <;> simp [h]

@[simp] theorem creditArrives_bounds (ws : List LinkWord) : (creditArrives ws s).Keeps a ↔ s.Keeps a := by
  unfold creditArrives handCredit
  split <;> simp

/-- A CREDIT is taken only when the record it leaves is within the bound (R135). -/
@[simp] theorem takeCredit_bounds (d : Chan) (isOpen : Bool) (g : BitVec 8) (v : BitVec 16) (h : s.Keeps a) :
    (takeCredit d isOpen g v s).Keeps a := by
  unfold takeCredit
  dsimp only
  split
  · next hb =>
    exact bounds_foldl (fun s c hs => by split <;> simp [hs]) _
      ⟨h.1, onSend_bounds (d := d) h.2 fun _ _ => of_decide_eq_true hb⟩
  · simp [h]

@[simp] theorem creditTaken_bounds (h : s.Keeps a) : (creditTaken s).Keeps a := by
  have hp : (popCredit s).Keeps a := h.of_eq rfl rfl
  unfold creditTaken
  split
  · exact takeCredit_bounds _ _ _ _ hp
  · exact h

/-! ### The host port, the memory port and time -/

@[simp] theorem arriveNext_bounds : (arriveNext s).Keeps a ↔ s.Keeps a := by
  unfold arriveNext arrive
  (repeat' split) <;> simp

@[simp] theorem presentAccess_bounds (x : HostAccess) : (presentAccess x s).Keeps a ↔ s.Keeps a := by
  unfold presentAccess leaveSelect arrive
  (repeat' split) <;> simp

@[simp] theorem arbitrate_bounds : (arbitrate s).Keeps a ↔ s.Keeps a := by
  unfold arbitrate grantHost grantDevice
  dsimp only
  (repeat' split) <;> simp

@[simp] theorem hostEnd_bounds (e : AccessEnd) : (hostEnd e s).Keeps a ↔ s.Keeps a := by
  unfold hostEnd endTransfer endHost
  split <;> simp

theorem ownerGoesOn_bounds (e : AccessEnd) (r : DevReq) (h : s.Keeps a) : (ownerGoesOn e r s).Keeps a := by
  unfold ownerGoesOn
  split <;> simp [h]

@[simp] theorem deviceEnd_bounds (mine : Purpose → Bool) (e : AccessEnd) (h : s.Keeps a) :
    (deviceEnd mine e s).Keeps a := by
  unfold deviceEnd atDeviceEnd
  (repeat' split)
  · exact ownerGoesOn_bounds e _ (h.of_eq rfl rfl)
  all_goals exact h

@[simp] theorem responseTimeout_bounds (kept : List Bool) (answered : List Word) (h : s.Keeps a) :
    (responseTimeout kept answered s).Keeps a := by
  unfold responseTimeout endTransfer endHost
  (repeat' split) <;> simp [h]

@[simp] theorem takeRecord_bounds (mine : Matcher → WriteRecord → Bool) (h : s.Keeps a) :
    (takeRecord mine s).Keeps a := by
  unfold takeRecord
  split
  · split
    · exact arriveNext_bounds.mpr (applyRecord_bounds _ (h.of_eq rfl rfl))
    · exact h
  all_goals exact h

@[simp] theorem tick_bounds : (tick s).Keeps a ↔ s.Keeps a := by
  unfold tick
  split
  · rfl
  · exact bounds_congr rfl rfl

end

/-! ### Every step (R59, R135, R136) -/

theorem live_bounds {f : State → State} {s t : State} (hf : ∀ a, s.Keeps a → (f s).Keeps a)
    (h : live f s = .next t) : t.Keeps s := by
  cases h
  split
  · exact .refl s
  · exact hf s (.refl s)

theorem reset_bounds (m : List Host.Cell) (f : Nat) (q : List Instr) (a : State) :
    State.Keeps { State.reset with mem := m, free := f, pending := q } a := by
  obtain ⟨-, -, capture, credit, -⟩ := lawsAtReset
  exact ⟨fun _ => capture, fun _ => credit⟩

theorem exec_bounds {c : Instr} {s t : State} (h : exec c s = .next t) : t.Keeps s := by
  cases c with
  | pinReset kept => cases h; exact reset_bounds _ _ _ s
  | resetNRelease straps =>
    cases h
    split
    · exact arriveNext_bounds.mpr ((State.Keeps.refl s).of_eq rfl rfl)
    · exact .refl s
  | hostReadArrival addr enables =>
    simp only [exec, execHostReadArrival] at h
    split at h <;> cases h
    exact (presentAccess_bounds _).mpr (.refl s)
  | hostWriteArrival addr words =>
    simp only [exec, execHostWriteArrival] at h
    split at h <;> cases h
    exact (presentAccess_bounds _).mpr (.refl s)
  | ackReceived how | nakReceived how | dataReceived how | creditReceived how =>
    cases how <;> exact live_bounds (fun a hs => by simp [hs]) h
  | _ => exact live_bounds (fun a hs => by simp [hs]) h

theorem step_bounds {s t : State} (h : step s = .next t) : t.Keeps s := by
  unfold step at h
  split at h
  · cases h; exact tick_bounds.mpr (.refl s)
  · exact (exec_bounds h : t.Keeps (s.withQueue _))

/-- Settles O57: every operation keeps each bound that holds where its step starts. -/
theorem boundsOfCaptureAndCredit : Obligations.BoundsOfCaptureAndCredit :=
  ⟨fun _ _ hs h => (step_bounds h).1 hs, fun _ _ hs h => (step_bounds h).2 hs⟩

end Sys2Proof.Machine

namespace Sys2Proof.Machine

/-! ## Buffers given back (R58), and the ends of sends (R72, R83, R106) -/

/-- A buffer bound to no slot returns to FREE alone. -/
theorem freeBuf_unbound {u : CaptureUnit} {b : Buf} (h : u.bufs[b].binding = none) :
    u.freeBuf b = { u with bufs := u.bufs.set b ⟨.free, none, none, []⟩ } := by
  simp only [CaptureUnit.freeBuf, CaptureUnit.unbindSlot, h]
  rfl

/-- One bound to a slot returns to FREE, and the slot loses it. -/
theorem freeBuf_bound {u : CaptureUnit} {b : Buf} {c : Chan} {i : Nat} (h : u.bufs[b].binding = some (c, i)) :
    u.freeBuf b = { u.onSlot c i (OutSlot.unbind b) with bufs := u.bufs.set b ⟨.free, none, none, []⟩ } := by
  simp only [CaptureUnit.freeBuf, CaptureUnit.unbindSlot, h]
  rfl

section
variable {s : State}

theorem exec_frameSendEnd (how : SendEnd) (h : s.on) : exec (.frameSendEnd how) s = .next (endSend how s) :=
  live_on _ s h

/-- A free transmitter leaves idle words on the lane, or silence in OFF (R83). -/
theorem laneStream_free (l : LinkController) {t : TransmitEngine} (h : t.sending = none) :
    laneStream l t = if l.state = .off then [none] else [some .idle] := by
  rw [laneStream_eq, h]

/-- The state when the frame on the lane has ended whole, before its buffer is given back (R83). -/
def State.sendEnded (s : State) : State :=
  { s with
    tx := { s.tx with sending := none }
    laneOut := if s.link.state = .off then [none] else [some .idle] }

theorem endSend_whole {x : Send} (h : s.tx.sending = some x) : endSend .whole s = reportEnd x s.sendEnded := by
  have idle := laneStream_free s.link (t := { s.tx with sending := none }) rfl
  simp only [endSend, h, driveLane]
  rw [idle]
  rfl

/-- Given back for a frame on its end: its buffer, as the Capture Unit gives one back (R58). -/
theorem endSend_whole_buf {ws : List Word} {b : Buf} (h : s.tx.sending = some ⟨ws, some b⟩) :
    endSend .whole s = { s.sendEnded with cap := s.cap.freeBuf b } := by
  rw [endSend_whole h]
  rfl

end

/-- Settles O44: the end of each send, by whether it has a buffer and the buffer a slot. -/
theorem sendEnds : Obligations.SendEnds := by
  intro s on
  refine ⟨fun h => ?_, fun ws h => ?_, fun ws b h hb => ?_, fun ws b c i h hb => ?_, fun h => ?_,
    fun ws rest h hn => ?_, fun ws b rest h hn => ?_⟩ <;> rw [exec_frameSendEnd _ on]
  · simp [endSend, h]
  · rw [endSend_whole h]; rfl
  · rw [endSend_whole_buf h, freeBuf_unbound hb]; rfl
  · rw [endSend_whole_buf h, freeBuf_bound hb]; rfl
  · unfold endSend
    rcases h with h | h
    · simp [h]
    · simp only [h, if_false]
      split <;> rfl
  · simp [endSend, h, hn, reportEnd]
  · simp [endSend, h, hn, reportEnd]

end Sys2Proof.Machine

namespace Sys2Proof.Machine

/-! ## Staging and refetch claims (R59, R60, R61, R64, R73) -/

section
variable {s : State}

theorem exec_stagingBegin (c : Chan) (h : s.on) : exec (.stagingBegin c) s = .next (beginStaging c s) := live_on _ s h

theorem exec_refetchClaimGranted (h : s.on) : exec .refetchClaimGranted s = .next (grantRefetch s) := live_on _ s h

end

/-! ### Jobs and refetches ended (R58, R66, R74) -/

section
variable {s : State} {b : Buf}

theorem dropJob_granted (d : Drop) (h : s.port.readingInto b = true) : dropJob b d s = { s with cap := { s.cap with
    jobs := s.cap.jobs.map (fun j => if j.buf = b then { j with drop := some d } else j) } } := if_pos h

theorem dropJob_now (d : Drop) (h : s.port.readingInto b = false) : dropJob b d s =
    presentRead { removeJob b s with cap := (removeJob b s).cap.drop b d } := by
  rw [dropJob, if_neg (by simp [h])]

theorem cancelRefetch_none (h : s.tx.refetch = none) : cancelRefetch s = s := by
  simp [cancelRefetch, h]

theorem cancelRefetch_some (h : s.tx.refetch ≠ none) :
    cancelRefetch s = cancelCaptureRefetch { s with tx := { s.tx with refetch := none } } := by
  cases hr : s.tx.refetch with
  | none => exact absurd hr h
  | some q => simp [cancelRefetch, hr]

theorem cancelCaptureRefetch_none (h : s.cap.refetch = none) : cancelCaptureRefetch s = s := by
  simp only [cancelCaptureRefetch, h]

theorem cancelCaptureRefetch_waiting {q : Refetch} (h : s.cap.refetch = some q) (hb : q.buf = none) :
    cancelCaptureRefetch s = { s with cap := { s.cap with refetch := none } } := by
  simp only [cancelCaptureRefetch, h, hb]

theorem cancelCaptureRefetch_loading {q : Refetch} (h : s.cap.refetch = some q) (hb : q.buf = some b)
    (hs : s.cap.bufs[b].state = .loading) :
    cancelCaptureRefetch s = dropJob b .free { s with cap := { s.cap with refetch := none } } := by
  simp only [cancelCaptureRefetch, h, hb, hs]

theorem cancelCaptureRefetch_ready {q : Refetch} (h : s.cap.refetch = some q) (hb : q.buf = some b)
    (hs : s.cap.bufs[b].state = .ready) :
    cancelCaptureRefetch s = { s with cap := ({ s.cap with refetch := none } : CaptureUnit).freeBuf b } := by
  simp only [cancelCaptureRefetch, h, hb, hs]

end

/-! ### The refetch claim (R60, R61) -/

section
variable {u : CaptureUnit} {q : Refetch}

/-- The refetch `q` waits for a buffer: it has none, and its slot is bound to none (R59, R60). -/
def CaptureUnit.claims (u : CaptureUnit) (q : Refetch) : Prop :=
  u.refetch = some q ∧ q.buf = none ∧ (u.slot? q.chan q.slot).bind (·.buf) = none

theorem refetchClaim?_eq_some : u.refetchClaim? = some q ↔ u.claims q := by
  unfold CaptureUnit.refetchClaim? CaptureUnit.claims
  split
  · next r hr =>
    rw [Option.ite_none_right_eq_some, Option.some.injEq, hr, Option.some.injEq]
    constructor
    · rintro ⟨h, rfl⟩; exact ⟨rfl, h⟩
    · rintro ⟨rfl, h⟩; exact ⟨h, rfl⟩
  · next hr => simp [hr]

/-- Channel `c` has a READY slot at its cursor, in the READY staging buffer `b` (R61). -/
def CaptureUnit.reclaims (u : CaptureUnit) (c : Chan) (b : Buf) : Prop :=
  u.bufs[b].state = .ready ∧ u.bufs[b].purpose = some .staging
    ∧ ∃ x, u.slot? c u.rings[c].transmitCursor = some x ∧ x.state = .ready ∧ x.buf = some b

theorem reclaimable?_lowest {c : Chan} {b : Buf} (h : u.reclaims c b) (hl : ∀ d, d < c → ∀ k, ¬ u.reclaims d k) :
    u.reclaimable? = some (c, b) := by
  rw [CaptureUnit.reclaimable?, allChans_split c]
  refine findSome_first _ c (c, b) _ _ (fun d hd => ?_) ?_
  · split
    · next x hx =>
      split
      · next k hs hk => exact if_neg fun hb => hl d (lt_of_mem_take c d hd) k ⟨hb.1, hb.2, x, hx, hs, hk⟩
      · rfl
    · rfl
  · obtain ⟨hs, hp, x, hx, hr, hb⟩ := h
    have hx : u.transmitSlot? c = some x := hx
    simp only [hx, hr, hb, hs, hp, and_self, if_true]

theorem reclaimable?_none (h : ∀ c b, ¬ u.reclaims c b) : u.reclaimable? = none := by
  refine List.findSome?_eq_none_iff.mpr fun c _ => ?_
  split
  · next x hx =>
    split
    · next b hs hb => exact if_neg fun hk => h c b ⟨hk.1, hk.2, x, hx, hs, hb⟩
    · rfl
  · rfl

end

section
variable {s : State} {q : Refetch} {b : Buf}

/-- Buffer `b` of the unit `u` is granted to the refetch `q`; its reads are not yet planned (R73). -/
def State.refetchGranted (s : State) (q : Refetch) (b : Buf) (u : CaptureUnit) : State :=
  { s with cap := u.startRefetch q b }

theorem grantRefetch_free (h : s.cap.claims q) (hb : s.cap.freeBuf? = some b) :
    grantRefetch s = planReads true q.chan q.slot q.len b (s.refetchGranted q b s.cap) := by
  have hc := refetchClaim?_eq_some.mpr h
  simp only [grantRefetch, hc, CaptureUnit.refetchBuf?, hb]
  rfl

theorem grantRefetch_reclaimed {c : Chan} (h : s.cap.claims q) (hn : s.cap.freeBuf? = none)
    (hr : s.cap.reclaimable? = some (c, b)) :
    grantRefetch s = planReads true q.chan q.slot q.len b (s.refetchGranted q b (s.cap.reclaim c)) := by
  have hc := refetchClaim?_eq_some.mpr h
  simp only [grantRefetch, hc, CaptureUnit.refetchBuf?, hn, hr]
  rfl

theorem grantRefetch_waits (hn : s.cap.freeBuf? = none) (hr : s.cap.reclaimable? = none) : grantRefetch s = s := by
  simp only [grantRefetch, CaptureUnit.refetchBuf?, hn, hr, Option.map_none]
  split <;> rfl

theorem grantRefetch_no_claim (h : ∀ q, ¬ s.cap.claims q) : grantRefetch s = s := by
  have hc : s.cap.refetchClaim? = none :=
    Option.eq_none_iff_forall_ne_some.mpr fun q hq => h q (refetchClaim?_eq_some.mp hq)
  simp only [grantRefetch, hc]

end

/-- Settles O32: by the claim and where its buffer is found; then cancels, ended jobs and freed buffers as equations. -/
theorem refetchGranted : Obligations.RefetchGranted := by
  refine ⟨fun s on => ⟨fun hn => ?_, fun q hq => ⟨fun b hb => ?_, fun c b hn hr hl => ?_, fun hn hr => ?_⟩⟩,
    fun s => ?_, fun s b d => ?_, fun u b => ⟨fun h => freeBuf_unbound h, fun c i h => freeBuf_bound h⟩⟩
  · rw [exec_refetchClaimGranted on, grantRefetch_no_claim hn]
  · rw [exec_refetchClaimGranted on, grantRefetch_free hq hb]; rfl
  · rw [exec_refetchClaimGranted on, grantRefetch_reclaimed hq hn (reclaimable?_lowest hr hl)]; rfl
  · rw [exec_refetchClaimGranted on, grantRefetch_waits hn (reclaimable?_none hr)]
  · refine ⟨cancelRefetch_none, fun ht hc => ?_,
      fun q ht hc => ⟨fun hb => ?_, fun b hb => ⟨fun hs => ?_, fun hs => ?_⟩⟩⟩ <;> rw [cancelRefetch_some ht]
    · exact cancelCaptureRefetch_none hc
    · exact cancelCaptureRefetch_waiting hc hb
    · exact cancelCaptureRefetch_loading hc hb hs
    · exact cancelCaptureRefetch_ready hc hb hs
  · refine ⟨dropJob_granted d, fun h hd => ?_, fun h hd => ?_⟩ <;> subst hd
    · exact dropJob_now _ h
    · exact dropJob_now _ h

/-! ### Staging claims (R59, R60, R64) -/

/-- The first channel found is the lowest with the property. -/
theorem find_allChans_iff {p : Chan → Bool} {m : Chan} :
    allChans.find? p = some m ↔ p m = true ∧ ∀ k, k < m → p k = false := by
  refine ⟨fun h => ⟨List.find?_some h, fun k hk => ?_⟩, fun h => find_lowest p m h.1 h.2⟩
  obtain ⟨-, i, hi, hm, hl⟩ := List.find?_eq_some_iff_getElem.mp h
  have hval : ∀ i : Chan, allChans[i.val] = i := by decide
  have hv : i = m.val := by rw [← hm, hval ⟨i, hi⟩]
  have hp := hl k.val (hv ▸ hk)
  rw [hval] at hp
  simpa using hp

section
variable {s : State} {c : Chan} {x : OutSlot} {b : Buf}

/-- R64's conditions 1 to 4, for the slot `x` at the transmit cursor of channel `c`. -/
def State.wantsStaging (s : State) (c : Chan) (x : OutSlot) : Prop :=
  x.state = .committed ∧ s.wm.isActive c = true ∧ (sendRecord s c).peer = .open
    ∧ 0 < (sendRecord s c).available ∧ s.tx.replay.length + s.cap.stagedCount < 32

theorem stagingWanted_iff (hx : s.cap.transmitSlot? c = some x) : stagingWanted c s = true ↔ s.wantsStaging c x := by
  simp only [stagingWanted, hx, Bool.and_eq_true, decide_eq_true_iff, gate_iff, and_assoc]
  exact Iff.rfl

theorem stagingClaim_of_wants (hx : s.cap.transmitSlot? c = some x) (hw : s.wantsStaging c x) (hb : x.buf = none) :
    stagingClaim c s = true := by
  simp [stagingClaim, (stagingWanted_iff hx).mpr hw, hx, hb]

/-- No channel after the one granted last and before `c` has a staging claim (R60). -/
def State.claimTurn (s : State) (c : Chan) : Prop :=
  ∃ d : Chan, c = s.cap.lastGranted + 1 + d ∧ ∀ k, k < d → stagingClaim (s.cap.lastGranted + 1 + k) s = false

/-- It is channel `c`'s turn at the pool: two buffers FREE, and no refetch claim (R59, R60). -/
def State.poolTurn (s : State) (c : Chan) : Prop :=
  2 ≤ s.cap.freeCount ∧ s.cap.refetchClaim? = none ∧ s.claimTurn c

/-- The pool's grant to a channel whose claim waits. -/
theorem find_claim_iff (h : stagingClaim c s = true) :
    (chansAfter s.cap.lastGranted).find? (fun k => stagingClaim k s) = some c ↔ s.claimTurn c := by
  rw [chansAfter, List.find?_map, Option.map_eq_some_iff]
  constructor
  · rintro ⟨d, hd, rfl⟩
    exact ⟨d, rfl, (find_allChans_iff.mp hd).2⟩
  · rintro ⟨d, rfl, hl⟩
    exact ⟨d, find_allChans_iff.mpr ⟨h, hl⟩, rfl⟩

theorem stagingGrant?_turn (h : stagingClaim c s = true) (ht : s.poolTurn c) : stagingGrant? c s = s.cap.freeBuf? :=
  if_pos ⟨ht.1, ht.2.1, (find_claim_iff h).mpr ht.2.2⟩

theorem stagingGrant?_other (h : stagingClaim c s = true) (ht : ¬ s.poolTurn c) : stagingGrant? c s = none :=
  if_neg fun ⟨hf, hr, hc⟩ => ht ⟨hf, hr, (find_claim_iff h).mp hc⟩

theorem beginStaging_unwanted (hx : s.cap.transmitSlot? c = some x) (hw : ¬ s.wantsStaging c x) :
    beginStaging c s = s := by
  have hw : stagingWanted c s = false := by rwa [← Bool.not_eq_true, stagingWanted_iff hx]
  simp [beginStaging, hx, hw]

theorem beginStaging_frozen (hx : s.cap.transmitSlot? c = some x) (hw : s.wantsStaging c x) (hb : x.buf = some b)
    (hs : s.cap.bufs[b].state = .frozen) :
    beginStaging c s = planReads false c s.cap.rings[c].transmitCursor x.length b
      { s with cap := s.cap.stageFrozen c s.cap.rings[c].transmitCursor b } := by
  simp only [beginStaging, hx, (stagingWanted_iff hx).mpr hw, hb, hs, if_true]

theorem beginStaging_granted (hx : s.cap.transmitSlot? c = some x) (hw : s.wantsStaging c x) (hb : x.buf = none)
    (hg : stagingGrant? c s = some b) :
    beginStaging c s = planReads false c s.cap.rings[c].transmitCursor x.length b
      { s with cap := s.cap.stageGranted c s.cap.rings[c].transmitCursor b } := by
  simp only [beginStaging, hx, (stagingWanted_iff hx).mpr hw, hb, hg, if_true]

theorem beginStaging_waits (hx : s.cap.transmitSlot? c = some x) (hb : x.buf = none)
    (hg : stagingGrant? c s = none) : beginStaging c s = s := by
  simp only [beginStaging, hx, hb, hg, ite_self]

/-- A change of a slot record matters only at the record. -/
theorem onSlot_congr {u : CaptureUnit} {i : Nat} {f g : OutSlot → OutSlot} (hx : u.slot? c i = some x)
    (h : f x = g x) : u.onSlot c i f = u.onSlot c i g := by
  rw [onSlot_at f hx, onSlot_at g hx, h]

/-- A FROZEN buffer stays the slot's (R64). -/
theorem stageFrozen_eq {u : CaptureUnit} {i : Nat} (hx : u.slot? c i = some x) (hb : x.buf = some b) :
    u.stageFrozen c i b = (u.onBuf b (fun y => { y with state := .loading })).onSlot c i
      (fun z => { z with state := .staging, buf := some b }) :=
  onSlot_congr (u := u.onBuf b (fun y => { y with state := .loading })) hx (by rw [hb])

end

/-- Settles O30: whether staging is wanted, which buffer the slot has, and whether it is the channel's turn. -/
theorem stagingBegins : Obligations.StagingBegins := by
  intro s c x on hx
  refine ⟨fun hw => ?_, fun b hw hb hs => ?_, fun b hw hb ht hf => ?_, fun hw hb ht => ?_⟩ <;>
    rw [exec_stagingBegin c on]
  · rw [beginStaging_unwanted hx hw]
  · rw [beginStaging_frozen hx hw hb hs, stageFrozen_eq hx hb]
    rfl
  · rw [beginStaging_granted hx hw hb ((stagingGrant?_turn (stagingClaim_of_wants hx hw hb) ht).trans hf)]
    rfl
  · rw [beginStaging_waits hx hb (stagingGrant?_other (stagingClaim_of_wants hx hw hb) ht)]

end Sys2Proof.Machine

namespace Sys2Proof.Machine

/-! ## The ends of write-backs (R76, R77, R80) -/

@[simp] theorem postFaultIf_cap (e : AccessEnd) (c : Chan) (o : Origin) (a : Nat) (s : State) :
    (postFaultIf e c o a s).cap = s.cap := by
  cases e <;> rfl

section
variable {s : State} {c : Chan} {i : Nat}

theorem completion?_eq {u : CaptureUnit} {x : OutSlot} (hx : u.slot? c i = some x) : u.completion? c i = x.done := by
  rw [CaptureUnit.completion?, hx]
  rfl

/-- Header word 0 is requested for the slot at the queue's head (R76). -/
theorem toWord0_eq {x : OutSlot} {d : Completion} (hx : s.cap.slot? c i = some x) (hd : x.done = some d) :
    toWord0 c i s = present (wbWord0Req s.wm c i x d.status) { s with cap := { s.cap with wbPhase := .word0 } } := by
  simp only [toWord0, hx, completion?_eq hx, hd]

theorem endWbHeader_eq (e : AccessEnd) (r : DevReq) {rest : List (Chan × Nat)} (hq : s.cap.wbQueue = (c, i) :: rest) :
    endWbHeader e r s = toWord0 c i (postFaultIf e c .record r.addr s) := by
  simp only [endWbHeader, hq]

theorem endWbWord0_eq (e : AccessEnd) (r : DevReq) {rest : List (Chan × Nat)} {x : OutSlot} {d : Completion}
    (hq : s.cap.wbQueue = (c, i) :: rest) (hx : s.cap.slot? c i = some x) (hd : x.done = some d) :
    endWbWord0 e r s = returnOut c i x.notify d.status (postFaultIf e c .record r.addr s) := by
  simp only [endWbWord0, hq, hx, completion?_eq hx, hd]

/-- The slot at the head of the queue is OPEN, with nothing recorded (R77). -/
theorem slotDone_eq {u : CaptureUnit} {rest : List (Chan × Nat)} {x : OutSlot} (hq : u.wbQueue = (c, i) :: rest)
    (hx : u.slot? c i = some x) : u.slotDone c i = { u with
      rings := u.rings.set c { u.rings[c] with slots := u.rings[c].slots.set i ⟨.open, none, 0, false, none⟩ }
      wbQueue := rest
      wbPhase := .idle } := by
  have slots := modify_eq_set (fun _ => OutSlot.fresh) hx
  simp only [CaptureUnit.slotDone, CaptureUnit.onSlot, CaptureUnit.onRing, OutRing.onSlot, slots, hq, List.tail_cons]
  rfl

theorem isRefusal_iff {st : Status} : st.isRefusal = true
    ↔ st = .refusedClosed ∨ st = .refusedNoSlot ∨ st = .refusedTooLong ∨ st = .refusedFault := by
  cases st <;> simp [Status.isRefusal]

/-- One counter is raised, by the status (R77). -/
theorem countReturned_eq (st : Status) : countReturned c st s = { s with ev := { s.ev with
    counters :=
      if st = .delivered then s.ev.counters.deliver c
      else if st = .refusedClosed ∨ st = .refusedNoSlot ∨ st = .refusedTooLong ∨ st = .refusedFault then
        s.ev.counters.refuse c
      else s.ev.counters } } := by
  unfold countReturned
  split
  · rfl
  · simp only [isRefusal_iff]
    split <;> rfl

/-- The state of a slot returned to the host, before the channel's drain is looked at (R77). -/
def State.slotReturned (s : State) (c : Chan) (i : Nat) (notify : Bool) (st : Status) : State :=
  postDone c i notify st (countReturned c st (startWriteback { s with cap := s.cap.slotDone c i }))

@[simp] theorem postDone_wm (notify : Bool) (st : Status) : (postDone c i notify st s).wm = s.wm := by
  unfold postDone; split <;> rfl

@[simp] theorem postDone_cap (notify : Bool) (st : Status) : (postDone c i notify st s).cap = s.cap := by
  unfold postDone; split <;> rfl

@[simp] theorem countReturned_cap (st : Status) : (countReturned c st s).cap = s.cap := by
  rw [countReturned_eq]

@[simp] theorem slotReturned_wm (notify : Bool) (st : Status) : (s.slotReturned c i notify st).wm = s.wm := by
  simp [State.slotReturned, countReturned_eq]

theorem startWriteback_rings : (startWriteback s).cap.rings = s.cap.rings := by
  obtain ⟨phase, h⟩ := startWriteback_cap s
  rw [h]

@[simp] theorem slotReturned_rings (notify : Bool) (st : Status) :
    (s.slotReturned c i notify st).cap.rings = (s.cap.slotDone c i).rings := by
  simp [State.slotReturned, startWriteback_rings]

theorem outDrained_iff : outDrained c s = true
    ↔ s.wm.isStopping c = true ∧ ∀ y ∈ s.cap.rings[c].slots, y.state = .open := by
  simp [outDrained]

end

/-- Settles O33: word 0 requested after the header burst, and the slot's return after word 0, drained or not. -/
theorem writebackEnds : Obligations.WritebackEnds := by
  intro s r e c i rest x d hq hx hd s1
  have hcap : s1.cap = s.cap := postFaultIf_cap e c .record r.addr _
  have hwm : s1.wm = s.wm := postFaultIf_wm e c .record r.addr _
  have hx1 : s1.cap.slot? c i = some x := by rw [hcap]; exact hx
  refine ⟨fun h => ?_, fun h => ?_⟩
  · refine (deviceEnd_serves .wbHeader _ e s r h rfl).trans ?_
    rw [ownerGoesOn, h.2.2]
    refine congrArg _ ((endWbHeader_eq (s := endDevice r e s) e r hq).trans ((toWord0_eq hx1 hd).trans ?_))
    rw [hcap, hwm]
    rfl
  · intro slots s2 refused s3 s4 drained
    have returned : s1.slotReturned c i x.notify d.status = s4 := by
      rw [State.slotReturned, hcap, slotDone_eq hq hx, countReturned_eq]
      rfl
    have hrings : s4.cap.rings[c].slots = slots := by
      rw [← returned, slotReturned_rings, hcap, slotDone_eq hq hx]
      simp [slots]
    have hd4 : outDrained c s4 = true ↔ drained := by
      rw [outDrained_iff, hrings, ← returned, slotReturned_wm, hwm]
    have row : exec (.writebackWord0End e) s = .next (finishOutDrain c s4) := by
      refine (deviceEnd_serves .wbWord0 _ e s r h rfl).trans ?_
      rw [ownerGoesOn, h.2.2, ← returned]
      exact congrArg _ (endWbWord0_eq (s := endDevice r e s) e r hq hx hd)
    refine ⟨fun hn => ?_, fun hn => ?_⟩ <;> rw [row]
    · rw [finishOutDrain_waits c s4 fun h4 => hn (hd4.mp h4)]
    · have hwm4 : s4.wm = s.wm := by rw [← returned, slotReturned_wm, hwm]
      rw [finishOutDrain_ends c s4 (hd4.mpr hn), ← hwm4]
      rfl

/-! ## The ends of staging and refetch reads (R58, R65, R66, R67, R73, R74) -/

/-- The job list has no part in giving a buffer back. -/
theorem freeBuf_withJobs (u : CaptureUnit) (b : Buf) (jobs : List ReadJob) :
    ({ u with jobs := jobs } : CaptureUnit).freeBuf b = { u.freeBuf b with jobs := jobs } := by
  unfold CaptureUnit.freeBuf CaptureUnit.unbindSlot
  dsimp only
  split <;> rfl

@[simp] theorem freeBuf_jobs (u : CaptureUnit) (b : Buf) : (u.freeBuf b).jobs = u.jobs := by
  simp [CaptureUnit.freeBuf]

section
variable {s : State} {b : Buf} {j : ReadJob}

theorem job?_buf {u : CaptureUnit} (h : u.job? b = some j) : j.buf = b := by
  rw [CaptureUnit.job?] at h
  simpa using List.find?_some h

/-- The buffer `b` of the state when the words `m` have been stored in it. -/
def CaptureUnit.holding (u : CaptureUnit) (b : Buf) (m : List (Nat × Byte)) : CaptureUnit :=
  { u with bufs := u.bufs.set b { u.bufs[b] with bytes := m } }

theorem storeBurst_eq {k : Burst} {rest : List Burst} (r : DevReq) (hj : j.buf = b) (hk : j.bursts = k :: rest) :
    storeBurst j r s = { s with
      cap := s.cap.holding b
        (storeRead j.len k.off (memReadBurst s.mem r.addr r.words.length) s.cap.bufs[b].bytes) } := by
  subst hj
  simp only [storeBurst, hk, List.head?_cons]
  rfl

/-- More bursts are left: the next is requested (R66). -/
theorem acceptRead_more {k : Burst} {rest : List Burst} (r : DevReq) (hj : j.buf = b) (hk : j.bursts = k :: rest)
    (hr : rest ≠ []) : acceptRead j r s = presentRead { storeBurst j r s with cap := { (storeBurst j r s).cap with
      jobs := s.cap.jobs.map (fun x => if x.buf = b then { x with bursts := rest } else x) } } := by
  subst hj
  obtain ⟨x, xs, rfl⟩ := List.exists_cons_of_ne_nil hr
  simp only [acceptRead, hk, List.tail_cons]
  rfl

/-- The last burst: the job leaves the list, and its buffer, and for a staging its slot, is READY (R65, R73). -/
theorem acceptRead_last {k : Burst} (r : DevReq) (hj : j.buf = b) (hk : j.bursts = [k]) :
    acceptRead j r s = presentRead { removeJob b (storeBurst j r s) with
      cap := (removeJob b (storeBurst j r s)).cap.makeReady j.refetch j.chan j.slot b } := by
  subst hj
  simp only [acceptRead, hk, List.tail_cons]

theorem makeReady_holding (u : CaptureUnit) (refetch : Bool) (c : Chan) (i : Nat) (m : List (Nat × Byte))
    (jobs : List ReadJob) : ({ u.holding b m with jobs := jobs } : CaptureUnit).makeReady refetch c i b =
      if refetch then
        { u with bufs := u.bufs.set b { u.bufs[b] with bytes := m, state := .ready }, jobs := jobs }
      else ({ u with bufs := u.bufs.set b { u.bufs[b] with bytes := m, state := .ready }, jobs := jobs } :
        CaptureUnit).onSlot c i (fun z => { z with state := .ready }) := by
  simp [CaptureUnit.makeReady, CaptureUnit.holding, CaptureUnit.onBuf]

/-- The job of buffer `b` has left the list, with its waiting burst; the unit is otherwise `u` (R66). -/
def State.jobLeft (s : State) (b : Buf) (u : CaptureUnit) : State :=
  { s with
    cap := { u with jobs := u.jobs.filter (fun x => decide (x.buf ≠ b)) }
    reqs := { s.reqs with captureRead := if s.reqs.readsInto b then none else s.reqs.captureRead } }

theorem finishDropped_eq (d : Drop) : finishDropped b d s = presentRead (s.jobLeft b (s.cap.drop b d)) := by
  cases d
  · simp only [finishDropped, removeJob, CaptureUnit.drop, freeBuf_withJobs, State.jobLeft, freeBuf_jobs]
  · rfl

/-- A refetch read that faulted: the event, the job and its buffer given up, and the report (R74, R117). -/
theorem faultRefetch_eq (r : DevReq) : faultRefetch j r s =
    let s1 := post .memoryFault j.chan 2#32 (BitVec.ofNat 32 r.addr) s
    reportReset .replayFault (haltPass
      { presentRead (s1.jobLeft j.buf { s1.cap.freeBuf j.buf with refetch := none }) with
        tx := { s.tx with refetch := none } }) := by
  simp only [faultRefetch, removeJob, freeBuf_withJobs, State.jobLeft, freeBuf_jobs]
  rfl

theorem endStagingRead_job (e : AccessEnd) (r : DevReq) (hj : s.cap.job? b = some j) (hd : j.drop = none) :
    endStagingRead b e r s = if accessOk e then settleClosed j.chan (acceptRead j r s) else faultStaging j r s := by
  simp only [endStagingRead, hj, hd]

theorem endRefetchRead_job (e : AccessEnd) (r : DevReq) (hj : s.cap.job? b = some j) (hd : j.drop = none) :
    endRefetchRead b e r s = if accessOk e then acceptRead j r s else faultRefetch j r s := by
  simp only [endRefetchRead, hj, hd]

theorem endStagingRead_dropped (e : AccessEnd) (r : DevReq) {d : Drop} (hj : s.cap.job? b = some j)
    (hd : j.drop = some d) : endStagingRead b e r s = finishDropped b d s := by
  simp only [endStagingRead, hj, hd]

theorem endRefetchRead_dropped (e : AccessEnd) (r : DevReq) {d : Drop} (hj : s.cap.job? b = some j)
    (hd : j.drop = some d) : endRefetchRead b e r s = finishDropped b d s := by
  simp only [endRefetchRead, hj, hd]

theorem exec_stagingReadEnd (e : AccessEnd) {r : DevReq} (h : s.serves (.staging b) r) :
    exec (.stagingReadEnd e) s = .next (endStagingRead b e r (endDevice r e s)) := by
  refine (deviceEnd_serves (.staging b) _ e s r h rfl).trans ?_
  rw [ownerGoesOn, h.2.2]

theorem exec_refetchReadEnd (e : AccessEnd) {r : DevReq} (h : s.serves (.refetch b) r) :
    exec (.refetchReadEnd e) s = .next (endRefetchRead b e r (endDevice r e s)) := by
  refine (deviceEnd_serves (.refetch b) _ e s r h rfl).trans ?_
  rw [ownerGoesOn, h.2.2]

theorem reportReset_eq (cause : Cause) : reportReset cause s = if s.link.state = .up then linkReset cause s else s := by
  simp [reportReset, LinkController.isUp]

end

/-- Settles O31: an accepted read with bursts left or not; a faulted staging or refetch read; a read whose job ended. -/
theorem readEnds : Obligations.ReadEnds := by
  refine ⟨fun s b r j k rest refetch h hw hj hd hf hk => ?_, fun s b r j kept data hj => ?_⟩
  · intro row after bytes s1
    have hb := job?_buf hj
    have hs1 : endDevice r .ok s = s1 := by simp only [endDevice, memAfter, hw]; rfl
    have hrow (t : State) (ht : acceptRead j r s1 = presentRead t) : exec row s = .next (after t) := by
      cases refetch
      · refine (exec_stagingReadEnd .ok h).trans ?_
        rw [hs1, endStagingRead_job (s := s1) .ok r hj hd, ht]
        rfl
      · refine (exec_refetchReadEnd .ok h).trans ?_
        rw [hs1, endRefetchRead_job (s := s1) .ok r hj hd, ht]
        rfl
    refine ⟨fun hr => hrow _ ?_, fun hr => hrow _ ?_⟩
    · rw [acceptRead_more r hb hk hr, storeBurst_eq r hb hk]
      rfl
    · subst hr
      rw [acceptRead_last r hb hk, storeBurst_eq r hb hk, hf]
      refine congrArg presentRead ?_
      rw [removeJob, makeReady_holding]
      rfl
  · refine ⟨fun h hd => ?_, fun h hd => ?_, fun e d row hd h => ?_⟩
    · rw [exec_stagingReadEnd _ h, endStagingRead_job (s := endDevice r _ s) _ r hj hd]
      rfl
    · intro s1 s2 s3
      rw [exec_refetchReadEnd _ h, endRefetchRead_job (s := endDevice r _ s) _ r hj hd]
      refine congrArg _ ((faultRefetch_eq r).trans ?_)
      rw [job?_buf hj, reportReset_eq]
      rfl
    · have hrow : exec row s = .next (finishDropped b d (endDevice r e s)) := by
        rcases h with ⟨h, rfl⟩ | ⟨h, rfl⟩
        · rw [exec_stagingReadEnd _ h, endStagingRead_dropped (s := endDevice r e s) _ r hj hd]
        · rw [exec_refetchReadEnd _ h, endRefetchRead_dropped (s := endDevice r e s) _ r hj hd]
      refine hrow.trans (congrArg _ (finishDropped_eq d |>.trans ?_))
      cases d <;> rfl

end Sys2Proof.Machine

namespace Sys2Proof.Machine

/-! ## CREDIT frames (R69, R134, R135) -/

/-- A fold that every member of the list leaves alone. -/
theorem foldl_idle {α β : Type} {f : β → α → β} {s : β} {l : List α} (h : ∀ x ∈ l, f s x = s) : l.foldl f s = s := by
  induction l with
  | nil => rfl
  | cons x l ih => rw [List.foldl_cons, h x (by simp), ih fun y hy => h y (by simp [hy])]

theorem gt_of_mem_drop : ∀ m k : Chan, k ∈ allChans.drop (m.val + 1) → m < k := by decide

/-- A pass over the channels that only channel `c` takes part in. -/
theorem foldl_one_chan {β : Type} {f : β → Chan → β} {s : β} (c : Chan) (h : ∀ m, m ≠ c → f s m = s)
    (h' : ∀ m, m ≠ c → f (f s c) m = f s c) : allChans.foldl f s = f s c := by
  rw [allChans_split c, List.foldl_append, List.foldl_cons,
    foldl_idle fun m hm => h m (ne_of_lt (lt_of_mem_take c m hm)),
    foldl_idle fun m hm => h' m (ne_of_gt (gt_of_mem_drop c m hm))]

section
variable {s : State} {c d : Chan}

theorem closedSlot?_peer (h : (sendRecord s c).peer ≠ .closed) : closedSlot? c s = none := by
  unfold closedSlot?
  dsimp only
  split
  · rw [if_neg fun hc => h hc.2]
  · rfl

theorem drainClosed_none (n : Nat) (h : closedSlot? c s = none) : drainClosed c n s = s := by
  cases n <;> simp only [drainClosed, h]

/-- Nothing is settled for a channel whose peer is not CLOSED (R69). -/
theorem settleClosed_peer (h : (sendRecord s c).peer ≠ .closed) : settleClosed c s = s :=
  drainClosed_none _ (closedSlot?_peer h)

/-- Channel `c` is not OFF and sends to destination `d` (R133). -/
def Matcher.sendsTo (m : Matcher) (d c : Chan) : Prop := ∃ cfg, m.cfg? c = some cfg ∧ cfg.dest? = some d

theorem usesDest_some_iff {m : Matcher} : m.usesDest (some d) c = true ↔ m.sendsTo d c := by
  rw [usesDest_iff]
  simp [Matcher.sendsTo]

theorem sendRecord_sendsTo (h : s.wm.sendsTo d c) : sendRecord s c = s.cred.send[d] := by
  obtain ⟨cfg, hc, hd⟩ := h
  simp only [sendRecord, hc, hd]

/-! Settling a destination: the channels that send to it, in their order. -/

theorem settleDest_open (h : s.cred.send[d].peer ≠ .closed) : settleDest d s = s := by
  refine foldl_idle fun c _ => ?_
  split
  · next hu => exact settleClosed_peer (by rwa [sendRecord_sendsTo (usesDest_some_iff.mp hu)])
  · rfl

theorem settleDest_unused (h : ∀ c, ¬ s.wm.sendsTo d c) : settleDest d s = s :=
  foldl_idle fun c _ => if_neg fun hu => h c (usesDest_some_iff.mp hu)

theorem settleDest_one (h : s.wm.sendsTo d c) (hl : ∀ m, s.wm.sendsTo d m → m = c) :
    settleDest d s = settleClosed c s := by
  have idle (t : State) (ht : t.wm = s.wm) (m : Chan) (hm : m ≠ c) :
      (if t.wm.usesDest (some d) m then settleClosed m t else t) = t :=
    if_neg fun hu => hm (hl m (by rw [← ht]; exact usesDest_some_iff.mp hu))
  have hc : (if s.wm.usesDest (some d) c then settleClosed c s else s) = settleClosed c s :=
    if_pos (usesDest_some_iff.mpr h)
  refine (foldl_one_chan c (idle s rfl) ?_).trans hc
  rw [hc]
  exact idle _ (settleClosed_wm s c)

/-! ### A CREDIT taken -/

theorem creditArrives_hears {ws : List LinkWord} {rx : LaneRx} {isOpen : Bool} {g : BitVec 8} {v : BitVec 16}
    (h : s.hears ws rx (.credit d isOpen g v)) : creditArrives ws s = handCredit ⟨d, isOpen, g, v⟩ (setRx rx s) := by
  simp only [creditArrives, h.2]

theorem handCredit_eq (a : CreditArrival) : handCredit a s = { s with cred := { s.cred with
    inbox := if s.link.state = .up then s.cred.inbox ++ [a] else s.cred.inbox } } := by
  simp [handCredit, LinkController.isUp]

theorem raised_some {r : SendRecord} {a : BitVec 16} (v : BitVec 16) (h : r.advertised = some a) :
    r.raised v = if 1 ≤ (v - a).toNat ∧ (v - a).toNat ≤ 32767 then v else a := by
  simp only [SendRecord.raised, h, creditAhead, Bool.and_eq_true, decide_eq_true_iff]

theorem raised_none {r : SendRecord} (v : BitVec 16) (h : r.advertised = none) : r.raised v = v := by
  simp only [SendRecord.raised, h]

/-- The record that a CREDIT leaves, by R135's rows. -/
theorem credited_eq (r : SendRecord) (g : BitVec 8) (v : BitVec 16) (p : PeerState) : r.credited g v p =
    if r.generation = some g then ⟨r.sent, some (r.raised v), some g, p⟩ else ⟨0#16, some v, some g, p⟩ := by
  unfold SendRecord.credited
  split
  · next hg => rw [hg]
  · rfl

theorem credited_peer (r : SendRecord) (g : BitVec 8) (v : BitVec 16) (p : PeerState) :
    (r.credited g v p).peer = p := by
  unfold SendRecord.credited; split <;> rfl

theorem takeCredit_stale {isOpen : Bool} {g : BitVec 8} {v : BitVec 16}
    (h : 32767 < (s.cred.send[d].credited g v (peerStateOf isOpen)).available) :
    takeCredit d isOpen g v s = count Counters.stale s :=
  if_neg fun hb => absurd (of_decide_eq_true hb) (Nat.not_le.mpr h)

theorem takeCredit_bounded {isOpen : Bool} {g : BitVec 8} {v : BitVec 16}
    (h : (s.cred.send[d].credited g v (peerStateOf isOpen)).available ≤ 32767) :
    takeCredit d isOpen g v s =
      settleDest d { s with cred := s.cred.onSend d (fun r => r.credited g v (peerStateOf isOpen)) } :=
  if_pos (decide_eq_true h)

end

/-- Settles O51: the frame handed over; the oldest CREDIT taken within its bound, or stale; which channel is settled. -/
theorem creditReceived : Obligations.CreditReceived := by
  refine ⟨fun s ws rx d isOpen g v h => ?_, fun s on h => ?_, fun s d isOpen g v more on h => ?_⟩
  · refine (live_on _ s h.1).trans ?_
    rw [creditArrives_hears h, handCredit_eq]
    rfl
  · refine (live_on _ s on).trans ?_
    simp only [creditTaken, h]
  · intro s1 old peer total new
    have hnew : s1.cred.send[d].credited g v (peerStateOf isOpen) = new := by
      have htotal : old.raised v = total := by
        cases ha : old.advertised with
        | some a => rw [raised_some v ha]; simp only [total, ha]
        | none => rw [raised_none v ha]; simp only [total, ha]
      refine (credited_eq ..).trans ?_
      rw [htotal]
      rfl
    have row : exec (.creditReceived .taken) s = .next (takeCredit d isOpen g v s1) := by
      refine (live_on _ s on).trans ?_
      simp only [creditTaken, h, popCredit]
      rfl
    refine ⟨fun hb => ?_, fun hb => ?_⟩
    · rw [← hnew] at hb
      exact row.trans (congrArg _ (takeCredit_stale hb))
    · intro s2 uses
      have hp : s2.cred.send[d] = new := by simp [s2]
      refine ⟨?_, fun ho => settleDest_open ?_, fun hn => settleDest_unused (s := s2) hn,
        fun c hc hl => settleDest_one (s := s2) hc hl⟩
      · rw [← hnew] at hb
        refine row.trans (congrArg _ ((takeCredit_bounded hb).trans ?_))
        rw [CreditUnit.onSend, hnew]
      · rw [hp, ← hnew, credited_peer, peerStateOf, ho]
        decide

end Sys2Proof.Machine

namespace Sys2Proof.Machine

/-! ## What the Capture Unit's work leaves alone -/

/-- From `s` to `t` the Capture Unit has worked: only its own state and the waiting requests may differ. -/
def Captures (s t : State) : Prop := t = { s with cap := t.cap, reqs := t.reqs }

/-- And it has worked on buffers, their slots and their jobs alone. -/
def WorksBuffers (s t : State) : Prop :=
  t = { s with
    cap := { s.cap with rings := t.cap.rings, bufs := t.cap.bufs, jobs := t.cap.jobs }
    reqs := { s.reqs with captureRead := t.reqs.captureRead } }

section
variable {s t v : State}

theorem Captures.refl (s : State) : Captures s s := rfl

theorem Captures.trans (h : Captures s t) (k : Captures t v) : Captures s v :=
  Eq.trans k (congrArg (fun x : State => { x with cap := v.cap, reqs := v.reqs }) h)

theorem WorksBuffers.refl (s : State) : WorksBuffers s s := rfl

theorem WorksBuffers.trans (h : WorksBuffers s t) (k : WorksBuffers t v) : WorksBuffers s v :=
  Eq.trans k (congrArg (fun x : State => { x with
    cap := { x.cap with rings := v.cap.rings, bufs := v.cap.bufs, jobs := v.cap.jobs }
    reqs := { x.reqs with captureRead := v.reqs.captureRead } }) h)

theorem WorksBuffers.captures (h : WorksBuffers s t) : Captures s t := by
  unfold Captures
  rw [h]

theorem Captures.sendRecord (h : Captures s t) (c : Chan) : sendRecord t c = sendRecord s c := by
  rw [h]
  rfl

theorem WorksBuffers.wbQueue (h : WorksBuffers s t) : t.cap.wbQueue = s.cap.wbQueue := by rw [h]
theorem WorksBuffers.wbPhase (h : WorksBuffers s t) : t.cap.wbPhase = s.cap.wbPhase := by rw [h]
theorem WorksBuffers.captureRecord (h : WorksBuffers s t) : t.reqs.captureRecord = s.reqs.captureRecord := by rw [h]
theorem WorksBuffers.wm (h : WorksBuffers s t) : t.wm = s.wm := by rw [h]
theorem WorksBuffers.timebase (h : WorksBuffers s t) : t.timebase = s.timebase := by rw [h]

end

section
variable (s : State) (b : Buf) (c : Chan) (i : Nat)

/-- The slots and buffers of the unit, and no more, may differ in `u`. -/
theorem worksBuffers_cap {u : CaptureUnit} (h : u = { s.cap with rings := u.rings, bufs := u.bufs, jobs := u.jobs }) :
    WorksBuffers s { s with cap := u } := by
  unfold WorksBuffers
  rw [← h]

theorem freeBuf_works (u : CaptureUnit) :
    u.freeBuf b = { u with rings := (u.freeBuf b).rings, bufs := (u.freeBuf b).bufs, jobs := (u.freeBuf b).jobs } := by
  unfold CaptureUnit.freeBuf CaptureUnit.unbindSlot
  split <;> rfl

theorem drop_works (d : Drop) (u : CaptureUnit) : u.drop b d =
    { u with rings := (u.drop b d).rings, bufs := (u.drop b d).bufs, jobs := (u.drop b d).jobs } := by
  cases d
  · exact freeBuf_works b u
  · rfl

theorem presentRead_works : WorksBuffers s (presentRead s) := rfl

theorem removeJob_works : WorksBuffers s (removeJob b s) := rfl

theorem drop_cap_works (d : Drop) : WorksBuffers s { s with cap := s.cap.drop b d } :=
  worksBuffers_cap s (drop_works b d s.cap)

theorem dropJob_works (d : Drop) : WorksBuffers s (dropJob b d s) := by
  unfold dropJob
  split
  · rfl
  · exact (removeJob_works s b).trans ((drop_cap_works _ b d).trans (presentRead_works _))

theorem releaseBuf_works : WorksBuffers s (releaseBuf b s) := by
  unfold releaseBuf
  split
  · refine worksBuffers_cap s ?_
    unfold CaptureUnit.unbindSlot
    split <;> rfl
  · exact dropJob_works s b .free
  · rfl
  all_goals exact drop_cap_works s b .free

theorem releaseSlotBuf_works : WorksBuffers s (releaseSlotBuf c i s) := by
  unfold releaseSlotBuf
  split
  · exact releaseBuf_works s _
  · rfl

theorem startWriteback_captures : Captures s (startWriteback s) := by
  unfold startWriteback
  split
  · split <;> rfl
  all_goals rfl

theorem enterCompleting_captures (st : Status) (sent : Option SentInfo) :
    Captures s (enterCompleting c i st sent s) := rfl

theorem completeSlot_captures (st : Status) (sent : Option SentInfo) : Captures s (completeSlot c i st sent s) :=
  (releaseSlotBuf_works s c i).captures.trans
    ((enterCompleting_captures _ c i st sent).trans (startWriteback_captures _))

end

/-! ### Slot counts and cursors -/

/-- A ring's slot count and cursors. -/
def OutRing.frame (r : OutRing) : Nat × Nat × Nat := (r.slots.length, r.commitCursor, r.transmitCursor)

section
variable {u : CaptureUnit} {s : State} {b : Buf} {c d : Chan} {i : Nat}

theorem onSlot_frame (f : OutSlot → OutSlot) : (u.onSlot c i f).rings[d].frame = u.rings[d].frame := by
  rw [CaptureUnit.onSlot, onRing_rings]
  split
  · simp [OutRing.frame, OutRing.onSlot]
  · rfl

theorem unbindSlot_frame : (u.unbindSlot b).rings[d].frame = u.rings[d].frame := by
  unfold CaptureUnit.unbindSlot
  split
  · exact onSlot_frame _
  · rfl

theorem releaseBuf_frame : (releaseBuf b s).cap.rings[d].frame = s.cap.rings[d].frame := by
  obtain ⟨-, h⟩ | ⟨-, h⟩ | ⟨-, h⟩ | ⟨-, jobs, -, h⟩ := releaseBuf_cap b s <;> rw [h]
  · exact unbindSlot_frame
  · exact unbindSlot_frame (u := { s.cap with jobs := jobs })

theorem releaseSlotBuf_frame : (releaseSlotBuf c i s).cap.rings[d].frame = s.cap.rings[d].frame := by
  unfold releaseSlotBuf
  split
  · exact releaseBuf_frame
  · rfl

/-! ### A slot's completion (R66, R72, R75) -/

/-- What a completion leaves of the Capture Unit, but for the write-back phase (R75). -/
theorem completeSlot_cap (c : Chan) (i : Nat) (st : Status) (sent : Option SentInfo) (s : State) :
    ∃ phase, (completeSlot c i st sent s).cap =
      { (releaseSlotBuf c i s).cap.onSlot c i (OutSlot.complete st s.timebase sent) with
        wbQueue := s.cap.wbQueue ++ [(c, i)], wbPhase := phase } := by
  obtain ⟨phase, h⟩ := startWriteback_cap (enterCompleting c i st sent (releaseSlotBuf c i s))
  have hw := releaseSlotBuf_works s c i
  refine ⟨phase, h.trans ?_⟩
  rw [← hw.wbQueue, ← hw.timebase]
  rfl

theorem completeSlot_frame (st : Status) (sent : Option SentInfo) :
    (completeSlot c i st sent s).cap.rings[d].frame = s.cap.rings[d].frame := by
  obtain ⟨phase, h⟩ := completeSlot_cap c i st sent s
  rw [h]
  exact (onSlot_frame _).trans releaseSlotBuf_frame

/-- A completion is a visit of the slot. -/
theorem completeSlot_visits {x : OutSlot} (hx : s.cap.slot? c i = some x) (st : Status) (sent : Option SentInfo) :
    visitsSlot c (fun _ => true) (OutSlot.complete st s.timebase sent) true i s (completeSlot c i st sent s) := by
  obtain ⟨phase, h⟩ := completeSlot_cap c i st sent s
  exact ⟨congrArg Outer.port (completeSlot_outer c i st sent s), .inr ⟨x, phase, hx, rfl, h⟩⟩

end

end Sys2Proof.Machine

namespace Sys2Proof.Machine

/-! ## A CLOSED peer (R69) -/

/-- The place `k` places after the transmit cursor. -/
def OutRing.pos (r : OutRing) (k : Nat) : Nat := (r.transmitCursor + k) % r.slots.length

theorem pos_injective {r : OutRing} {j k : Nat} (hj : j < r.slots.length) (hk : k < r.slots.length)
    (h : r.pos j = r.pos k) : j = k :=
  (Nat.ModEq.add_left_cancel' r.transmitCursor h).eq_of_lt_of_lt hj hk

theorem nextSlot_pos (r : OutRing) (k : Nat) : nextSlot r.slots.length (r.pos k) = r.pos (k + 1) := by
  simp [nextSlot, OutRing.pos, Nat.add_assoc]

/-- The slot at place `k` of the ring `r` is completed PEER_CLOSED, and the cursor goes on (R69). -/
def closeAt (c : Chan) (r : OutRing) (u : State) (k : Nat) : State :=
  let v := completeSlot c (r.pos k) .peerClosed none u
  { v with cap := v.cap.onRing c (fun q => { q with transmitCursor := r.pos (k + 1) }) }

theorem closeAt_captures (c : Chan) (r : OutRing) (u : State) (k : Nat) : Captures u (closeAt c r u k) := by
  have moved : Captures (completeSlot c (r.pos k) .peerClosed none u) (closeAt c r u k) := rfl
  exact (completeSlot_captures u c (r.pos k) .peerClosed none).trans moved

/-- The slots before place `k` of channel `c` have been completed: the ring stands at place `k`, and the slots from
there on, with the peer's record, are as before. -/
structure ClosedTo (s : State) (c : Chan) (k : Nat) (u : State) : Prop where
  count : u.cap.rings[c].slots.length = s.cap.rings[c].slots.length
  cursor : u.cap.rings[c].transmitCursor = s.cap.rings[c].pos k
  peer : sendRecord u c = sendRecord s c
  later : ∀ m, k ≤ m → m < s.cap.rings[c].slots.length →
    (u.cap.slot? c (s.cap.rings[c].pos m)).map (·.state) = (s.cap.slot? c (s.cap.rings[c].pos m)).map (·.state)

section
variable {s u : State} {c : Chan} {k : Nat}

theorem ClosedTo.zero (h : s.cap.rings[c].transmitCursor < s.cap.rings[c].slots.length) : ClosedTo s c 0 s :=
  ⟨rfl, (Nat.mod_eq_of_lt h).symm, rfl, fun _ _ _ => rfl⟩

/-- A completion leaves every other slot's state. -/
theorem completeSlot_state_other {i j : Nat} {d : Chan} {x : OutSlot} (hx : s.cap.slot? c i = some x) (st : Status)
    (sent : Option SentInfo) (h : ¬ (d = c ∧ j = i)) :
    ((completeSlot c i st sent s).cap.slot? d j).map (·.state) = (s.cap.slot? d j).map (·.state) :=
  ((completeSlot_visits hx st sent).fades h).state

theorem completeSlot_ring (i : Nat) (st : Status) (sent : Option SentInfo) :
    (completeSlot c i st sent s).cap.rings[c].slots.length = s.cap.rings[c].slots.length
    ∧ (completeSlot c i st sent s).cap.rings[c].transmitCursor = s.cap.rings[c].transmitCursor := by
  have h := completeSlot_frame (s := s) (c := c) (d := c) (i := i) st sent
  simp only [OutRing.frame, Prod.mk.injEq] at h
  exact ⟨h.1, h.2.2⟩

/-- The slot at the cursor is completed, and the cursor goes on: one more place. -/
theorem ClosedTo.passTransmit (h : ClosedTo s c k u) :
    passTransmit c (completeSlot c (s.cap.rings[c].pos k) .peerClosed none u) = closeAt c s.cap.rings[c] u k := by
  obtain ⟨hlen, hcur⟩ := completeSlot_ring (s := u) (c := c) (s.cap.rings[c].pos k) .peerClosed none
  have hring : OutRing.passTransmit (completeSlot c (s.cap.rings[c].pos k) .peerClosed none u).cap.rings[c] =
      { (completeSlot c (s.cap.rings[c].pos k) .peerClosed none u).cap.rings[c] with
        transmitCursor := s.cap.rings[c].pos (k + 1) } := by
    rw [OutRing.passTransmit, hlen, hcur, h.count, h.cursor, nextSlot_pos]
  simp only [Machine.passTransmit, closeAt, CaptureUnit.onRing, hring]

theorem ClosedTo.next (h : ClosedTo s c k u) {x : OutSlot} (hx : u.cap.slot? c (s.cap.rings[c].pos k) = some x)
    (hk : k < s.cap.rings[c].slots.length) : ClosedTo s c (k + 1) (closeAt c s.cap.rings[c] u k) := by
  obtain ⟨hlen, hcur⟩ := completeSlot_ring (s := u) (c := c) (s.cap.rings[c].pos k) .peerClosed none
  refine ⟨?_, ?_, ?_, fun m hm hn => ?_⟩
  · simp only [closeAt, onRing_rings, if_true]
    exact hlen.trans h.count
  · simp only [closeAt, onRing_rings, if_true]
  · rw [(closeAt_captures c s.cap.rings[c] u k).sendRecord, h.peer]
  · have hslot : (closeAt c s.cap.rings[c] u k).cap.slot? c (s.cap.rings[c].pos m) =
        (completeSlot c (s.cap.rings[c].pos k) .peerClosed none u).cap.slot? c (s.cap.rings[c].pos m) := by
      simp only [closeAt, CaptureUnit.slot?, onRing_rings, if_true]
    rw [hslot, completeSlot_state_other hx .peerClosed none fun hp => by have := pos_injective hn hk hp.2; omega]
    exact h.later m (by omega) hn

/-- Slot `i` of channel `c` is COMMITTED or READY. -/
def State.waitsAt (s : State) (c : Chan) (i : Nat) : Prop :=
  ∃ x, s.cap.slot? c i = some x ∧ (x.state = .committed ∨ x.state = .ready)

theorem waitsAt_of_states {i : Nat}
    (h : (u.cap.slot? c i).map (·.state) = (s.cap.slot? c i).map (·.state)) : u.waitsAt c i ↔ s.waitsAt c i := by
  have waits (v : State) :
      v.waitsAt c i ↔ ∃ y, (v.cap.slot? c i).map (·.state) = some y ∧ (y = .committed ∨ y = .ready) := by
    simp [State.waitsAt, Option.map_eq_some_iff]
  rw [waits, waits, h]

theorem closedSlot?_waits (hp : (sendRecord u c).peer = .closed) (h : u.waitsAt c u.cap.rings[c].transmitCursor) :
    closedSlot? c u = some u.cap.rings[c].transmitCursor := by
  obtain ⟨x, hx, hs⟩ := h
  have hx : u.cap.rings[c].slots[u.cap.rings[c].transmitCursor]? = some x := hx
  simp only [closedSlot?, hx]
  exact if_pos ⟨hs, hp⟩

theorem closedSlot?_other (h : ¬ u.waitsAt c u.cap.rings[c].transmitCursor) : closedSlot? c u = none := by
  unfold closedSlot?
  dsimp only
  split
  · next x hx => exact if_neg fun hs => h ⟨x, hx, hs.1⟩
  · rfl

/-- As many slots as wait at the cursor one after another are completed (R69). -/
theorem drainClosed_run (hc : s.cap.rings[c].transmitCursor < s.cap.rings[c].slots.length)
    (hp : (sendRecord s c).peer = .closed) (hk : k ≤ s.cap.rings[c].slots.length)
    (hw : ∀ j < k, s.waitsAt c (s.cap.rings[c].pos j)) :
    ClosedTo s c k ((List.range k).foldl (closeAt c s.cap.rings[c]) s)
    ∧ settleClosed c s =
      drainClosed c (s.cap.rings[c].slots.length - k) ((List.range k).foldl (closeAt c s.cap.rings[c]) s) := by
  induction k with
  | zero => exact ⟨.zero hc, rfl⟩
  | succ k ih =>
    obtain ⟨hu, hd⟩ := ih (by omega) fun j hj => hw j (by omega)
    rw [List.range_succ, List.foldl_append, List.foldl_cons, List.foldl_nil]
    generalize (List.range k).foldl (closeAt c s.cap.rings[c]) s = u at hu hd ⊢
    have hwait : u.waitsAt c (s.cap.rings[c].pos k) :=
      (waitsAt_of_states (hu.later k (le_refl k) (by omega))).mpr (hw k (by omega))
    obtain ⟨x, hx, -⟩ := id hwait
    refine ⟨hu.next hx (by omega), hd.trans ?_⟩
    have hslot : closedSlot? c u = some (s.cap.rings[c].pos k) := by
      rw [← hu.cursor] at hwait ⊢
      exact closedSlot?_waits (by rw [hu.peer, hp]) hwait
    rw [show s.cap.rings[c].slots.length - k = (s.cap.rings[c].slots.length - (k + 1)) + 1 by omega]
    simp only [drainClosed, hslot, hu.passTransmit]

theorem settleClosed_run (hc : s.cap.rings[c].transmitCursor < s.cap.rings[c].slots.length)
    (hp : (sendRecord s c).peer = .closed) (hk : k ≤ s.cap.rings[c].slots.length)
    (hw : ∀ j < k, s.waitsAt c (s.cap.rings[c].pos j))
    (hend : k = s.cap.rings[c].slots.length ∨ ¬ s.waitsAt c (s.cap.rings[c].pos k)) :
    settleClosed c s = (List.range k).foldl (closeAt c s.cap.rings[c]) s := by
  obtain ⟨hu, hd⟩ := drainClosed_run hc hp hk hw
  refine hd.trans ?_
  rcases Nat.lt_or_eq_of_le hk with hlt | rfl
  · refine drainClosed_none _ (closedSlot?_other ?_)
    rw [hu.cursor, waitsAt_of_states (hu.later k (le_refl k) hlt)]
    exact hend.resolve_left (by omega)
  · rw [Nat.sub_self]
    rfl

end

/-! ## One completion: the write-back it starts, and the buffer it gives up (R66, R72, R75, R76) -/

section
variable {s : State} {c : Chan} {i : Nat} {x : OutSlot} {b : Buf}

theorem completeSlot_bufs (st : Status) (sent : Option SentInfo) :
    (completeSlot c i st sent s).cap.bufs = (releaseSlotBuf c i s).cap.bufs
    ∧ (completeSlot c i st sent s).cap.jobs = (releaseSlotBuf c i s).cap.jobs := by
  obtain ⟨phase, h⟩ := completeSlot_cap c i st sent s
  rw [h]
  exact ⟨rfl, rfl⟩

theorem completeSlot_wbQueue (st : Status) (sent : Option SentInfo) :
    (completeSlot c i st sent s).cap.wbQueue = s.cap.wbQueue ++ [(c, i)] := by
  obtain ⟨phase, h⟩ := completeSlot_cap c i st sent s
  rw [h]

/-- A write-back that is in progress goes on (R76). -/
theorem startWriteback_busy (h : s.cap.wbPhase ≠ .idle) : startWriteback s = s := by
  unfold startWriteback
  split
  · next h' _ => exact absurd h' h
  all_goals rfl

theorem startWriteback_starts {rest : List (Chan × Nat)} {d : Completion} (h : s.cap.wbPhase = .idle)
    (hq : s.cap.wbQueue = (c, i) :: rest) (hx : s.cap.slot? c i = some x) (hd : x.done = some d) :
    startWriteback s = present (wbHeaderReq s.wm c i d) { s with cap := { s.cap with wbPhase := .header } } := by
  simp only [startWriteback, h, hq, completion?_eq hx, hd]

theorem completeSlot_busy (st : Status) (sent : Option SentInfo) (h : s.cap.wbPhase ≠ .idle) :
    (completeSlot c i st sent s).cap.wbPhase = s.cap.wbPhase
    ∧ (completeSlot c i st sent s).reqs.captureRecord = s.reqs.captureRecord := by
  have hw := releaseSlotBuf_works s c i
  have busy : (enterCompleting c i st sent (releaseSlotBuf c i s)).cap.wbPhase ≠ .idle :=
    fun hi => h (hw.wbPhase.symm.trans hi)
  rw [completeSlot, startWriteback_busy busy]
  exact ⟨hw.wbPhase, hw.captureRecord⟩

theorem enterCompleting_slot? (st : Status) (sent : Option SentInfo) (hx : s.cap.slot? c i = some x) :
    (enterCompleting c i st sent (releaseSlotBuf c i s)).cap.slot? c i
      = some (x.complete st s.timebase sent) := by
  have hr := releaseSlotBuf_fades (c := c) (i := i) s c i
  have hs : (enterCompleting c i st sent (releaseSlotBuf c i s)).cap.slot? c i =
      ((releaseSlotBuf c i s).cap.slot? c i).map (OutSlot.complete st (releaseSlotBuf c i s).timebase sent) :=
    (onSlot_slot? _ c c i i _).trans (if_pos ⟨rfl, rfl⟩)
  rw [hs, (releaseSlotBuf_works s c i).timebase]
  rw [hx] at hr
  rcases hr.some_cases with hr | hr <;> rw [hr] <;> rfl

/-- With the queue empty the write-back of the slot starts at once (R76). -/
theorem completeSlot_alone (st : Status) (sent : Option SentInfo) (hx : s.cap.slot? c i = some x)
    (h : s.cap.wbPhase = .idle) (hq : s.cap.wbQueue = []) :
    (completeSlot c i st sent s).cap.wbPhase = .header
    ∧ (completeSlot c i st sent s).reqs.captureRecord = some (wbHeaderReq s.wm c i ⟨st, s.timebase, sent⟩) := by
  have hw := releaseSlotBuf_works s c i
  have queue : (enterCompleting c i st sent (releaseSlotBuf c i s)).cap.wbQueue = [(c, i)] := by
    change (releaseSlotBuf c i s).cap.wbQueue ++ [(c, i)] = _
    rw [hw.wbQueue, hq, List.nil_append]
  rw [completeSlot, startWriteback_starts (s := enterCompleting c i st sent (releaseSlotBuf c i s)) (hw.wbPhase.trans h)
     queue (enterCompleting_slot? st sent hx) rfl]
  refine ⟨rfl, ?_⟩
  have hwm : (enterCompleting c i st sent (releaseSlotBuf c i s)).wm = s.wm := hw.wm
  rw [hwm]
  rfl

/-- A buffer that is neither read nor sent is FREE at once. -/
theorem releaseBuf_frees (h : s.cap.bufs[b].state = .capturing ∨ s.cap.bufs[b].state = .frozen
    ∨ s.cap.bufs[b].state = .ready) : (releaseBuf b s).cap.bufs[b] = ⟨.free, none, none, []⟩ :=
  (releaseBuf_givenUp b s (by rcases h with h | h | h <;> rw [h] <;> nofun)
    (by rcases h with h | h | h <;> rw [h] <;> nofun)).1 fun hl => by
      rcases h with h | h | h <;> cases h.symm.trans hl.1

theorem releaseBuf_sending (h : s.cap.bufs[b].state = .sending) :
    (releaseBuf b s).cap.bufs[b] = { s.cap.bufs[b] with binding := none } := by
  simp only [releaseBuf, h, onBuf_bufs_same, unbindSlot_bufs]

theorem releaseBuf_loading (h : s.cap.bufs[b].state = .loading) : releaseBuf b s = dropJob b .free s := by
  simp only [releaseBuf, h]

/-- No read into it is granted: its job is gone (R66). -/
theorem dropJob_removes (d : Drop) (h : s.port.readingInto b = false) :
    ∀ j ∈ (dropJob b d s).cap.jobs, j.buf ≠ b := by
  rw [dropJob_now d h]
  intro j hj
  have hj : j ∈ ((removeJob b s).cap.drop b d).jobs := hj
  have hd : ((removeJob b s).cap.drop b d).jobs = (removeJob b s).cap.jobs := by
    cases d
    · exact freeBuf_jobs _ b
    · rfl
  rw [hd] at hj
  simpa using (List.mem_filter.mp hj).2

/-- A read into it is granted: its job is marked (R66). -/
theorem dropJob_marks (d : Drop) (h : s.port.readingInto b = true) :
    ∀ j ∈ (dropJob b d s).cap.jobs, j.buf = b → j.drop = some d := by
  rw [dropJob_granted d h]
  intro j hj hb
  obtain ⟨k, -, rfl⟩ := List.mem_map.mp hj
  split at hb
  · next hk => rw [if_pos hk]
  · next hk => exact absurd hb hk

end

/-- Settles O28: the closed peer as a run of completions; one completion's slot, queue, write-back and buffer. -/
theorem slotCompletion : Obligations.SlotCompletion := by
  refine ⟨fun s c => ⟨settleClosed_peer, fun hc hp k hk hw hend => settleClosed_run hc hp hk hw hend⟩,
    fun s c i x st sent hx => ?_⟩
  intro t
  have visit : visitsSlot c (fun _ => true) (OutSlot.complete st s.timebase sent) true i s t :=
    completeSlot_visits hx st sent
  obtain ⟨hbufs, hjobs⟩ : t.cap.bufs = (releaseSlotBuf c i s).cap.bufs ∧ t.cap.jobs = (releaseSlotBuf c i s).cap.jobs :=
    completeSlot_bufs st sent
  refine ⟨visit.slot_hit (fun _ => rfl) hx rfl, completeSlot_wbQueue st sent, fun d j hn => ?_, fun h hq => ?_,
    completeSlot_busy st sent, fun hb => ?_, fun b hb => ?_⟩
  · exact completeSlot_state_other hx st sent fun hp => hn (by rw [hp.1, hp.2])
  · intro word1
    obtain ⟨hphase, hreq⟩ := completeSlot_alone st sent hx h hq
    refine ⟨hphase, hreq.trans ?_⟩
    cases sent <;> rfl
  · rw [hbufs, hjobs, releaseSlotBuf_none hx hb]
    exact ⟨rfl, rfl⟩
  · rw [hbufs, hjobs, releaseSlotBuf_some hx hb]
    refine ⟨fun k hk => releaseBuf_bufs_other b s hk, releaseBuf_frees, releaseBuf_sending, fun hl hr => ?_,
      fun hl hr => ?_⟩ <;> rw [releaseBuf_loading hl]
    · refine ⟨?_, dropJob_removes .free hr⟩
      rw [dropJob_now .free hr]
      exact onBuf_bufs_same ..
    · refine ⟨?_, dropJob_marks .free hr⟩
      rw [dropJob_granted .free hr]

end Sys2Proof.Machine

namespace Sys2Proof.Machine

/-! ## The run of HELD slots at a cursor (R57, R143) -/

section
variable {n i j k : Nat}

/-- The place `k` places after `i` is at distance `k` from it. -/
theorem dist_of_place (hi : i < n) (hk : k < n) : ((i + k) % n + n - i) % n = k := by
  rcases Nat.lt_or_ge (i + k) n with h | h
  · rw [Nat.mod_eq_of_lt h, show i + k + n - i = k + n by omega, Nat.add_mod_right, Nat.mod_eq_of_lt hk]
  · rw [Nat.mod_eq_sub_mod h, Nat.mod_eq_of_lt (by omega : i + k - n < n), show i + k - n + n - i = k by omega,
      Nat.mod_eq_of_lt hk]

theorem place_of_dist (hi : i < n) (hj : j < n) : (i + (j + n - i) % n) % n = j := by
  rw [Nat.add_mod_mod, show i + (j + n - i) = j + n by omega, Nat.add_mod_right, Nat.mod_eq_of_lt hj]

end

/-- Of the slots `l`, that at `i` and the `k` after it have been handed over by `mark`, the `k` having been `held`; the
cursor stands past them. -/
structure HandedOver {α : Type} (held : α → Prop) (mark : α → α) (l : List α) (i k : Nat) (l' : List α)
    (cursor : Nat) : Prop where
  length : l'.length = l.length
  bound : k < l.length
  cursor : cursor = (i + k + 1) % l.length
  slots : ∀ j x, l[j]? = some x → l'[j]? = some (if (j + l.length - i) % l.length ≤ k then mark x else x)
  run : ∀ j x, l[j]? = some x → 1 ≤ (j + l.length - i) % l.length → (j + l.length - i) % l.length ≤ k → held x

section
variable {α : Type} {held : α → Prop} {mark : α → α} {l l' : List α} {i k cursor : Nat}

/-- The slot at the cursor itself. -/
theorem HandedOver.start (hi : i < l.length) :
    HandedOver held mark l i 0 (l.modify i mark) (nextSlot l.length i) := by
  refine ⟨List.length_modify .., by omega, rfl, fun j x hx => ?_, fun j x _ h h' => by omega⟩
  have hj : j < l.length := (List.getElem?_eq_some_iff.mp hx).1
  have hiff : (j + l.length - i) % l.length ≤ 0 ↔ i = j := by
    constructor
    · intro h
      have hp := place_of_dist hi hj
      rwa [Nat.le_zero.mp h, Nat.add_zero, Nat.mod_eq_of_lt hi] at hp
    · rintro rfl
      simp
  simp only [List.getElem?_modify, hx, hiff, Option.map_eq_map, Option.map_some]

/-- A HELD slot at the cursor is not one of those handed over, and is the next (R57). -/
theorem HandedOver.next (hm : ∀ x, ¬ held (mark x)) (hi : i < l.length) (h : HandedOver held mark l i k l' cursor)
    {x : α} (hx : l'[cursor]? = some x) (hh : held x) :
    HandedOver held mark l i (k + 1) (l'.modify cursor mark) (nextSlot l'.length cursor) := by
  have hc : cursor < l.length := by rw [h.cursor]; exact Nat.mod_lt _ (by omega)
  obtain ⟨y, hy⟩ : ∃ y, l[cursor]? = some y := ⟨_, List.getElem?_eq_getElem hc⟩
  have hslot := h.slots cursor y hy
  have hk : k + 1 < l.length := by
    by_contra hn
    have hke : i + k + 1 = i + l.length := by have := h.bound; omega
    have hci : cursor = i := by rw [h.cursor, hke, Nat.add_mod_right, Nat.mod_eq_of_lt hi]
    have h0 : (cursor + l.length - i) % l.length ≤ k := by simp [hci]
    rw [if_pos h0, hx] at hslot
    exact hm y (Option.some.inj hslot ▸ hh)
  have hdist : (cursor + l.length - i) % l.length = k + 1 := by rw [h.cursor]; exact dist_of_place hi hk
  obtain rfl : x = y := by
    rw [hdist, if_neg (by omega), hx] at hslot
    exact Option.some.inj hslot
  have at_cursor (j : Nat) (hj : j < l.length) (hd : (j + l.length - i) % l.length = k + 1) : j = cursor := by
    rw [← place_of_dist hi hj, hd, h.cursor]
    rfl
  refine ⟨(List.length_modify ..).trans h.length, hk, ?_, fun j z hz => ?_, fun j z hz h1 h2 => ?_⟩
  · rw [nextSlot, h.length, h.cursor, Nat.mod_add_mod]
    rfl
  · have hj : j < l.length := (List.getElem?_eq_some_iff.mp hz).1
    have hiff : (j + l.length - i) % l.length ≤ k + 1 ↔ cursor = j ∨ (j + l.length - i) % l.length ≤ k := by
      rw [Nat.le_succ_iff, or_comm]
      exact or_congr ⟨fun hd => (at_cursor j hj hd).symm, fun he => he ▸ hdist⟩ Iff.rfl
    simp only [List.getElem?_modify, h.slots j z hz, Option.map_eq_map, Option.map_some, hiff]
    by_cases hjc : cursor = j
    · subst hjc
      simp [hdist]
    · simp only [hjc, false_or, if_false]
  · have hj : j < l.length := (List.getElem?_eq_some_iff.mp hz).1
    rcases Nat.lt_or_eq_of_le h2 with h2 | h2
    · exact h.run j z hz h1 (by omega)
    · obtain rfl := at_cursor j hj h2
      exact Option.some.inj (hy.symm.trans hz) ▸ hh

end

/-! ### Commits (R57) -/

/-- The slot at the commit cursor becomes COMMITTED, and the cursor goes on. -/
def OutRing.commitAtCursor (r : OutRing) : OutRing :=
  { r.onSlot r.commitCursor (fun x => { x with state := .committed }) with
    commitCursor := nextSlot r.slots.length r.commitCursor }

/-- In `q` slot `i` of `r` and the `k` after it have been committed. -/
def OutRing.committedTo (r : OutRing) (i k : Nat) (q : OutRing) : Prop :=
  HandedOver (·.state = .held) (fun x : OutSlot => { x with state := .committed }) r.slots i k q.slots q.commitCursor

section
variable {r q : OutRing} {i k m : Nat} {x : OutSlot}

theorem promoteOut_held (hx : r.slots[r.commitCursor]? = some x) (hs : x.state = .held) :
    promoteOut (m + 1) r = promoteOut m r.commitAtCursor := by
  simp only [promoteOut, hx, hs, if_true]
  rfl

theorem promoteOut_ends (h : ∀ x, r.slots[r.commitCursor]? = some x → x.state ≠ .held) :
    promoteOut (m + 1) r = r := by
  unfold promoteOut
  split
  · next x hx => exact if_neg (h x hx)
  · rfl

theorem committedTo_next (hi : i < r.slots.length) (h : r.committedTo i k q)
    (hx : q.slots[q.commitCursor]? = some x) (hs : x.state = .held) : r.committedTo i (k + 1) q.commitAtCursor :=
  HandedOver.next (fun _ => nofun) hi h hx hs

/-- The promotion ends past the run of HELD slots (R57). -/
theorem promoteOut_committedTo (hi : i < r.slots.length) (hm : r.slots.length ≤ m + k) (h : r.committedTo i k q) :
    ∃ k', r.committedTo i k' (promoteOut m q) ∧ (promoteOut m q).transmitCursor = q.transmitCursor
      ∧ ∀ x, (promoteOut m q).slots[(promoteOut m q).commitCursor]? = some x → x.state ≠ .held := by
  induction m generalizing q k with
  | zero => exact absurd h.bound (by omega)
  | succ m ih =>
    by_cases hn : ∀ x, q.slots[q.commitCursor]? = some x → x.state ≠ .held
    · rw [promoteOut_ends hn]
      exact ⟨k, h, rfl, hn⟩
    · push Not at hn
      obtain ⟨x, hx, hs⟩ := hn
      rw [promoteOut_held hx hs]
      exact ih (by omega) (committedTo_next hi h hx hs)

theorem accept_at_cursor (r : OutRing) : r.accept r.commitCursor = promoteOut r.slots.length r.commitAtCursor :=
  if_pos rfl

end

/-! ### Releases (R143) -/

/-- In `q` slot `i` of `r` and the `k` after it have been posted. -/
def InRing.postedTo (r : InRing) (i k : Nat) (q : InRing) : Prop :=
  HandedOver (·.state = .held) (fun x : InSlot => { x with state := .posted }) r.slots i k q.slots q.releaseCursor

section
variable {r q : InRing} {i k m : Nat} {x : InSlot}

theorem promoteIn_held (hx : r.slots[r.releaseCursor]? = some x) (hs : x.state = .held) :
    promoteIn (m + 1) r = ((promoteIn m r.postAtCursor).1, (promoteIn m r.postAtCursor).2 + 1) := by
  simp only [promoteIn, hx, hs, if_true]

theorem promoteIn_ends (h : ∀ x, r.slots[r.releaseCursor]? = some x → x.state ≠ .held) :
    promoteIn (m + 1) r = (r, 0) := by
  unfold promoteIn
  split
  · next x hx => exact if_neg (h x hx)
  · rfl

theorem postedTo_next (hi : i < r.slots.length) (h : r.postedTo i k q)
    (hx : q.slots[q.releaseCursor]? = some x) (hs : x.state = .held) : r.postedTo i (k + 1) q.postAtCursor :=
  HandedOver.next (fun _ => nofun) hi h hx hs

/-- The promotion ends past the run of HELD slots, and counts them (R143). -/
theorem promoteIn_postedTo (hi : i < r.slots.length) (hm : r.slots.length ≤ m + k) (h : r.postedTo i k q) :
    r.postedTo i (k + (promoteIn m q).2) (promoteIn m q).1 ∧ (promoteIn m q).1.landCursor = q.landCursor
      ∧ ∀ x, (promoteIn m q).1.slots[(promoteIn m q).1.releaseCursor]? = some x → x.state ≠ .held := by
  induction m generalizing q k with
  | zero => exact absurd h.bound (by omega)
  | succ m ih =>
    by_cases hn : ∀ x, q.slots[q.releaseCursor]? = some x → x.state ≠ .held
    · rw [promoteIn_ends hn]
      exact ⟨h, rfl, hn⟩
    · push Not at hn
      obtain ⟨x, hx, hs⟩ := hn
      rw [promoteIn_held hx hs]
      have hk := ih (by omega) (postedTo_next hi h hx hs)
      rwa [Nat.add_right_comm] at hk

theorem release_at_cursor (r : InRing) : r.release r.releaseCursor =
    ((promoteIn r.slots.length r.postAtCursor).1, (promoteIn r.slots.length r.postAtCursor).2 + 1) :=
  if_pos rfl

end

/-- Settles O23: away from the cursor, and at it with the run of HELD slots, for commits and for releases. -/
theorem handoversInTurn : Obligations.HandoversInTurn := by
  refine ⟨fun r i hi => ⟨fun hn => if_neg hn, fun hc => ?_⟩, fun r i hi => ⟨fun hn => if_neg hn, fun hc => ?_⟩⟩
  · subst hc
    have start : r.committedTo r.commitCursor 0 r.commitAtCursor := .start hi
    obtain ⟨k, h, ht, hs⟩ := promoteOut_committedTo hi (Nat.le_refl _) start
    rw [accept_at_cursor]
    exact ⟨k, h.bound, h.cursor, ht, h.slots, h.run, hs⟩
  · subst hc
    have start : r.postedTo r.releaseCursor 0 r.postAtCursor := .start hi
    obtain ⟨h, ht, hs⟩ := promoteIn_postedTo hi (Nat.le_refl _) start
    rw [Nat.zero_add] at h
    rw [release_at_cursor]
    exact ⟨_, h.bound, rfl, h.cursor, ht, h.slots, h.run, hs⟩

end Sys2Proof.Machine

namespace Sys2Proof.Machine

/-! ## Acknowledgements of a link reset (R94, R95, R101) -/

section
variable {s : State}

/-- SYNC is entered, or not (R95). -/
theorem trySync_eq : trySync s =
    if s.link.state = .down ∧ s.link.rx.lock = true ∧ s.link.acks = 0 then s.entersSync else s := rfl

theorem disabling_iff {u : CommandUnit} :
    u.disabling = true ↔ ∃ c, u.executing = some ⟨c, .running⟩ ∧ c.code = 5#8 := by
  unfold CommandUnit.disabling CommandUnit.isRunning
  rcases u.executing with _ | ⟨c, _ | _ | _⟩ <;> simp

/-- The count falls by 1 (R101). -/
def State.acked (s : State) : State := { s with link := { s.link with acks := s.link.acks - 1 } }

theorem acknowledge_outstanding (h : 2 ≤ s.link.acks) : acknowledge s = s.acked := by
  have h0 : s.link.acks - 1 ≠ 0 := by omega
  simp only [acknowledge, trySync_eq, h0, and_false, false_and, if_false]
  rfl

theorem acknowledge_disables {c : Command} (h : s.link.acks ≤ 1) (hc : s.cmd.executing = some ⟨c, .running⟩)
    (h5 : c.code = 5#8) (hd : s.link.state ≠ .down) : acknowledge s = s.acked.answers c .done 0#32 := by
  have h0 : s.link.acks - 1 = 0 := by omega
  have hdis : s.cmd.disabling = true := disabling_iff.mpr ⟨c, hc, h5⟩
  have he := endCommand_answers s.acked c .done 0#32 hc
  simp only [acknowledge, h0, hdis, and_self, if_true]
  refine Eq.trans (congrArg trySync ?_) (trySync_eq.trans (if_neg fun hn => hd hn.1))
  rw [← he, State.acked, h0]

theorem acknowledge_idle (hn : ¬ ∃ c, s.cmd.executing = some ⟨c, .running⟩ ∧ c.code = 5#8) :
    acknowledge s = trySync s.acked := by
  have hdis : s.cmd.disabling = false := Bool.not_eq_true _ ▸ fun hd => hn (disabling_iff.mp hd)
  simp only [acknowledge, hdis, Bool.false_eq_true, and_false, if_false]
  rfl

end

/-! ### What an acknowledgement leaves -/

section
variable (s : State)

/-- An acknowledgement counts, may end LINK_DISABLE, and may enter SYNC: the other blocks stay (R101). -/
theorem acknowledge_leaves : (acknowledge s).tx = s.tx ∧ (acknowledge s).cap = s.cap ∧ (acknowledge s).land = s.land
    ∧ (acknowledge s).reqs.landing = s.reqs.landing ∧ (acknowledge s).link.txNotices = s.link.txNotices
    ∧ (acknowledge s).link.landNotices = s.link.landNotices ∧ (acknowledge s).link.acks = s.link.acks - 1 := by
  unfold acknowledge trySync
  dsimp only
  (repeat' split) <;> exact ⟨rfl, rfl, rfl, rfl, rfl, rfl, rfl⟩

end

/-! ## The Credit Unit's notice (R139) -/

theorem tabulate_eq_ofFn {α : Type} (f : Fin 16 → α) : tabulate f = Vector.ofFn f := by
  refine Vector.ext fun i hi => ?_
  rw [Vector.getElem_ofFn]
  exact tabulate_getElem f ⟨i, hi⟩

section
variable {s : State}

theorem exec_creditLinkReset (h : s.on) : exec .creditLinkReset s = .next (creditNotice s) := live_on _ s h
theorem exec_transmitLinkReset (h : s.on) : exec .transmitLinkReset s = .next (transmitNotice s) := live_on _ s h
theorem exec_captureLinkReset (h : s.on) : exec .captureLinkReset s = .next (captureNotice s) := live_on _ s h
theorem exec_landingLinkReset (h : s.on) : exec .landingLinkReset s = .next (landingNotice s) := live_on _ s h

end

/-! ## The Transmit Engine's notice (R126) -/

/-- From `s` to `t` slots have been completed and refetches cancelled: only the Capture Unit, the waiting requests and
the refetch outstanding may differ. -/
def Completes (s t : State) : Prop :=
  t = { s with cap := t.cap, reqs := t.reqs, tx := { s.tx with refetch := t.tx.refetch } }

section
variable {s t v : State}

theorem Completes.refl (s : State) : Completes s s := rfl

theorem Completes.trans (h : Completes s t) (k : Completes t v) : Completes s v :=
  Eq.trans k (congrArg (fun x : State =>
    { x with cap := v.cap, reqs := v.reqs, tx := { x.tx with refetch := v.tx.refetch } }) h)

theorem Captures.completes (h : Captures s t) : Completes s t := by
  unfold Completes
  rw [h]

theorem Completes.link (h : Completes s t) : t.link = s.link := by rw [h]

theorem cancelCaptureRefetch_captures (s : State) : Captures s (cancelCaptureRefetch s) := by
  unfold cancelCaptureRefetch
  split
  · dsimp only
    split
    · split
      · exact (dropJob_works _ _ _).captures
      all_goals rfl
    · rfl
  · rfl

theorem cancelRefetch_completes (s : State) : Completes s (cancelRefetch s) := by
  by_cases h : s.tx.refetch = none
  · rw [cancelRefetch_none h]
    exact .refl s
  · rw [cancelRefetch_some h]
    exact Completes.trans (t := { s with tx := { s.tx with refetch := none } }) rfl
      (cancelCaptureRefetch_captures _).completes

theorem cancelRefetch_refetch (s : State) : (cancelRefetch s).tx.refetch = none := by
  by_cases h : s.tx.refetch = none
  · rw [cancelRefetch_none h, h]
  · rw [cancelRefetch_some h, cancelCaptureRefetch_captures]

end

/-! ### Slots whose buffer is taken away -/

section
variable {b : Buf} {s : State} {d : Chan} {j : Nat}

theorem unbind_fades (b : Buf) {x y : Option OutSlot} (h : y = x ∨ y = x.map (OutSlot.unbind b)) : Fades x y := by
  refine h.elim .inl fun h => ?_
  cases x with
  | none => exact .inl h
  | some x =>
    by_cases hb : x.buf = some b
    · exact .inr (h.trans (by simp [OutSlot.unbind_self b x hb]))
    · exact .inl (h.trans (by simp [OutSlot.unbind_other b x hb]))

theorem freeBuf_fades (u : CaptureUnit) : Fades (u.slot? d j) ((u.freeBuf b).slot? d j) :=
  unbind_fades b (unbindSlot_slot? u b d j)

theorem drop_fades (e : Drop) (u : CaptureUnit) : Fades (u.slot? d j) ((u.drop b e).slot? d j) := by
  cases e
  · exact freeBuf_fades u
  · exact .refl _

theorem dropJob_fades (e : Drop) : Fades (s.cap.slot? d j) ((dropJob b e s).cap.slot? d j) := by
  unfold dropJob
  split
  · exact .refl _
  · exact drop_fades e (removeJob b s).cap

theorem cancelCaptureRefetch_fades : Fades (s.cap.slot? d j) ((cancelCaptureRefetch s).cap.slot? d j) := by
  unfold cancelCaptureRefetch
  split
  · dsimp only
    split
    · split
      · exact dropJob_fades (s := { s with cap := { s.cap with refetch := none } }) .free
      · exact freeBuf_fades { s.cap with refetch := none }
      · exact .refl _
    · exact .refl _
  · exact .refl _

theorem cancelRefetch_fades : Fades (s.cap.slot? d j) ((cancelRefetch s).cap.slot? d j) := by
  by_cases h : s.tx.refetch = none
  · rw [cancelRefetch_none h]
    exact .refl _
  · rw [cancelRefetch_some h]
    exact cancelCaptureRefetch_fades (s := { s with tx := { s.tx with refetch := none } })

theorem completeSlot_fades {c : Chan} {i : Nat} (st : Status) (sent : Option SentInfo) (h : ¬ (d = c ∧ j = i)) :
    Fades (s.cap.slot? d j) ((completeSlot c i st sent s).cap.slot? d j) := by
  obtain ⟨phase, hc⟩ := completeSlot_cap c i st sent s
  have hs : (completeSlot c i st sent s).cap.slot? d j = (releaseSlotBuf c i s).cap.slot? d j := by
    rw [hc]
    exact (onSlot_slot? _ c d i j _).trans (if_neg h)
  rw [hs]
  exact releaseSlotBuf_fades s d j

end

/-! ### Every entry's slot is LINK_LOST -/

/-- The sent-frame fields of an entry (R76). -/
def ReplayEntry.sentInfo (e : Epoch) (x : ReplayEntry) : SentInfo := ⟨x.seq, e, x.sends⟩

/-- Slot `i` of channel `c` has been completed LINK_LOST, with sent-frame fields that `q` accepts. -/
def State.lostAs (s : State) (c : Chan) (i : Nat) (now : Word) (q : SentInfo → Prop) : Prop :=
  ∃ z w, s.cap.slot? c i = some z ∧ z.state = .completing ∧ z.done = some ⟨.linkLost, now, some w⟩ ∧ q w

section
variable {s t : State} {c : Chan} {i : Nat} {now : Word} {q : SentInfo → Prop}

theorem State.lostAs.fades (h : s.lostAs c i now q) (hf : Fades (s.cap.slot? c i) (t.cap.slot? c i)) :
    t.lostAs c i now q := by
  obtain ⟨z, w, hz, hs, hd, hw⟩ := h
  rw [hz] at hf
  rcases hf.some_cases with hf | hf
  · exact ⟨z, w, hf, hs, hd, hw⟩
  · exact ⟨z.core, w, hf, hs, hd, hw⟩

theorem isSome_fades (h : (s.cap.slot? c i).isSome) (hf : Fades (s.cap.slot? c i) (t.cap.slot? c i)) :
    (t.cap.slot? c i).isSome := by
  rcases hf with hf | hf <;> rw [hf]
  · exact h
  · rwa [Option.isSome_map]

/-- The refetch of an entry is cancelled before its slot is completed (R126). -/
theorem cancelIf_completes (p : Prop) [Decidable p] (s : State) : Completes s (if p then cancelRefetch s else s) := by
  split
  · exact cancelRefetch_completes s
  · exact .refl s

theorem cancelIf_fades (p : Prop) [Decidable p] : Fades (s.cap.slot? c i)
    ((if p then cancelRefetch s else s).cap.slot? c i) := by
  split
  · exact cancelRefetch_fades
  · exact .refl _

theorem completeEntry_completes (st : ReplayEntry → Status) (s : State) (x : ReplayEntry) :
    Completes s (completeEntry st s x) :=
  (cancelIf_completes _ s).trans (completeSlot_captures _ _ _ _ _).completes

theorem completeEntry_fades (st : ReplayEntry → Status) (x : ReplayEntry) (h : ¬ (c = x.chan ∧ i = x.slot)) :
    Fades (s.cap.slot? c i) ((completeEntry st s x).cap.slot? c i) :=
  (cancelIf_fades _).trans (completeSlot_fades _ _ h)

/-- The entry's own slot. -/
theorem completeEntry_lost (x : ReplayEntry) (h : (s.cap.slot? x.chan x.slot).isSome)
    (hq : q (x.sentInfo s.link.localEpoch)) :
    (completeEntry (fun _ => .linkLost) s x).lostAs x.chan x.slot s.timebase q := by
  have hc : Completes s (if s.tx.refetch = some x.seq then cancelRefetch s else s) := cancelIf_completes _ s
  have hs : ((if s.tx.refetch = some x.seq then cancelRefetch s else s).cap.slot? x.chan x.slot).isSome :=
    isSome_fades h (cancelIf_fades _)
  obtain ⟨y, hy⟩ := Option.isSome_iff_exists.mp hs
  refine ⟨_, x.sentInfo s.link.localEpoch,
    (completeSlot_visits hy .linkLost _).slot_hit (fun _ => rfl) hy rfl, rfl, ?_, hq⟩
  rw [hc]
  rfl

/-- After a pass over entries, one of which is the slot's: LINK_LOST, with an entry's fields (R126). -/
theorem lostAs_foldl (l : List ReplayEntry) (hn : s.timebase = now)
    (hq : ∀ x ∈ l, x.chan = c → x.slot = i → q (x.sentInfo s.link.localEpoch))
    (h : s.lostAs c i now q ∨ (s.cap.slot? c i).isSome ∧ ∃ x ∈ l, x.chan = c ∧ x.slot = i) :
    (l.foldl (completeEntry (fun _ => .linkLost)) s).lostAs c i now q := by
  induction l generalizing s with
  | nil => exact h.resolve_right fun ⟨_, x, hx, _⟩ => by cases hx
  | cons x l ih =>
    have hc := completeEntry_completes (fun _ => .linkLost) s x
    have hn' : (completeEntry (fun _ => .linkLost) s x).timebase = now := by rw [hc]; exact hn
    have hlink : (completeEntry (fun _ => .linkLost) s x).link = s.link := hc.link
    refine ih hn' (fun y hy => by rw [hlink]; exact hq y (by simp [hy])) ?_
    by_cases hx : x.chan = c ∧ x.slot = i
    · obtain ⟨rfl, rfl⟩ := hx
      have hs : (s.cap.slot? x.chan x.slot).isSome := by
        rcases h with ⟨z, w, hz, -⟩ | h
        · rw [hz]; rfl
        · exact h.1
      exact .inl (hn ▸ completeEntry_lost x hs (hq x (by simp) rfl rfl))
    · have hf : Fades (s.cap.slot? c i) ((completeEntry (fun _ => .linkLost) s x).cap.slot? c i) :=
        completeEntry_fades _ x fun he => hx ⟨he.1.symm, he.2.symm⟩
      refine h.imp (fun h => h.fades hf) fun ⟨hs, y, hy, he⟩ => ⟨isSome_fades hs hf, y, ?_, he⟩
      rcases List.mem_cons.mp hy with rfl | hy
      · exact absurd he hx
      · exact hy

theorem foldl_completeEntry_completes (l : List ReplayEntry) :
    Completes s (l.foldl (completeEntry (fun _ => .linkLost)) s) := by
  induction l generalizing s with
  | nil => exact .refl s
  | cons x l ih => exact (completeEntry_completes _ s x).trans ih

end

/-! ### The notice -/

section
variable {s : State}

/-- The Transmit Engine has taken its notice and let go of its entries (R101, R126). -/
def State.transmitNoticed (s : State) : State :=
  { s with link := { s.link with txNotices := s.link.txNotices - 1 }, tx := { s.tx with replay := [] } }

/-- And completed their slots, its refetch cancelled (R126). -/
def State.entriesLost (s : State) : State :=
  cancelRefetch (s.tx.replay.foldl (completeEntry (fun _ => .linkLost)) s.transmitNoticed)

/-- And forgotten all else (R126). -/
def State.transmitCleared (s : State) : State :=
  { s with tx := { s.tx with pass := none, nextSeq := 0#12, ackTimer := none, queue := [], inbox := [] } }

theorem transmitNotice_eq (h : s.link.txNotices ≠ 0) : transmitNotice s = acknowledge s.entriesLost.transmitCleared :=
  if_neg h

theorem entriesLost_completes : Completes s.transmitNoticed s.entriesLost :=
  (foldl_completeEntry_completes _).trans (cancelRefetch_completes _)

theorem entriesLost_tx : s.entriesLost.tx = { s.tx with replay := [], refetch := none } := by
  have hr : s.entriesLost.tx.refetch = none := cancelRefetch_refetch _
  rw [← hr, entriesLost_completes]
  rfl

theorem entriesLost_link : s.entriesLost.link = s.transmitNoticed.link := entriesLost_completes.link

theorem entriesLost_lost {x : ReplayEntry} {y : OutSlot} (hx : x ∈ s.tx.replay)
    (hy : s.cap.slot? x.chan x.slot = some y) :
    s.entriesLost.lostAs x.chan x.slot s.timebase (fun q =>
      (∀ w ∈ s.tx.replay, (w.chan, w.slot) = (x.chan, x.slot) → w = x) → q = x.sentInfo s.link.localEpoch) := by
  refine State.lostAs.fades (lostAs_foldl s.tx.replay (s := s.transmitNoticed) rfl (fun w hw hc hs hu => ?_)
    (.inr ⟨?_, x, hx, rfl, rfl⟩)) cancelRefetch_fades
  · rw [hu w hw (by rw [hc, hs])]
    rfl
  · have hy : s.transmitNoticed.cap.slot? x.chan x.slot = some y := hy
    rw [hy]
    rfl

end

end Sys2Proof.Machine

namespace Sys2Proof.Machine

/-! ## The Capture Unit's notice (R54, R81) -/

/-! ### Slots that may have returned to COMMITTED, or lost their buffer -/

/-- The record `y` is `x`, but for a return from STAGING or READY to COMMITTED and the loss of the buffer. -/
structure Rewound (x y : OutSlot) : Prop where
  rest : y = { x with state := y.state, buf := y.buf }
  buf : y.buf = x.buf ∨ y.buf = none
  state : y.state = x.state ∨ (y.state = .committed ∧ (x.state = .staging ∨ x.state = .ready))

/-- Every slot record of `t` is one of `s` so changed. -/
def RewoundAll (s t : State) : Prop := ∀ (c : Chan) (i : Nat),
  (s.cap.slot? c i = none → t.cap.slot? c i = none)
    ∧ ∀ x, s.cap.slot? c i = some x → ∃ y, t.cap.slot? c i = some y ∧ Rewound x y

section
variable {s t v : State} {x y z : OutSlot}

theorem Rewound.refl (x : OutSlot) : Rewound x x := ⟨rfl, .inl rfl, .inl rfl⟩

theorem Rewound.core (x : OutSlot) : Rewound x x.core := ⟨rfl, .inr rfl, .inl rfl⟩

theorem Rewound.trans (h : Rewound x y) (k : Rewound y z) : Rewound x z := by
  refine ⟨?_, ?_, ?_⟩
  · rw [k.rest, h.rest]
  · exact k.buf.elim (fun kb => by rw [kb]; exact h.buf) .inr
  · rcases k.state with ks | ⟨ks, ky⟩
    · rw [ks]; exact h.state
    · rcases h.state with hs | ⟨hs, -⟩
      · rw [hs] at ky; exact .inr ⟨ks, ky⟩
      · rw [hs] at ky; exact absurd ky (by decide)

/-- A slot that can be STAGING or READY was so. -/
theorem Rewound.staged (h : Rewound x y) (hy : y.state = .staging ∨ y.state = .ready) : x.state = y.state := by
  rcases h.state with hs | ⟨hs, -⟩
  · exact hs.symm
  · rw [hs] at hy; exact absurd hy (by decide)

theorem Rewound.bound (h : Rewound x y) {b : Buf} (hb : y.buf = some b) : x.buf = some b := by
  rcases h.buf with h | h <;> rw [h] at hb
  · exact hb
  · cases hb

theorem Fades.rewound {a b : Option OutSlot} (h : Fades a b) :
    (a = none → b = none) ∧ ∀ x, a = some x → ∃ y, b = some y ∧ Rewound x y := by
  refine ⟨?_, ?_⟩
  · rintro rfl
    rcases h with h | h <;> exact h
  · rintro x rfl
    rcases h.some_cases with h | h
    · exact ⟨x, h, .refl x⟩
    · exact ⟨x.core, h, .core x⟩

theorem RewoundAll.of_fades (h : ∀ c i, Fades (s.cap.slot? c i) (t.cap.slot? c i)) : RewoundAll s t :=
  fun c i => (h c i).rewound

theorem RewoundAll.refl (s : State) : RewoundAll s s := .of_fades fun _ _ => .refl _

theorem RewoundAll.trans (h : RewoundAll s t) (k : RewoundAll t v) : RewoundAll s v := by
  refine fun c i => ⟨fun hn => (k c i).1 ((h c i).1 hn), fun x hx => ?_⟩
  obtain ⟨y, hy, hxy⟩ := (h c i).2 x hx
  obtain ⟨z, hz, hyz⟩ := (k c i).2 y hy
  exact ⟨z, hz, hxy.trans hyz⟩

/-- Where a record comes from. -/
theorem RewoundAll.back (h : RewoundAll s t) {c : Chan} {i : Nat} (hy : t.cap.slot? c i = some y) :
    ∃ x, s.cap.slot? c i = some x ∧ Rewound x y := by
  cases hx : s.cap.slot? c i with
  | none => rw [(h c i).1 hx] at hy; cases hy
  | some x =>
    obtain ⟨z, hz, hxz⟩ := (h c i).2 x hx
    obtain rfl := Option.some.inj (hz.symm.trans hy)
    exact ⟨x, rfl, hxz⟩

end

/-! ### One slot (R81) -/

/-- What a link reset makes of a buffer: FROZEN again, if it was captured into, and FREE otherwise (R81). -/
def State.resetDrop (s : State) (b : Buf) : Drop :=
  if s.cap.bufs[b].purpose = some .capture then .freeze else .free

/-- The slot is COMMITTED. -/
def State.backAt (s : State) (c : Chan) (i : Nat) : State :=
  { s with cap := s.cap.onSlot c i (fun x => { x with state := .committed }) }

/-- Buffer `b` is taken from a slot: dropped, with its job if it is being read. -/
def TakesBuf (b : Buf) (d : Drop) (s t : State) : Prop :=
  t = { s with cap := s.cap.drop b d } ∨ t = dropJob b d s

section
variable {s t : State} {c : Chan} {i : Nat} {x : OutSlot} {b : Buf}

theorem resetSlot_ready (hx : s.cap.slot? c i = some x) (hs : x.state = .ready) (hb : x.buf = some b) :
    resetSlot c s i = ({ s with cap := s.cap.drop b (s.resetDrop b) } : State).backAt c i := by
  simp only [resetSlot, hx, hs, hb, State.resetDrop]
  split <;> rfl

theorem resetSlot_staging (hx : s.cap.slot? c i = some x) (hs : x.state = .staging) (hb : x.buf = some b) :
    resetSlot c s i = (dropJob b (s.resetDrop b) s).backAt c i := by
  simp only [resetSlot, hx, hs, hb, State.resetDrop]
  split <;> rfl

/-- A slot in another state, or with no buffer, stays. -/
theorem resetSlot_other
    (h : ∀ x b, s.cap.slot? c i = some x → x.buf = some b → ¬ (x.state = .staging ∨ x.state = .ready)) :
    resetSlot c s i = s := by
  unfold resetSlot
  split
  · next x hx =>
    dsimp only
    split
    · next b hs hb => exact absurd (.inr hs) (h x b hx hb)
    · next b hs hb => exact absurd (.inl hs) (h x b hx hb)
    · rfl
  · rfl

/-- What the link reset does at a slot: nothing, or it takes the slot's buffer, and the slot is COMMITTED. -/
theorem resetSlot_cases (c : Chan) (s : State) (i : Nat) :
    (resetSlot c s i = s
      ∧ ∀ x b, s.cap.slot? c i = some x → x.buf = some b → ¬ (x.state = .staging ∨ x.state = .ready))
    ∨ ∃ x b t, s.cap.slot? c i = some x ∧ x.buf = some b ∧ (x.state = .staging ∨ x.state = .ready)
      ∧ TakesBuf b (s.resetDrop b) s t ∧ resetSlot c s i = t.backAt c i := by
  by_cases h : ∀ x b, s.cap.slot? c i = some x → x.buf = some b → ¬ (x.state = .staging ∨ x.state = .ready)
  · exact .inl ⟨resetSlot_other h, h⟩
  · push Not at h
    obtain ⟨x, b, hx, hb, hs⟩ := h
    rcases hs with hs | hs
    · exact .inr ⟨x, b, _, hx, hb, .inl hs, .inr rfl, resetSlot_staging hx hs hb⟩
    · exact .inr ⟨x, b, _, hx, hb, .inr hs, .inl rfl, resetSlot_ready hx hs hb⟩

/-! What it leaves of the rest of the state, and of every slot. -/

theorem TakesBuf.works {d : Drop} (h : TakesBuf b d s t) : WorksBuffers s t := by
  rcases h with rfl | rfl
  · exact drop_cap_works s b d
  · exact dropJob_works s b d

theorem TakesBuf.fades {d : Drop} (h : TakesBuf b d s t) (k : Chan) (j : Nat) :
    Fades (s.cap.slot? k j) (t.cap.slot? k j) := by
  rcases h with rfl | rfl
  · exact drop_fades d s.cap
  · exact dropJob_fades d

theorem drop_frame (d : Drop) (u : CaptureUnit) : (u.drop b d).rings[c].frame = u.rings[c].frame := by
  cases d
  · exact unbindSlot_frame
  · rfl

theorem TakesBuf.frame {d : Drop} (h : TakesBuf b d s t) : t.cap.rings[c].frame = s.cap.rings[c].frame := by
  rcases h with rfl | rfl
  · exact drop_frame d s.cap
  · unfold dropJob
    split
    · rfl
    · exact drop_frame d (removeJob b s).cap

theorem backAt_slot? (c d : Chan) (i j : Nat) : (s.backAt c i).cap.slot? d j =
    if d = c ∧ j = i then (s.cap.slot? d j).map (fun x => { x with state := .committed }) else s.cap.slot? d j :=
  onSlot_slot? s.cap c d i j _

theorem backAt_works (s : State) (c : Chan) (i : Nat) : WorksBuffers s (s.backAt c i) := rfl

theorem resetSlot_works (s : State) (c : Chan) (i : Nat) : WorksBuffers s (resetSlot c s i) := by
  obtain ⟨h, -⟩ | ⟨x, b, t, -, -, -, ht, h⟩ := resetSlot_cases c s i <;> rw [h]
  · exact .refl s
  · exact ht.works.trans (backAt_works t c i)

theorem resetSlot_frame (s : State) (c d : Chan) (i : Nat) :
    (resetSlot c s i).cap.rings[d].frame = s.cap.rings[d].frame := by
  obtain ⟨h, -⟩ | ⟨x, b, t, -, -, -, ht, h⟩ := resetSlot_cases c s i <;> rw [h]
  exact (onSlot_frame _).trans ht.frame

theorem resetSlot_rewound (s : State) (c : Chan) (i : Nat) : RewoundAll s (resetSlot c s i) := by
  obtain ⟨h, -⟩ | ⟨x, b, t, hx, hb, hs, ht, h⟩ := resetSlot_cases c s i <;> rw [h]
  · exact .refl s
  · intro d j
    rw [backAt_slot?]
    split
    · next hd =>
      obtain ⟨rfl, rfl⟩ := hd
      refine ⟨fun hn => absurd (hx.symm.trans hn) nofun, fun y hy => ?_⟩
      obtain rfl := Option.some.inj (hx.symm.trans hy)
      have hf := ht.fades d j
      rw [hx] at hf
      rcases hf.some_cases with hf | hf <;> rw [hf]
      · exact ⟨_, rfl, rfl, .inl rfl, .inr ⟨rfl, hs⟩⟩
      · exact ⟨_, rfl, rfl, .inr rfl, .inr ⟨rfl, hs⟩⟩
    · exact (ht.fades d j).rewound

end

/-! ### The whole part: the refetch cancelled, then every slot of every ring -/

/-- The refetch in hand is forgotten. -/
def State.refetchForgotten (s : State) : State := { s with cap := { s.cap with refetch := none } }

section
variable {s : State} {c : Chan} {i : Nat} {b : Buf}

/-- What cancelling the refetch can do to the Capture Unit's state (R74). -/
theorem cancelCaptureRefetch_cases (s : State) :
    cancelCaptureRefetch s = s.refetchForgotten
    ∨ ∃ q b, s.cap.refetch = some q ∧ q.buf = some b
      ∧ TakesBuf b .free s.refetchForgotten (cancelCaptureRefetch s) := by
  cases hq : s.cap.refetch with
  | none =>
    rw [cancelCaptureRefetch_none hq]
    exact .inl (by rw [State.refetchForgotten, ← hq])
  | some q =>
    cases hb : q.buf with
    | none => exact .inl (cancelCaptureRefetch_waiting hq hb)
    | some b =>
      by_cases hl : s.cap.bufs[b].state = .loading
      · exact .inr ⟨q, b, rfl, hb, .inr (cancelCaptureRefetch_loading hq hb hl)⟩
      · by_cases hr : s.cap.bufs[b].state = .ready
        · exact .inr ⟨q, b, rfl, hb, .inl (cancelCaptureRefetch_ready hq hb hr)⟩
        · refine .inl ?_
          simp only [cancelCaptureRefetch, hq, hb]
          rfl

theorem cancelCaptureRefetch_works (s : State) : WorksBuffers s.refetchForgotten (cancelCaptureRefetch s) := by
  obtain h | ⟨q, b, -, -, h⟩ := cancelCaptureRefetch_cases s
  · rw [h]; exact .refl _
  · exact h.works

theorem cancelCaptureRefetch_frame : (cancelCaptureRefetch s).cap.rings[c].frame = s.cap.rings[c].frame := by
  obtain h | ⟨q, b, -, -, h⟩ := cancelCaptureRefetch_cases s
  · rw [h]; rfl
  · exact h.frame

/-- What every slot's part keeps, the whole part keeps. -/
theorem captureReset_keeps {p : State → Prop} (hp : ∀ t c i, p t → p (resetSlot c t i))
    (h : p (cancelCaptureRefetch s)) : p (captureReset s) := by
  have ring (t : State) (c : Chan) (ht : p t) : p (resetChan t c) :=
    List.foldlRecOn t.cap.rings[c].order (resetSlot c) ht fun t ht i _ => hp t c i ht
  exact List.foldlRecOn allChans resetChan h fun t ht c _ => ring t c ht

theorem captureReset_works (s : State) : WorksBuffers s.refetchForgotten (captureReset s) :=
  captureReset_keeps (p := WorksBuffers s.refetchForgotten) (fun t c i h => h.trans (resetSlot_works t c i))
    (cancelCaptureRefetch_works s)

theorem captureReset_frame (s : State) (c : Chan) : (captureReset s).cap.rings[c].frame = s.cap.rings[c].frame :=
  captureReset_keeps (p := fun t => t.cap.rings[c].frame = s.cap.rings[c].frame)
    (fun t d i h => (resetSlot_frame t d c i).trans h) cancelCaptureRefetch_frame

theorem captureReset_rewound (s : State) : RewoundAll s (captureReset s) :=
  captureReset_keeps (p := RewoundAll s) (fun t c i h => h.trans (resetSlot_rewound t c i))
    (.of_fades fun _ _ => cancelCaptureRefetch_fades)

/-! ### No slot with a buffer stays STAGING or READY -/

/-- Slot `i` of channel `c`, if it has a buffer, is neither STAGING nor READY. -/
def State.settledAt (s : State) (c : Chan) (i : Nat) : Prop :=
  ∀ y, s.cap.slot? c i = some y → y.buf ≠ none → ¬ (y.state = .staging ∨ y.state = .ready)

theorem State.settledAt.rewound {t : State} (h : s.settledAt c i) (k : RewoundAll s t) : t.settledAt c i := by
  intro y hy hb hs
  obtain ⟨x, hx, hxy⟩ := k.back hy
  have hxb : x.buf ≠ none := by
    rcases hxy.buf with he | he
    · rwa [he] at hb
    · exact absurd he hb
  exact h x hx hxb (by rwa [hxy.staged hs])

theorem resetSlot_settles (s : State) (c : Chan) (i : Nat) : (resetSlot c s i).settledAt c i := by
  obtain ⟨h, hn⟩ | ⟨x, b, t, -, -, -, -, h⟩ := resetSlot_cases c s i <;> rw [h]
  · intro y hy hb
    obtain ⟨b, hb⟩ := Option.ne_none_iff_exists'.mp hb
    exact hn y b hy hb
  · intro y hy _
    rw [backAt_slot?, if_pos ⟨rfl, rfl⟩] at hy
    obtain ⟨z, -, rfl⟩ := Option.map_eq_some_iff.mp hy
    rintro (h | h) <;> cases h

/-- A pass one of whose steps brings about what the others keep. -/
theorem foldl_reaches {α β : Type} {f : β → α → β} {p q : β → Prop} {l : List α} {a : α} (ha : a ∈ l)
    (hp : ∀ t x, p t → p (f t x)) (hq : ∀ t x, q t → q (f t x)) (hf : ∀ t, p t → q (f t a)) {t : β} (h : p t) :
    q (l.foldl f t) := by
  obtain ⟨front, rest, rfl⟩ := List.append_of_mem ha
  rw [List.foldl_append, List.foldl_cons]
  exact List.foldlRecOn rest f (hf _ (List.foldlRecOn front f h fun t ht x _ => hp t x ht)) fun t ht x _ => hq t x ht

theorem resetChan_rewound (s : State) (c : Chan) : RewoundAll s (resetChan s c) :=
  List.foldlRecOn (motive := RewoundAll s) s.cap.rings[c].order (resetSlot c) (.refl s)
    fun t ht i _ => ht.trans (resetSlot_rewound t c i)

theorem resetChan_frame (s : State) (c d : Chan) : (resetChan s c).cap.rings[d].frame = s.cap.rings[d].frame :=
  List.foldlRecOn (motive := fun t : State => t.cap.rings[d].frame = s.cap.rings[d].frame) s.cap.rings[c].order
    (resetSlot c) rfl fun t ht i _ => (resetSlot_frame t c d i).trans ht

theorem resetChan_settles (s : State) (c : Chan) (hi : i < s.cap.rings[c].slots.length) :
    (resetChan s c).settledAt c i :=
  foldl_reaches (p := fun _ => True) (q := fun t : State => t.settledAt c i) ((mem_order_iff _).mpr hi)
    (fun _ _ _ => trivial) (fun t j h => h.rewound (resetSlot_rewound t c j)) (fun t _ => resetSlot_settles t c i)
    trivial

theorem captureReset_settles (s : State) (c : Chan) (i : Nat) : (captureReset s).settledAt c i := by
  by_cases hi : i < s.cap.rings[c].slots.length
  · refine foldl_reaches (p := fun t : State => t.cap.rings[c].frame = s.cap.rings[c].frame)
      (q := fun t : State => t.settledAt c i) (mem_allChans c) (fun t d h => (resetChan_frame t d c).trans h)
      (fun t d h => h.rewound (resetChan_rewound t d)) (fun t h => resetChan_settles t c ?_) cancelCaptureRefetch_frame
    exact hi.trans_eq (congrArg Prod.fst h).symm
  · intro y hy
    have hn : s.cap.slot? c i = none := List.getElem?_eq_none_iff.mpr (Nat.not_lt.mp hi)
    rw [(captureReset_rewound s c i).1 hn] at hy
    cases hy

end

/-! ### One buffer, and the slot that has it -/

/-- Slot `i` of channel `c` has the record `y`, buffer `b` is `z`, and its jobs are as `p` says. -/
structure State.Holds (s : State) (c : Chan) (i : Nat) (b : Buf) (y : OutSlot) (z : Buffer) (p : ReadJob → Prop) :
    Prop where
  slot : s.cap.slot? c i = some y
  buf : s.cap.bufs[b] = z
  jobs : ∀ j ∈ s.cap.jobs, j.buf = b → p j

/-- No slot but slot `i` of channel `c` has buffer `b`. -/
def State.sole (s : State) (c : Chan) (i : Nat) (b : Buf) : Prop :=
  ∀ d j y, s.cap.slot? d j = some y → y.buf = some b → (d, j) = (c, i)

section
variable {s t : State} {c d : Chan} {i j : Nat} {b k : Buf} {x y : OutSlot} {z : Buffer} {p : ReadJob → Prop} {e : Drop}

theorem State.sole.rewound (h : s.sole c i b) (k : RewoundAll s t) : t.sole c i b := by
  intro d j y hy hb
  obtain ⟨x, hx, hxy⟩ := k.back hy
  exact h d j x hx (hxy.bound hb)

theorem drop_bufs_other (u : CaptureUnit) (h : b ≠ k) : (u.drop k e).bufs[b] = u.bufs[b] := by
  cases e
  · exact (onBuf_bufs_other _ _ _ h).trans (by rw [unbindSlot_bufs])
  · exact onBuf_bufs_other _ _ _ h

@[simp] theorem drop_jobs (u : CaptureUnit) : (u.drop b e).jobs = u.jobs := by
  cases e
  · exact freeBuf_jobs u b
  · rfl

/-- Another buffer's loss leaves a slot that does not have it. -/
theorem drop_slot?_other {u : CaptureUnit} (hy : u.slot? c i = some y) (hb : y.buf ≠ some k) :
    (u.drop k e).slot? c i = some y := by
  cases e
  · have h : (u.freeBuf k).slot? c i = u.slot? c i ∨ (u.freeBuf k).slot? c i = (u.slot? c i).map (OutSlot.unbind k) :=
      unbindSlot_slot? u k c i
    rw [hy, Option.map_some, OutSlot.unbind_other k y hb] at h
    exact h.elim id id
  · exact hy

/-- Taking another buffer leaves all that. -/
theorem State.Holds.takes_other (h : s.Holds c i b y z p) (hk : b ≠ k) (hy : y.buf ≠ some k)
    (ht : TakesBuf k e s t) : t.Holds c i b y z p := by
  rcases ht with rfl | rfl
  · exact ⟨drop_slot?_other h.slot hy, (drop_bufs_other _ hk).trans h.buf,
      fun j hj hb => h.jobs j (by rwa [drop_jobs] at hj) hb⟩
  · unfold dropJob
    split
    · refine ⟨h.slot, h.buf, fun j hj hb => ?_⟩
      obtain ⟨j', hj', rfl⟩ := List.mem_map.mp hj
      split at hb
      · next hjk => exact absurd (hb.symm.trans hjk) hk
      · next hjk => rw [if_neg hjk]; exact h.jobs j' hj' hb
    · refine ⟨drop_slot?_other h.slot hy, (drop_bufs_other _ hk).trans h.buf, fun j hj hb => h.jobs j ?_ hb⟩
      have hj : j ∈ ((removeJob k s).cap.drop k e).jobs := hj
      rw [drop_jobs] at hj
      exact (List.mem_filter.mp hj).1

/-- So does the reset of another slot. -/
theorem State.Holds.reset_other (h : s.Holds c i b y z p) (hs : s.sole c i b) (hy : y.buf = some b ∨ y.buf = none)
    (hn : ¬ (c = d ∧ i = j)) : (resetSlot d s j).Holds c i b y z p := by
  obtain ⟨hr, -⟩ | ⟨x, k, t, hx, hk, -, ht, hr⟩ := resetSlot_cases d s j <;> rw [hr]
  · exact h
  · have hbk : b ≠ k := by
      rintro rfl
      obtain ⟨rfl, rfl⟩ := Prod.mk.inj (hs d j x hx hk)
      exact hn ⟨rfl, rfl⟩
    have hyk : y.buf ≠ some k := by
      rcases hy with hy | hy <;> rw [hy]
      · exact fun he => hbk (Option.some.inj he)
      · nofun
    obtain ⟨hslot, hbuf, hjobs⟩ := h.takes_other hbk hyk ht
    exact ⟨by rw [backAt_slot?, if_neg hn]; exact hslot, hbuf, hjobs⟩

/-- And every reset, when the slot is neither STAGING nor READY. -/
theorem State.Holds.reset (h : s.Holds c i b y z p) (hs : s.sole c i b) (hy : y.buf = some b ∨ y.buf = none)
    (hst : ¬ (y.state = .staging ∨ y.state = .ready)) : (resetSlot d s j).Holds c i b y z p := by
  by_cases hn : c = d ∧ i = j
  · obtain ⟨rfl, rfl⟩ := hn
    rwa [resetSlot_other fun x b hx _ => Option.some.inj (h.slot.symm.trans hx) ▸ hst]
  · exact h.reset_other hs hy hn

theorem captureReset_holds (h : (cancelCaptureRefetch s).Holds c i b y z p) (hs : s.sole c i b)
    (hy : y.buf = some b ∨ y.buf = none) (hst : ¬ (y.state = .staging ∨ y.state = .ready)) :
    (captureReset s).Holds c i b y z p :=
  (captureReset_keeps (p := fun t => t.sole c i b ∧ t.Holds c i b y z p)
    (fun t d j ⟨hs, h⟩ => ⟨hs.rewound (resetSlot_rewound t d j), h.reset hs hy hst⟩)
    ⟨hs.rewound (.of_fades fun _ _ => cancelCaptureRefetch_fades), h⟩).2

/-- A STAGING or READY slot's own part decides what it and its buffer become. -/
theorem captureReset_visits (h : (cancelCaptureRefetch s).Holds c i b x s.cap.bufs[b] (fun _ => True))
    (hs : s.sole c i b) (hx : x.buf = some b) (hy : y.buf = some b ∨ y.buf = none)
    (hst : ¬ (y.state = .staging ∨ y.state = .ready))
    (hv : ∀ t : State, t.port = s.port → t.Holds c i b x s.cap.bufs[b] (fun _ => True) →
      (resetSlot c t i).Holds c i b y z p) :
    x.state = .staging ∨ x.state = .ready → (captureReset s).Holds c i b y z p := by
  intro hxs
  have hp (t : State) (hw : WorksBuffers s.refetchForgotten t) : t.port = s.port := by rw [hw]; rfl
  have part (t : State) (d : Chan) (j : Nat) (hw : WorksBuffers s.refetchForgotten t) (hs : t.sole c i b)
      (h : t.Holds c i b x s.cap.bufs[b] (fun _ => True) ∨ t.Holds c i b y z p) :
      (resetSlot d t j).Holds c i b x s.cap.bufs[b] (fun _ => True) ∨ (resetSlot d t j).Holds c i b y z p := by
    rcases h with h | h
    · by_cases hn : c = d ∧ i = j
      · obtain ⟨rfl, rfl⟩ := hn
        exact .inr (hv t (hp t hw) h)
      · exact .inl (h.reset_other hs (.inl hx) hn)
    · exact .inr (h.reset hs hy hst)
  have key := captureReset_keeps (s := s)
    (p := fun t => WorksBuffers s.refetchForgotten t ∧ t.sole c i b
      ∧ (t.Holds c i b x s.cap.bufs[b] (fun _ => True) ∨ t.Holds c i b y z p))
    (fun t d j ⟨hw, hs, h⟩ =>
      ⟨hw.trans (resetSlot_works t d j), hs.rewound (resetSlot_rewound t d j), part t d j hw hs h⟩)
    ⟨cancelCaptureRefetch_works s, hs.rewound (.of_fades fun _ _ => cancelCaptureRefetch_fades), .inl h⟩
  exact key.2.2.resolve_left fun hx' => captureReset_settles s c i x hx'.slot (by rw [hx]; nofun) hxs

end

end Sys2Proof.Machine

namespace Sys2Proof.Machine

/-! ### What becomes of a buffer and its slot (R58, R81) -/

/-- The slot whose buffer is dropped: one that is freed leaves the slot. -/
def OutSlot.dropped (e : Drop) (x : OutSlot) : OutSlot :=
  match e with
  | .free => x.core
  | .freeze => x

/-- The buffer that is dropped. -/
def Buffer.dropped (e : Drop) (z : Buffer) : Buffer :=
  match e with
  | .free => ⟨.free, none, none, []⟩
  | .freeze => { z with state := .frozen }

/-- The slot is COMMITTED. -/
def OutSlot.committed (x : OutSlot) : OutSlot := { x with state := .committed }

/-- A captured buffer is FROZEN, any other FREE (R81). -/
def Buffer.resetDrop (z : Buffer) : Drop := if z.purpose = some .capture then .freeze else .free

section
variable {s t : State} {c : Chan} {i : Nat} {b : Buf} {x : OutSlot} {z : Buffer} {p : ReadJob → Prop} {e : Drop}

theorem freeBuf_slot?_own {u : CaptureUnit} (hx : u.slot? c i = some x) (hb : x.buf = some b)
    (hz : u.bufs[b].binding = some (c, i)) : (u.freeBuf b).slot? c i = some x.core := by
  rw [freeBuf_bound hz]
  refine (onSlot_slot? u c c i i (OutSlot.unbind b)).trans ?_
  rw [if_pos ⟨rfl, rfl⟩, hx, Option.map_some, OutSlot.unbind_self b x hb]

theorem State.Holds.dropped (h : s.Holds c i b x z p) (hb : x.buf = some b) (hz : z.binding = some (c, i)) :
    State.Holds { s with cap := s.cap.drop b e } c i b (x.dropped e) (z.dropped e) p := by
  cases e
  · refine ⟨freeBuf_slot?_own h.slot hb (by rw [h.buf, hz]), onBuf_bufs_same .., fun j hj => h.jobs j ?_⟩
    rwa [← drop_jobs (e := .free)]
  · exact ⟨h.slot, (onBuf_bufs_same ..).trans (by rw [h.buf]; rfl), h.jobs⟩

theorem State.Holds.jobRemoved (h : s.Holds c i b x z p) : (removeJob b s).Holds c i b x z (fun _ => False) :=
  ⟨h.slot, h.buf, fun j hj hb => by simp [removeJob, hb] at hj⟩

theorem State.Holds.dropJob_now (h : s.Holds c i b x z p) (hb : x.buf = some b) (hz : z.binding = some (c, i))
    (hr : s.port.readingInto b = false) :
    (dropJob b e s).Holds c i b (x.dropped e) (z.dropped e) (fun _ => False) := by
  rw [Machine.dropJob_now e hr]
  obtain ⟨hslot, hbuf, hjobs⟩ := h.jobRemoved.dropped (e := e) hb hz
  exact ⟨hslot, hbuf, hjobs⟩

theorem State.Holds.dropJob_granted (h : s.Holds c i b x z p) (hr : s.port.readingInto b = true) :
    (dropJob b e s).Holds c i b x z (fun j => j.drop = some e) := by
  refine ⟨?_, ?_, dropJob_marks e hr⟩ <;> rw [Machine.dropJob_granted e hr]
  · exact h.slot
  · exact h.buf

theorem State.Holds.backAt (h : s.Holds c i b x z p) : (s.backAt c i).Holds c i b x.committed z p :=
  ⟨by rw [backAt_slot?, if_pos ⟨rfl, rfl⟩, h.slot]; rfl, h.buf, h.jobs⟩

theorem State.Holds.resetDrop (h : s.Holds c i b x z p) : s.resetDrop b = z.resetDrop := by
  rw [State.resetDrop, h.buf, Buffer.resetDrop]

theorem State.Holds.reset_ready (h : s.Holds c i b x z p) (hb : x.buf = some b) (hz : z.binding = some (c, i))
    (hx : x.state = .ready) :
    (resetSlot c s i).Holds c i b (x.dropped z.resetDrop).committed (z.dropped z.resetDrop) p := by
  rw [resetSlot_ready h.slot hx hb, h.resetDrop]
  exact (h.dropped hb hz).backAt

theorem State.Holds.reset_staging_now (h : s.Holds c i b x z p) (hb : x.buf = some b) (hz : z.binding = some (c, i))
    (hx : x.state = .staging) (hr : s.port.readingInto b = false) :
    (resetSlot c s i).Holds c i b (x.dropped z.resetDrop).committed (z.dropped z.resetDrop) (fun _ => False) := by
  rw [resetSlot_staging h.slot hx hb, h.resetDrop]
  exact (h.dropJob_now hb hz hr).backAt

theorem State.Holds.reset_staging_granted (h : s.Holds c i b x z p) (hb : x.buf = some b) (hx : x.state = .staging)
    (hr : s.port.readingInto b = true) :
    (resetSlot c s i).Holds c i b x.committed z (fun j => j.drop = some z.resetDrop) := by
  rw [resetSlot_staging h.slot hx hb, h.resetDrop]
  exact (h.dropJob_granted hr).backAt

/-! ### In the whole part -/

theorem dropped_buf (hb : x.buf = some b) :
    (x.dropped e).committed.buf = some b ∨ (x.dropped e).committed.buf = none := by
  cases e
  · exact .inr rfl
  · exact .inl hb

theorem committed_not_staged : ¬ (x.committed.state = .staging ∨ x.committed.state = .ready) := by
  rintro (h | h) <;> cases h

/-- The refetch cancelled is for another slot's buffer. -/
theorem cancelCaptureRefetch_other (hx : s.cap.slot? c i = some x) (hb : x.buf = some b)
    (hq : ∀ q, s.cap.refetch = some q → q.buf ≠ some b) :
    (cancelCaptureRefetch s).Holds c i b x s.cap.bufs[b] (fun _ => True) := by
  have base : s.refetchForgotten.Holds c i b x s.cap.bufs[b] (fun _ => True) := ⟨hx, rfl, fun _ _ _ => trivial⟩
  obtain h | ⟨q, k, hk, hqk, h⟩ := cancelCaptureRefetch_cases s
  · rwa [h]
  · have hne : b ≠ k := fun he => hq q hk (he ▸ hqk)
    exact base.takes_other hne (by rw [hb]; exact fun he => hne (Option.some.inj he)) h

section
variable (hx : s.cap.slot? c i = some x) (hb : x.buf = some b) (hs : s.sole c i b)
  (hq : ∀ q, s.cap.refetch = some q → q.buf ≠ some b) (he : s.cap.bufs[b].resetDrop = e)
include hx hb hs hq he

theorem captureReset_ready (hst : x.state = .ready) (hz : s.cap.bufs[b].binding = some (c, i)) :
    (captureReset s).Holds c i b (x.dropped e).committed (s.cap.bufs[b].dropped e) (fun _ => True) :=
  captureReset_visits (cancelCaptureRefetch_other hx hb hq) hs hb (dropped_buf hb) committed_not_staged
    (fun _ _ h => he ▸ h.reset_ready hb hz hst) (.inr hst)

theorem captureReset_staging_now (hst : x.state = .staging) (hz : s.cap.bufs[b].binding = some (c, i))
    (hr : ¬ s.port.readingInto b = true) :
    (captureReset s).Holds c i b (x.dropped e).committed (s.cap.bufs[b].dropped e) (fun _ => False) :=
  captureReset_visits (cancelCaptureRefetch_other hx hb hq) hs hb (dropped_buf hb) committed_not_staged
    (fun _ hp h => he ▸ h.reset_staging_now hb hz hst (by simpa [hp] using hr)) (.inl hst)

theorem captureReset_staging_granted (hst : x.state = .staging) (hr : s.port.readingInto b = true) :
    (captureReset s).Holds c i b x.committed s.cap.bufs[b] (fun j => j.drop = some e) :=
  captureReset_visits (cancelCaptureRefetch_other hx hb hq) hs hb (.inl hb) committed_not_staged
    (fun _ hp h => he ▸ h.reset_staging_granted hb hst (by rw [hp, hr])) (.inl hst)

end

/-! The slot of the refetch itself: it is neither STAGING nor READY. -/

section
variable {q : Refetch} (hx : s.cap.slot? c i = some x) (hb : x.buf = some b) (hs : s.sole c i b)
  (hq : s.cap.refetch = some q) (hqb : q.buf = some b) (hst : ¬ (x.state = .staging ∨ x.state = .ready))
include hx hb hs hq hqb hst

theorem captureReset_refetch_ready (hz : s.cap.bufs[b].binding = some (c, i)) (hr : s.cap.bufs[b].state = .ready) :
    (captureReset s).Holds c i b x.core ⟨.free, none, none, []⟩ (fun _ => True) := by
  have base : s.refetchForgotten.Holds c i b x s.cap.bufs[b] (fun _ => True) := ⟨hx, rfl, fun _ _ _ => trivial⟩
  refine captureReset_holds ?_ hs (.inr rfl) hst
  rw [cancelCaptureRefetch_ready hq hqb hr]
  exact base.dropped (e := .free) hb hz

theorem captureReset_refetch_now (hz : s.cap.bufs[b].binding = some (c, i)) (hl : s.cap.bufs[b].state = .loading)
    (hr : ¬ s.port.readingInto b = true) :
    (captureReset s).Holds c i b x.core ⟨.free, none, none, []⟩ (fun _ => False) := by
  have base : s.refetchForgotten.Holds c i b x s.cap.bufs[b] (fun _ => True) := ⟨hx, rfl, fun _ _ _ => trivial⟩
  refine captureReset_holds ?_ hs (.inr rfl) hst
  rw [cancelCaptureRefetch_loading hq hqb hl]
  exact base.dropJob_now (e := .free) hb hz (Bool.eq_false_iff.mpr hr)

theorem captureReset_refetch_granted (hl : s.cap.bufs[b].state = .loading) (hr : s.port.readingInto b = true) :
    (captureReset s).Holds c i b x s.cap.bufs[b] (fun j => j.drop = some .free) := by
  have base : s.refetchForgotten.Holds c i b x s.cap.bufs[b] (fun _ => True) := ⟨hx, rfl, fun _ _ _ => trivial⟩
  refine captureReset_holds ?_ hs (.inl hb) hst
  rw [cancelCaptureRefetch_loading hq hqb hl]
  exact base.dropJob_granted (e := .free) hr

end

/-! ### A buffer that no STAGING or READY slot and no refetch has -/

/-- No STAGING or READY slot has buffer `b`. -/
def State.unstaged (s : State) (b : Buf) : Prop :=
  ∀ (c : Chan) i x, s.cap.slot? c i = some x → x.buf = some b → ¬ (x.state = .staging ∨ x.state = .ready)

theorem State.unstaged.rewound (h : s.unstaged b) (k : RewoundAll s t) : t.unstaged b := by
  intro c i y hy hb hs
  obtain ⟨x, hx, hxy⟩ := k.back hy
  exact h c i x hx (hxy.bound hb) (by rwa [hxy.staged hs])

theorem TakesBuf.bufs_other {k : Buf} (h : TakesBuf k e s t) (hb : b ≠ k) : t.cap.bufs[b] = s.cap.bufs[b] := by
  rcases h with rfl | rfl
  · exact drop_bufs_other s.cap hb
  · unfold dropJob
    split
    · rfl
    · exact drop_bufs_other (removeJob k s).cap hb

theorem captureReset_bufs (h : s.unstaged b) (hq : ∀ q, s.cap.refetch = some q → q.buf ≠ some b) :
    (captureReset s).cap.bufs[b] = s.cap.bufs[b] := by
  refine (captureReset_keeps (s := s) (p := fun t => t.unstaged b ∧ t.cap.bufs[b] = s.cap.bufs[b])
    (fun t d j ⟨hu, he⟩ => ⟨hu.rewound (resetSlot_rewound t d j), ?_⟩)
    ⟨h.rewound (.of_fades fun _ _ => cancelCaptureRefetch_fades), ?_⟩).2
  · obtain hr | ⟨q, k, hk, hqk, hr⟩ := cancelCaptureRefetch_cases s
    · rw [hr]; rfl
    · exact hr.bufs_other fun hbk => hq q hk (hqk.trans (congrArg some hbk.symm))
  · obtain ⟨hr, -⟩ | ⟨x, k, v, hx, hk, hxs, hv, hr⟩ := resetSlot_cases d t j <;> rw [hr]
    · exact he
    · exact (hv.bufs_other fun hbk => hu d j x hx (hk.trans (congrArg some hbk.symm)) hxs).trans he

end

/-! ### The notice -/

section
variable {s : State}

/-- The Capture Unit has taken its notice (R101). -/
def State.captureNoticed (s : State) : State := { s with link := { s.link with capNotices := s.link.capNotices - 1 } }

theorem captureNotice_eq (h : s.link.capNotices ≠ 0) :
    captureNotice s = acknowledge (captureReset s.captureNoticed) := if_neg h

/-- Only slots, buffers, jobs and the waiting read change, and the refetch is forgotten. -/
theorem captureReset_eq : captureReset s = { s with
    cap := { s.cap with
      rings := (captureReset s).cap.rings, bufs := (captureReset s).cap.bufs, jobs := (captureReset s).cap.jobs
      refetch := none }
    reqs := { s.reqs with captureRead := (captureReset s).reqs.captureRead } } := captureReset_works s

theorem captureReset_cursors (c : Chan) :
    (captureReset s).cap.rings[c].commitCursor = s.cap.rings[c].commitCursor
    ∧ (captureReset s).cap.rings[c].transmitCursor = s.cap.rings[c].transmitCursor :=
  Prod.mk.inj (Prod.mk.inj (captureReset_frame s c)).2

theorem captureReset_slot (c : Chan) (i : Nat) {x : OutSlot} (hx : s.cap.slot? c i = some x) :
    ∃ y, (captureReset s).cap.slot? c i = some y ∧ Rewound x y
      ∧ (y.buf ≠ none → ¬ (y.state = .staging ∨ y.state = .ready)) := by
  obtain ⟨y, hy, hxy⟩ := (captureReset_rewound s c i).2 x hx
  exact ⟨y, hy, hxy, captureReset_settles s c i y hy⟩

end

end Sys2Proof.Machine

namespace Sys2Proof.Machine

/-! ## The Landing Engine's notice (R127, R154, R159, R160) -/

/-- From `s` to `t` slots have been returned and drains finished: of the Landing Engine only the rings and the held read
may differ, and the link and the landing request stay. -/
structure ReturnsSlots (s t : State) : Prop where
  land : t.land = { s.land with rings := t.land.rings, heldRead := t.land.heldRead }
  link : t.link = s.link
  landing : t.reqs.landing = s.reqs.landing

section
variable {s t v : State}

theorem ReturnsSlots.refl (s : State) : ReturnsSlots s s := ⟨rfl, rfl, rfl⟩

theorem ReturnsSlots.trans (h : ReturnsSlots s t) (k : ReturnsSlots t v) : ReturnsSlots s v := by
  refine ⟨?_, k.link.trans h.link, k.landing.trans h.landing⟩
  rw [k.land, h.land]

theorem leaveLanding_returns (c : Chan) (i : Nat) (s : State) :
    ReturnsSlots s (leaveLanding c i s) ∧ (leaveLanding c i s).land.rings = s.land.rings := by
  unfold leaveLanding
  split
  · split <;> exact ⟨⟨rfl, rfl, rfl⟩, rfl⟩
  · exact ⟨.refl s, rfl⟩

theorem reportPosted_returns (c : Chan) (s : State) :
    ReturnsSlots s (reportPosted c s) ∧ (reportPosted c s).land.rings = s.land.rings := by
  unfold reportPosted
  split <;> exact ⟨⟨rfl, rfl, rfl⟩, rfl⟩

/-- What a ring makes of a discarded entry: the slot of a landing of its own is POSTED, the land cursor at it (R160). -/
def InRing.takeBack (c : Chan) (e : LandEntry) (r : InRing) : InRing :=
  match e.verdict with
  | .landing l => if c = e.chan then r.returnPosted l.slot else r
  | .refusal _ => r

theorem landRing_set (u : LandingEngine) (f : InRing → InRing) (c d : Chan) :
    (u.onRing d f).rings[c] = if c = d then f u.rings[c] else u.rings[c] := by
  by_cases h : c = d
  · subst h; simp [LandingEngine.onRing]
  · have hv : (d : Nat) ≠ c := fun hv => h (Fin.ext hv.symm)
    simp [LandingEngine.onRing, h, hv]

theorem discardEntry_refusal {e : LandEntry} {r : Reason} (h : e.verdict = .refusal r) : discardEntry s e = s := by
  simp only [discardEntry, h]

theorem discardEntry_landing {e : LandEntry} {l : Landing} (h : e.verdict = .landing l) : discardEntry s e =
    leaveLanding e.chan l.slot (reportPosted e.chan (returnPosted e.chan l.slot s)) := by
  simp only [discardEntry, h]

theorem discardEntry_returns (s : State) (e : LandEntry) : ReturnsSlots s (discardEntry s e) := by
  cases h : e.verdict with
  | refusal r => rw [discardEntry_refusal h]; exact .refl s
  | landing l =>
    rw [discardEntry_landing h]
    have hp : ReturnsSlots s (returnPosted e.chan l.slot s) := ⟨rfl, rfl, rfl⟩
    exact (hp.trans (reportPosted_returns e.chan _).1).trans (leaveLanding_returns _ _ _).1

theorem discardEntry_rings (s : State) (e : LandEntry) (c : Chan) :
    (discardEntry s e).land.rings[c] = s.land.rings[c].takeBack c e := by
  unfold InRing.takeBack
  cases h : e.verdict with
  | refusal r => rw [discardEntry_refusal h]
  | landing l =>
    rw [discardEntry_landing h, (leaveLanding_returns _ _ _).2, (reportPosted_returns _ _).2]
    exact landRing_set _ _ _ _

/-- Discarded from the youngest to the oldest, in each ring. -/
theorem foldr_discardEntry (out : List LandEntry) (s : State) (c : Chan) :
    ReturnsSlots s (out.foldr (fun e u => discardEntry u e) s)
    ∧ (out.foldr (fun e u => discardEntry u e) s).wm = s.wm
    ∧ (out.foldr (fun e u => discardEntry u e) s).land.rings[c] = out.foldr (InRing.takeBack c) s.land.rings[c] := by
  induction out with
  | nil => exact ⟨.refl s, rfl, rfl⟩
  | cons e out ih =>
    obtain ⟨hr, hw, hc⟩ := ih
    refine ⟨hr.trans (discardEntry_returns _ e), ?_, ?_⟩
    · exact (discardEntry_wm _ e).trans hw
    · rw [List.foldr_cons, discardEntry_rings, hc]
      rfl

end

/-! ### One ring -/

/-- Slot `i`, if there is one, is POSTED. -/
def InRing.postedAt (r : InRing) (i : Nat) : Prop := ∀ x, r.slots[i]? = some x → x.state = .posted

section
variable {r : InRing} {c : Chan} {e : LandEntry} {l : Landing}

theorem takeBack_own (h : e.verdict = .landing l) (hc : c = e.chan) : r.takeBack c e = r.returnPosted l.slot := by
  simp only [InRing.takeBack, h, hc, if_true]

theorem takeBack_idle (h : e.chan = c → ∃ w, e.verdict = .refusal w) : r.takeBack c e = r := by
  unfold InRing.takeBack
  split
  · next l hl =>
    refine if_neg fun hc => ?_
    obtain ⟨w, hw⟩ := h hc.symm
    cases hl.symm.trans hw
  · rfl

theorem returnPosted_posts (r : InRing) (i : Nat) : (r.returnPosted i).postedAt i := by
  intro x hx
  have hx : (r.slots.modify i (fun x => { x with state := .posted }))[i]? = some x := hx
  simp only [List.getElem?_modify, if_true, Option.map_eq_map, Option.map_eq_some_iff] at hx
  obtain ⟨y, -, rfl⟩ := hx
  rfl

theorem returnPosted_keeps {i j : Nat} (h : r.postedAt i) : (r.returnPosted j).postedAt i := by
  intro x hx
  have hx : (r.slots.modify j (fun x => { x with state := .posted }))[i]? = some x := hx
  simp only [List.getElem?_modify, Option.map_eq_map, Option.map_eq_some_iff] at hx
  obtain ⟨y, hy, rfl⟩ := hx
  split
  · rfl
  · exact h y hy

theorem takeBack_keeps {i : Nat} (h : r.postedAt i) : (r.takeBack c e).postedAt i := by
  unfold InRing.takeBack
  split
  · split
    · exact returnPosted_keeps h
    · exact h
  · exact h

theorem takeBack_count : (r.takeBack c e).slots.length = r.slots.length := by
  unfold InRing.takeBack
  split
  · split
    · exact List.length_modify ..
    · rfl
  · rfl

theorem foldr_takeBack_count (out : List LandEntry) :
    (out.foldr (InRing.takeBack c) r).slots.length = r.slots.length := by
  induction out with
  | nil => rfl
  | cons e out ih => exact takeBack_count.trans ih

theorem foldr_takeBack_keeps {i : Nat} (front : List LandEntry) (h : r.postedAt i) :
    (front.foldr (InRing.takeBack c) r).postedAt i := by
  induction front with
  | nil => exact h
  | cons e front ih => exact takeBack_keeps ih

theorem foldr_takeBack_idle (front : List LandEntry) (h : ∀ f ∈ front, f.chan = c → ∃ w, f.verdict = .refusal w) :
    front.foldr (InRing.takeBack c) r = r := by
  induction front with
  | nil => rfl
  | cons e front ih =>
    rw [List.foldr_cons, ih fun f hf => h f (by simp [hf]), takeBack_idle (h e (by simp))]

/-- A discarded landing's slot is POSTED (R160). -/
theorem foldr_takeBack_posts (front rest : List LandEntry) (h : e.verdict = .landing l) :
    ((front ++ e :: rest).foldr (InRing.takeBack e.chan) r).postedAt l.slot := by
  rw [List.foldr_append, List.foldr_cons, takeBack_own h rfl]
  exact foldr_takeBack_keeps front (returnPosted_posts _ _)

/-- The oldest discarded landing of the channel has the land cursor (R160). -/
theorem foldr_takeBack_cursor (front rest : List LandEntry) (h : e.verdict = .landing l)
    (hf : ∀ f ∈ front, f.chan = e.chan → ∃ w, f.verdict = .refusal w) :
    ((front ++ e :: rest).foldr (InRing.takeBack e.chan) r).landCursor = l.slot := by
  rw [List.foldr_append, List.foldr_cons, takeBack_own h rfl, foldr_takeBack_idle front hf]
  rfl

end

/-! ### Drains finished -/

section
variable {s t : State} {c d : Chan}

theorem finishInDrain_returns (c : Chan) (s : State) : ReturnsSlots s (finishInDrain c s) := by
  unfold finishInDrain
  split <;> exact ⟨rfl, rfl, rfl⟩

/-- Another channel's drain, or none, leaves a channel that is not STOPPING. -/
theorem finishInDrain_leaves (d : Chan) (h : s.wm.isStopping c = false) :
    (finishInDrain d s).wm.isStopping c = false ∧ (finishInDrain d s).land.rings[c] = s.land.rings[c] := by
  unfold finishInDrain
  split
  · next hd =>
    have hne : c ≠ d := by
      rintro rfl
      simp [inDrained, h] at hd
    refine ⟨?_, (landRing_set _ _ c d).trans (if_neg hne)⟩
    have hchan : (setChan d .off s).wm.chans[c] = s.wm.chans[c] := (setChan_chans d c .off s).trans (if_neg hne)
    have hw : (setChan d .off s).wm.isStopping c = s.wm.isStopping c := by
      unfold Matcher.isStopping
      rw [hchan]
    exact hw.trans h
  · exact ⟨h, rfl⟩

theorem drains_returns (l : List Chan) (s : State) : ReturnsSlots s (l.foldl (fun u c => finishInDrain c u) s) := by
  induction l generalizing s with
  | nil => exact .refl s
  | cons d l ih => exact (finishInDrain_returns d s).trans (ih _)

theorem drains_leave (l : List Chan) (h : s.wm.isStopping c = false) :
    (l.foldl (fun u c => finishInDrain c u) s).land.rings[c] = s.land.rings[c] := by
  induction l generalizing s with
  | nil => rfl
  | cons d l ih =>
    obtain ⟨hw, hr⟩ := finishInDrain_leaves d h
    exact (ih hw).trans hr

end

/-! ### The notice -/

/-- The Landing Engine has taken its notice, and has cleared its own state but for the entries it keeps (R127). -/
def State.landingCleared (s : State) (kept : List LandEntry) (waiting : Option DevReq) : State :=
  { s with
    link := { s.link with landNotices := s.link.landNotices - 1 }
    land := { s.land with
      expected := 0#12, disposed := none, refusals := [], nakFlag := false, batch := 0, ackDelay := none
      queue := kept, inbox := [] }
    reqs := { s.reqs with landing := waiting } }

/-- And has returned the slots of the entries it discards, and finished drains (R159, R160). -/
def State.landingReturned (s : State) (kept out : List LandEntry) (waiting : Option DevReq) : State :=
  allChans.foldl (fun u c => finishInDrain c u)
    (out.foldr (fun e u => discardEntry u e) (s.landingCleared kept waiting))

section
variable {s : State} {e : LandEntry} {l : Landing} {rest : List LandEntry}

theorem landingNotice_eq (h : s.link.landNotices ≠ 0) : landingNotice s = acknowledge
    (s.landingReturned (keptEntries s.land.queue) (discardedEntries s.land.queue)
      (if headBegun s.land.queue then s.reqs.landing else none)) := by
  rw [landingNotice, if_neg h, landingReset, List.foldl_reverse]
  rfl

theorem landingNotice_begun (h : s.link.landNotices ≠ 0) (hl : s.lands e l rest) (hb : l.begun = true) :
    landingNotice s = acknowledge
      (s.landingReturned [{ e with verdict := .landing { l with kept := true } }] rest s.reqs.landing) := by
  obtain ⟨hq, hv⟩ := hl
  have hbegun : e.begun = true := by simp only [LandEntry.begun, hv, hb]
  have hkeep : e.keep = { e with verdict := .landing { l with kept := true } } := by simp only [LandEntry.keep, hv]
  rw [landingNotice_eq h, hq, keptEntries, discardedEntries, headBegun, hbegun, hkeep]
  rfl

theorem landingNotice_not_begun (h : s.link.landNotices ≠ 0)
    (hn : ∀ e l rest, s.lands e l rest → l.begun = false) :
    landingNotice s = acknowledge (s.landingReturned [] s.land.queue none) := by
  rw [landingNotice_eq h]
  cases hq : s.land.queue with
  | nil => rfl
  | cons e rest =>
    have hbegun : e.begun = false := by
      cases hv : e.verdict with
      | refusal r => simp only [LandEntry.begun, hv]
      | landing l => simp only [LandEntry.begun, hv, hn e l rest ⟨hq, hv⟩]
    rw [keptEntries, discardedEntries, headBegun, hbegun]
    rfl

variable (kept out : List LandEntry) (waiting : Option DevReq)

theorem landingReturned_returns : ReturnsSlots (s.landingCleared kept waiting) (s.landingReturned kept out waiting) :=
  (foldr_discardEntry out _ 0).1.trans (drains_returns _ _)

theorem landingReturned_ring {c : Chan} (h : s.wm.isStopping c = false) :
    (s.landingReturned kept out waiting).land.rings[c] = out.foldr (InRing.takeBack c) s.land.rings[c] := by
  obtain ⟨-, hw, hr⟩ := foldr_discardEntry out (s.landingCleared kept waiting) c
  have hs : (out.foldr (fun e u => discardEntry u e) (s.landingCleared kept waiting)).wm.isStopping c = false := by
    rw [hw]
    exact h
  rw [State.landingReturned, drains_leave allChans hs, hr]
  rfl

/-- The slot of a discarded landing of a channel that is not STOPPING (R160). -/
theorem landingReturned_slot (front : List LandEntry) (hv : e.verdict = .landing l)
    (h : s.wm.isStopping e.chan = false) :
    ((s.landingReturned kept (front ++ e :: rest) waiting).land.slot? e.chan l.slot).map (·.state)
        = (s.land.slot? e.chan l.slot).map (fun _ => InState.posted)
    ∧ ((∀ f ∈ front, f.chan = e.chan → ∃ r, f.verdict = .refusal r) →
      (s.landingReturned kept (front ++ e :: rest) waiting).land.rings[e.chan].landCursor = l.slot) := by
  unfold LandingEngine.slot?
  rw [landingReturned_ring kept _ waiting h]
  refine ⟨?_, foldr_takeBack_cursor front rest hv⟩
  have hp := foldr_takeBack_posts (r := s.land.rings[e.chan]) front rest hv
  have hc := foldr_takeBack_count (c := e.chan) (r := s.land.rings[e.chan]) (front ++ e :: rest)
  generalize (front ++ e :: rest).foldr (InRing.takeBack e.chan) s.land.rings[e.chan] = r at hp hc ⊢
  by_cases hi : l.slot < r.slots.length
  · rw [List.getElem?_eq_getElem hi, List.getElem?_eq_getElem (hc ▸ hi)]
    exact congrArg some (hp _ (List.getElem?_eq_getElem hi))
  · rw [List.getElem?_eq_none (Nat.not_lt.mp hi), List.getElem?_eq_none (by omega)]
    rfl

/-- What the notice leaves of the Landing Engine, whatever it keeps and discards. -/
theorem landingNotified (s : State) :
    (acknowledge (s.landingReturned kept out waiting)).land.queue = kept
    ∧ (acknowledge (s.landingReturned kept out waiting)).reqs.landing = waiting
    ∧ (acknowledge (s.landingReturned kept out waiting)).land.rings
      = (s.landingReturned kept out waiting).land.rings := by
  obtain ⟨-, -, hland, hreq, -⟩ := acknowledge_leaves (s.landingReturned kept out waiting)
  obtain ⟨hl, -, hr⟩ := landingReturned_returns (s := s) kept out waiting
  rw [hland, hreq, hr, hl]
  exact ⟨rfl, rfl, rfl⟩

theorem landingNotice_leaves (h : s.link.landNotices ≠ 0) :
    (landingNotice s).land = { s.land with
      expected := 0#12, disposed := none, refusals := [], nakFlag := false, batch := 0, ackDelay := none, inbox := []
      queue := (landingNotice s).land.queue, rings := (landingNotice s).land.rings
      heldRead := (landingNotice s).land.heldRead }
    ∧ (landingNotice s).link.landNotices = s.link.landNotices - 1
    ∧ (landingNotice s).link.acks = s.link.acks - 1 := by
  rw [landingNotice_eq h]
  have hr := landingReturned_returns (s := s) (keptEntries s.land.queue) (discardedEntries s.land.queue)
    (if headBegun s.land.queue then s.reqs.landing else none)
  generalize s.landingReturned (keptEntries s.land.queue) (discardedEntries s.land.queue) _ = v at hr ⊢
  obtain ⟨hl, hk, -⟩ := hr
  obtain ⟨-, -, hland, -, -, hnot, hacks⟩ := acknowledge_leaves v
  rw [hland, hnot, hacks, hk, hl]
  exact ⟨rfl, rfl, rfl⟩

end

end Sys2Proof.Machine

namespace Sys2Proof.Machine

/-! ## The four notices and the acknowledgement (R101) -/

section
variable {s : State}

theorem creditNotice_eq (h : s.link.credNotices ≠ 0) : creditNotice s = acknowledge { s with
    cred := s.cred.linkReset, link := { s.link with credNotices := s.link.credNotices - 1 } } := if_neg h

/-- Posted totals forgotten, send records as after pin reset (R139). -/
theorem creditLinkReset_eq (u : CreditUnit) : u.linkReset =
    ⟨Vector.ofFn (fun c : Chan => ⟨u.recv[c].generation, u.recv[c].posted.forget, false⟩),
      Vector.replicate 16 ⟨0#16, none, none, .unknown⟩, none, []⟩ := by
  rw [CreditUnit.linkReset, tabulate_eq_ofFn]
  rfl

/-- An entry's slot LINK_LOST, sent in the epoch `e` (R126). -/
def loseEntry (e : Epoch) (u : State) (x : ReplayEntry) : State :=
  completeSlot x.chan x.slot .linkLost (some ⟨x.seq, e, x.sends⟩)
    (if u.tx.refetch = some x.seq then cancelRefetch u else u)

theorem completeEntry_eq (x : ReplayEntry) :
    completeEntry (fun _ => .linkLost) s x = loseEntry s.link.localEpoch s x := by
  have hc : Completes s (if s.tx.refetch = some x.seq then cancelRefetch s else s) := cancelIf_completes _ s
  rw [completeEntry, loseEntry, hc.link]

/-- The epoch is the same for all entries. -/
theorem foldl_completeEntry_eq (l : List ReplayEntry) :
    l.foldl (completeEntry (fun _ => .linkLost)) s = l.foldl (loseEntry s.link.localEpoch) s := by
  induction l generalizing s with
  | nil => rw [List.foldl_nil, List.foldl_nil]
  | cons x l ih =>
    rw [List.foldl_cons, List.foldl_cons, ih, (completeEntry_completes _ s x).link, completeEntry_eq]

theorem allChans_eq_finRange : allChans = List.finRange 16 := by decide

theorem resetDrop_captured {z : Buffer} (h : z.purpose = some .capture) : z.resetDrop = .freeze := if_pos h
theorem resetDrop_other {z : Buffer} (h : z.purpose ≠ some .capture) : z.resetDrop = .free := if_neg h

end

/-- Settles O36: notice by notice, and the acknowledgement by what is outstanding. -/
theorem linkResetNotices : Obligations.LinkResetNotices := by
  refine ⟨fun s on => ⟨⟨fun h => ?_, fun h => ?_⟩, ⟨fun h => ?_, fun h => ?_⟩, ⟨fun h => ?_, fun h => ?_⟩,
    fun h => ?_, fun h => ?_⟩, fun s => ⟨acknowledge_outstanding, fun h =>
      ⟨fun c hc h5 hd => acknowledge_disables h hc h5 hd, fun hn hd hl => ?_, fun hn hd => ?_⟩⟩⟩
  · rw [exec_transmitLinkReset on, transmitNotice, if_pos h]
  · intro s0 lost u
    obtain ⟨htx, hcap, -, -, hnot, -, hacks⟩ := acknowledge_leaves s.entriesLost.transmitCleared
    have hu : s.entriesLost = u := congrArg cancelRefetch (foldl_completeEntry_eq s.tx.replay)
    refine ⟨_, (exec_transmitLinkReset on).trans (congrArg _ (transmitNotice_eq h)), by rw [hu]; rfl, ?_, ?_, ?_,
      fun x hx y hy => ?_⟩
    · rw [htx, State.transmitCleared, entriesLost_tx]
    · rw [hnot, State.transmitCleared, entriesLost_link]
      rfl
    · rw [hacks, State.transmitCleared, entriesLost_link]
      rfl
    · obtain ⟨z, q, hz, hst, hd, hq⟩ := entriesLost_lost hx hy
      exact ⟨z, q, by rw [hcap]; exact hz, hst, hd, hq⟩
  · rw [exec_captureLinkReset on, captureNotice, if_pos h]
  · refine ⟨captureReset s.captureNoticed, (exec_captureLinkReset on).trans (congrArg _ (captureNotice_eq h)),
      captureReset_eq, captureReset_cursors, fun c i hn => (captureReset_rewound s.captureNoticed c i).1 hn,
      fun c i x hx => ?_, fun b hb hq => captureReset_bufs (s := s.captureNoticed) ?_ hq,
      fun b c i x hx hb hz hs => ?_⟩
    · obtain ⟨y, hy, hxy, hset⟩ := captureReset_slot (s := s.captureNoticed) c i hx
      exact ⟨y, hy, hxy.rest, hxy.buf, hxy.state, fun hb => not_or.mp (hset hb)⟩
    · exact fun c i x hx hxb => not_or.mpr (hb c i x hx hxb)
    · intro is kept bare frozen free capture reading dropped none_
      refine ⟨fun hq => ⟨fun h hc => ?_, fun h hc => ?_, fun h hr hc => ?_, fun h hr hc => ?_, fun h hr => ?_⟩,
        fun q hq hqb h1 h2 => ⟨fun h => ?_, fun h hr => ?_, fun h hr => ?_⟩⟩
      · have hh := captureReset_ready (s := s.captureNoticed) hx hb hs hq (resetDrop_captured hc) h hz
        exact ⟨hh.slot, hh.buf⟩
      · have hh := captureReset_ready (s := s.captureNoticed) hx hb hs hq (resetDrop_other hc) h hz
        exact ⟨hh.slot, hh.buf⟩
      · have hh := captureReset_staging_now (s := s.captureNoticed) hx hb hs hq (resetDrop_captured hc) h hz hr
        exact ⟨⟨hh.slot, hh.buf⟩, hh.jobs⟩
      · have hh := captureReset_staging_now (s := s.captureNoticed) hx hb hs hq (resetDrop_other hc) h hz hr
        exact ⟨⟨hh.slot, hh.buf⟩, hh.jobs⟩
      · have hh (e : Drop) (he : s.captureNoticed.cap.bufs[b].resetDrop = e) :=
          captureReset_staging_granted (s := s.captureNoticed) hx hb hs hq he h hr
        exact ⟨⟨(hh _ rfl).slot, (hh _ rfl).buf⟩, fun hc => (hh _ (resetDrop_captured hc)).jobs,
          fun hc => (hh _ (resetDrop_other hc)).jobs⟩
      · have hh := captureReset_refetch_ready (s := s.captureNoticed) hx hb hs hq hqb (not_or.mpr ⟨h1, h2⟩) hz h
        exact ⟨hh.slot, hh.buf⟩
      · have hh := captureReset_refetch_now (s := s.captureNoticed) hx hb hs hq hqb (not_or.mpr ⟨h1, h2⟩) hz h hr
        exact ⟨⟨hh.slot, hh.buf⟩, hh.jobs⟩
      · have hh := captureReset_refetch_granted (s := s.captureNoticed) hx hb hs hq hqb (not_or.mpr ⟨h1, h2⟩) h hr
        exact ⟨⟨hh.slot, hh.buf⟩, hh.jobs⟩
  · rw [exec_landingLinkReset on, landingNotice, if_pos h]
  · intro back after returned
    have hback : back = fun e u => discardEntry u e := by
      funext e u
      cases hv : e.verdict with
      | refusal r => rw [discardEntry_refusal hv]; simp only [back, hv]
      | landing l => rw [discardEntry_landing hv]; simp only [back, hv]; rfl
    have hafter (kept out : List LandEntry) (waiting : Option DevReq) :
        after kept out waiting = acknowledge (s.landingReturned kept out waiting) := by
      simp only [after, hback, State.landingReturned, allChans_eq_finRange]
      rfl
    obtain ⟨hland, hlink, hacks⟩ := landingNotice_leaves h
    have hret (kept out : List LandEntry) (waiting : Option DevReq) :
        returned (acknowledge (s.landingReturned kept out waiting)) out := by
      intro front e l rest ho hv hn
      subst ho
      obtain ⟨-, -, hrings⟩ := landingNotified kept (front ++ e :: rest) waiting s
      obtain ⟨hp, hc⟩ := landingReturned_slot (s := s) (rest := rest) kept waiting front hv hn
      rw [LandingEngine.slot?, hrings]
      exact ⟨hp, hc⟩
    refine ⟨landingNotice s, exec_landingLinkReset on, by rw [hland], by rw [hland], by rw [hland], by rw [hland],
      by rw [hland], by rw [hland], by rw [hland], hlink, hacks, fun e l rest hl hb => ?_, fun hn => ?_⟩
    · rw [hafter, landingNotice_begun h hl hb]
      exact ⟨(landingNotified _ rest s.reqs.landing s).1, hret _ rest _, rfl⟩
    · rw [hafter, landingNotice_not_begun h hn]
      obtain ⟨hq, hreq, -⟩ := landingNotified [] s.land.queue none s
      exact ⟨hq, hreq, hret _ _ _, rfl⟩
  · rw [exec_creditLinkReset on, creditNotice, if_pos h]
  · intro recv
    refine (exec_creditLinkReset on).trans (congrArg _ ((creditNotice_eq h).trans ?_))
    have hrecv : Vector.ofFn (fun c : Chan =>
        (⟨s.cred.recv[c].generation, s.cred.recv[c].posted.forget, false⟩ : RecvRecord)) = recv := by
      refine congrArg Vector.ofFn (funext fun c => ?_)
      cases s.cred.recv[c].posted <;> rfl
    rw [creditLinkReset_eq, hrecv]
  · rw [acknowledge_idle hn, trySync_eq]
    exact if_pos ⟨hd, hl, (by omega : s.link.acks - 1 = 0)⟩
  · rw [acknowledge_idle hn, trySync_eq]
    refine if_neg fun ⟨h1, h2, _⟩ => ?_
    rcases hd with hd | hd
    · exact hd h1
    · exact absurd h2 (by rw [State.acked, hd]; decide)

end Sys2Proof.Machine

namespace Sys2Proof.Machine

/-! ## Frames handed over, control frame requests, timers (R90, R96, R100, R105, R124) -/

section
variable {s : State}

theorem timerDue_iff (t : Option Nat) : timerDue t = true ↔ t = some 0 := by
  simp [timerDue]

/-- A request joins the control frame queue in UP, once (R105). -/
theorem requestCtl_eq (r : CtlReq) (s : State) : requestCtl r s = { s with tx := { s.tx with
    queue := if s.link.state = .up ∧ r ∉ s.tx.queue then s.tx.queue ++ [r] else s.tx.queue } } := by
  simp [requestCtl, LinkController.isUp]

theorem handTransmit_eq (a : TxArrival) (s : State) : handTransmit a s = { s with tx := { s.tx with
    inbox := if s.link.state = .up then s.tx.inbox ++ [a] else s.tx.inbox } } := by
  simp [handTransmit, LinkController.isUp]

theorem handLanding_eq (a : LandArrival) (s : State) : handLanding a s = { s with land := { s.land with
    inbox := if s.link.state = .up then s.land.inbox ++ [a] else s.land.inbox } } := by
  simp [handLanding, LinkController.isUp]

/-! ### Rows of the Link Controller's timers -/

/-- Due in SYNC, the INIT timer sets the request and runs again (R96). -/
theorem initTimerExpires_eq (s : State) : initTimerExpires s =
    if s.link.initTimer = some 0 ∧ s.link.state = .sync then
      { s with link := { s.link with initRequest := true, initTimer := some 100 } }
    else s := by
  simp only [initTimerExpires, Bool.and_eq_true, timerDue_iff, decide_eq_true_iff]
  rfl

/-- Due in SYNC, the sync timer resets the link (R100). -/
theorem syncTimerExpires_eq (s : State) : syncTimerExpires s =
    if s.link.syncTimer = some 0 ∧ s.link.state = .sync then linkReset .syncTimeout s else s := by
  simp only [syncTimerExpires, Bool.and_eq_true, timerDue_iff, decide_eq_true_iff]

/-- Due, the ack delay stops and asks for an ACK (R124). -/
theorem ackDelayExpires_eq (s : State) : ackDelayExpires s =
    if s.land.ackDelay = some 0 then requestCtl .ack { s with land := { s.land with ackDelay := none } } else s := by
  simp only [ackDelayExpires, timerDue_iff]

end

/-- Settles O40: each timer due, and not due. -/
theorem linkTimers : Obligations.LinkTimers := by
  intro s on
  have hinit : exec .initTimerExpiry s = .next (initTimerExpires s) := live_on _ s on
  have hsync : exec .syncTimerExpiry s = .next (syncTimerExpires s) := live_on _ s on
  have hack : exec .ackDelayExpiry s = .next (ackDelayExpires s) := live_on _ s on
  rw [hinit, hsync, hack, initTimerExpires_eq, syncTimerExpires_eq, ackDelayExpires_eq]
  refine ⟨⟨fun h => ?_, fun h => ?_⟩, ⟨fun h => ?_, fun h => ?_⟩, fun h => ?_, fun h => ?_⟩
  · rw [if_pos h]
  · rw [if_neg h]
  · rw [if_pos h]
  · rw [if_neg h]
  · rw [if_neg h]
  · rw [if_pos h, requestCtl_eq]

/-! ## The link reset (R83, R84, R101, R102, R106) -/

section
variable (s : State)

/-- LINK_DOWN is posted or not: only the Event Unit and its request change (R101). -/
theorem postDown_eq (cause : Cause) : postDown cause s = { s with
    ev := (postDown cause s).ev
    reqs := { s.reqs with event := (postDown cause s).reqs.event } } := by
  unfold postDown
  split
  · exact post_eq ..
  · rfl

/-- With no frame on it the lane is silent in OFF and idle otherwise (R83). -/
theorem laneStream_reset (cause : Cause) : laneStream (s.link.takeReset cause) s.tx.abandon =
    if cause = .linkDisable then [none] else [some .idle] := by
  rw [laneStream_free _ rfl]
  by_cases h : cause = .linkDisable <;> simp [LinkController.takeReset, LinkController.enter, h]

/-- The link reset, with the frame on the lane abandoned, from the state that the counter and LINK_DOWN leave. -/
theorem linkReset_eq (cause : Cause) : linkReset cause s =
    callStatus { postDown cause (count Counters.linkReset s) with
      link := s.link.takeReset cause
      tx := s.tx.abandon
      laneOut := if cause = .linkDisable then [none] else [some .idle] } := by
  have hl := laneStream_reset s cause
  rw [linkReset, driveLane, postDown_eq]
  dsimp only [count_link, count_tx]
  rw [hl]

end

/-- Settles O35. -/
theorem linkResetSteps : Obligations.LinkResetSteps := by
  intro cause s down s0 s1
  exact linkReset_eq s cause

/-! ## INIT received (R90, R97 to R99) -/

section
variable {s : State} {ws : List LinkWord} {rx : LaneRx} {e : Epoch} {h : Option Epoch}

theorem exec_initReceived (hh : s.hears ws rx (.init e h)) :
    exec (.initReceived ws) s = .next (takeInit e h (setRx rx s)) := by
  refine (live_on _ s hh.1).trans ?_
  simp only [initArrives, hh.2]

theorem takeInit_sync (hs : s.link.state = .sync) : takeInit e h s =
    if h = some s.link.localEpoch then enterUp { s with link := { s.link with heard := some e } }
    else { s with link := { s.link with heard := some e } } := by
  simp only [takeInit, hs]

theorem takeInit_up (hs : s.link.state = .up) : takeInit e h s =
    if s.link.heard = some e then s else linkReset .peerRestart s := by
  simp only [takeInit, hs]

theorem takeInit_down (hs : s.link.state = .down) : takeInit e h s = s := by
  simp only [takeInit, hs]

end

/-- Settles O39: by the link state, and by what the INIT says it has heard or what had been heard. -/
theorem initReceived : Obligations.InitReceived := by
  intro s ws rx e h hh s1 s2
  rw [exec_initReceived hh]
  refine ⟨fun hs => ?_, fun hs => ?_, fun hs => ?_⟩
  · rw [takeInit_sync (s := setRx rx s) hs]
    exact ⟨fun hn => congrArg _ (if_neg hn), fun he => congrArg _ (if_pos he)⟩
  · rw [takeInit_up (s := setRx rx s) hs]
    exact ⟨fun he => congrArg _ (if_pos he), fun hn => congrArg _ (if_neg hn)⟩
  · rw [takeInit_down (s := setRx rx s) hs]
    rfl

end Sys2Proof.Machine

namespace Sys2Proof.Machine

/-! ## The frames that go out before DATA (R96, R104, R105, R124, R125, R128, R130) -/

section
variable {s : State}

/-! ### Whose turn it is -/

theorem initTurn_iff : initTurn s = true ↔
    s.tx.sending = none ∧ s.link.initRequest = true ∧ (s.link.state = .sync ∨ s.link.state = .up) := by
  simp [initTurn, and_assoc]

theorem upTurn_iff : upTurn s = true ↔ s.tx.sending = none ∧ s.link.initRequest = false ∧ s.link.state = .up := by
  simp [upTurn, LinkController.isUp, and_assoc]

/-- The oldest control frame request `q` goes next (R104). -/
def State.nextCtl (s : State) (q : CtlReq) : Prop :=
  (s.tx.sending = none ∧ s.link.initRequest = false ∧ s.link.state = .up) ∧ s.tx.queue.head? = some q

theorem ctlTurn?_eq_some (q : CtlReq) : ctlTurn? s = some q ↔ s.nextCtl q := by
  simp [ctlTurn?, State.nextCtl, ← upTurn_iff]

/-! ### Each frame -/

theorem sendInitFrame_turn (h : initTurn s = true) : sendInitFrame s =
    { s.sends (.init s.link.localEpoch s.link.heard) none with link := { s.link with initRequest := false } } := by
  rw [sendInitFrame, if_pos h, transmit_eq]
  rfl

theorem sendAckFrame_turn (h : s.nextCtl .ack) : sendAckFrame s =
    { (popCtl s).sends (.ack s.land.disposed s.land.refusals) none with
      land := { s.land with batch := 0, ackDelay := none } } := by
  rw [sendAckFrame, if_pos ((ctlTurn?_eq_some _).mpr h), transmit_eq]
  rfl

theorem sendNakFrame_turn (h : s.nextCtl .nak) : sendNakFrame s =
    count Counters.nakSent ((popCtl s).sends (.nak s.land.expected) none) := by
  rw [sendNakFrame, if_pos ((ctlTurn?_eq_some _).mpr h), transmit_eq]

theorem sendCreditFrame_turn {c : Chan} {n : BitVec 16} (h : s.nextCtl (.credit c))
    (hn : s.cred.recv[c].posted = .total n) : sendCreditFrame s =
      clearQueued c ((popCtl s).sends (.credit c (creditOpen c s) (creditGeneration c s) n) none) := by
  simp only [sendCreditFrame, (ctlTurn?_eq_some _).mpr h, hn, transmit_eq]

/-- A CREDIT is not formed while its posted total is no number (log 28). -/
theorem sendCreditFrame_no_total {c : Chan} (h : s.nextCtl (.credit c))
    (hn : ∀ n, s.cred.recv[c].posted ≠ .total n) : sendCreditFrame s = s := by
  simp only [sendCreditFrame, (ctlTurn?_eq_some _).mpr h]
  split
  · next n hp => exact absurd hp (hn n)
  · rfl
  · rfl

theorem sendCreditFrame_other (h : ∀ c, ¬ s.nextCtl (.credit c)) : sendCreditFrame s = s := by
  unfold sendCreditFrame
  split
  · next c hc => exact absurd ((ctlTurn?_eq_some _).mp hc) (h c)
  all_goals rfl

/-! ### What a CREDIT says of its channel -/

theorem creditOpen_iff (s : State) (c : Chan) :
    creditOpen c s = true ↔ ∃ cfg, s.wm.chans[c].state = .active cfg ∧ cfg.isInbound = true := by
  unfold creditOpen
  cases s.wm.chans[c].state <;> simp

theorem creditGeneration_off {c : Chan} (h : s.wm.chans[c].state = .off) :
    creditGeneration c s = s.wm.chans[c].generation := by
  simp only [creditGeneration, h]

theorem creditGeneration_loaded {c : Chan} (h : s.wm.chans[c].state ≠ .off) :
    creditGeneration c s = s.cred.recv[c].generation := by
  unfold creditGeneration
  split
  · next ho => exact absurd ho h
  all_goals rfl

end

/-- Settles O41: each row at its turn and out of it; the state and the generation of a CREDIT. -/
theorem controlSends : Obligations.ControlSends := by
  refine ⟨fun s on => ?_, fun s c => ⟨creditOpen_iff s c, creditGeneration_off, creditGeneration_loaded⟩⟩
  intro turn0 turn next popped
  have hinit : exec .sendInit s = .next (sendInitFrame s) := live_on _ s on
  have hack : exec .sendAck s = .next (sendAckFrame s) := live_on _ s on
  have hnak : exec .sendNak s = .next (sendNakFrame s) := live_on _ s on
  have hcredit : exec .sendCredit s = .next (sendCreditFrame s) := live_on _ s on
  refine ⟨⟨fun h => ?_, fun h => ?_⟩, fun h => ?_, fun h => ?_, fun h => ?_, fun h => ?_, fun h => ?_, fun c h =>
    ⟨fun n hn => ?_, fun hn => ?_⟩⟩
  · rw [hinit, sendInitFrame, if_neg (mt initTurn_iff.mp h)]
  · rw [hinit, sendInitFrame_turn (initTurn_iff.mpr h)]
  · rw [hack, sendAckFrame, if_neg (mt (ctlTurn?_eq_some _).mp h)]
  · rw [hack, sendAckFrame_turn h]
    rfl
  · rw [hnak, sendNakFrame, if_neg (mt (ctlTurn?_eq_some _).mp h)]
  · rw [hnak, sendNakFrame_turn h]
    rfl
  · rw [hcredit, sendCreditFrame_other h]
  · exact hcredit.trans (congrArg _ (sendCreditFrame_turn h hn))
  · rw [hcredit, sendCreditFrame_no_total h hn]

/-! ## The link status word and the link record (R83, R92, R93, R102) -/

theorem LinkState.code_le (x : LinkState) : x.code ≤ 3 := by cases x <;> decide

theorem Cause.code_le (x : Cause) : x.code ≤ 6 := by cases x <;> decide

theorem statusWord_toNat (l : LinkController) : (statusWord l).toNat =
    l.state.code + l.rx.lock.toNat * 2 ^ 2 + l.heard.isSome.toNat * 2 ^ 3 + l.lastCause.code * 2 ^ 4
      + l.localEpoch.toNat * 2 ^ 8 + (l.heard.getD 0#8).toNat * 2 ^ 16 + l.changes.toNat * 2 ^ 24 := by
  have h1 := l.state.code_le
  have h2 := l.rx.lock.toNat_le
  have h3 := l.heard.isSome.toNat_le
  have h4 := l.lastCause.code_le
  have h5 := l.localEpoch.isLt
  have h6 := (l.heard.getD 0#8).isLt
  have h7 := l.changes.isLt
  rw [statusWord, BitVec.toNat_ofNat, Nat.mod_eq_of_lt (by omega)]

section
variable {s : State} {r : DevReq}

/-! ### The status write -/

theorem statusBusy_iff (p : MemPort) :
    p.statusBusy = true ↔ ∃ r, p.granted = some (.device r) ∧ r.purpose = .linkStatus := by
  unfold MemPort.statusBusy
  rcases p.granted with _ | _ | _ <;> simp

/-- With a status write in progress one more is called for (R102). -/
theorem callStatus_busy (h : s.port.statusBusy = true) :
    callStatus s = { s with link := { s.link with statusAgain := true } } := by
  simp [callStatus, h]

/-- Otherwise one is requested, or presented again, with the current word (R102). -/
theorem callStatus_not_busy (h : s.port.statusBusy = false) :
    callStatus s = { s with reqs := { s.reqs with linkStatus := some (statusReq s) } } := by
  simp [callStatus, h]

@[simp] theorem postFaultIf_link (e : AccessEnd) (c : Chan) (o : Origin) (a : Nat) (s : State) :
    (postFaultIf e c o a s).link = s.link := by
  cases e <;> rfl

theorem exec_linkStatusWriteEnd (e : AccessEnd) (h : s.serves .linkStatus r) :
    exec (.linkStatusWriteEnd e) s = .next (statusEnd e r (endDevice r e s)) := by
  refine (deviceEnd_serves .linkStatus _ e s r h (decide_eq_true rfl)).trans ?_
  rw [ownerGoesOn, h.2.2]

theorem statusEnd_eq (e : AccessEnd) : statusEnd e r s =
    if s.link.statusAgain then { postFaultIf e 0 .record r.addr s with
      link := { s.link with statusAgain := false }
      reqs := { (postFaultIf e 0 .record r.addr s).reqs with linkStatus := some (statusReq s) } }
    else postFaultIf e 0 .record r.addr s := by
  have hreq : statusReq (postFaultIf e 0 .record r.addr s) = statusReq s := by simp [statusReq]
  simp only [statusEnd, postFaultIf_link, hreq]
  rfl

/-! ### The link record -/

theorem exec_linkRecordReadEnd (e : AccessEnd) (h : s.serves .linkRecord r) :
    exec (.linkRecordReadEnd e) s = .next (linkRecordEnd e r (endDevice r e s)) := by
  refine (deviceEnd_serves .linkRecord _ e s r h (decide_eq_true rfl)).trans ?_
  rw [ownerGoesOn, h.2.2]

/-- The five fields of the record (R93). -/
theorem linkParams_eq (w0 w1 : Word) : linkParams w0 w1 =
    ⟨w0.toNat % 16, w0.toNat / 2 ^ 8 % 256, w0.toNat / 2 ^ 16 % 256, w1.toNat % 65536, w1.toNat / 2 ^ 16⟩ := by
  have h : w1.toNat / 2 ^ 16 % 2 ^ 16 = w1.toNat / 2 ^ 16 := Nat.mod_eq_of_lt (by omega)
  simp only [linkParams, bits, h, Nat.pow_zero, Nat.div_one]
  rfl

/-- An accepted read of the record: its fields' check decides (R92, R93). -/
theorem linkRecordEnd_ok (hl : r.words.length = 8) : linkRecordEnd .ok r s =
    match (linkParams (memReadWord s.mem r.addr) (memReadWord s.mem (nextWord r.addr))).check with
    | some n => endCommand .badParameter (BitVec.ofNat 32 n) s
    | none => installLink (linkParams (memReadWord s.mem r.addr) (memReadWord s.mem (nextWord r.addr))) s := by
  rw [linkRecordEnd, hl]
  rfl

theorem installLink_eq (p : LinkParams) (s : State) : installLink p s = endCommand .done 0#32 (callStatus { s with
    link := { s.link with state := .down, changes := s.link.changes + 1, params := some p, rx := ⟨false, 0, none⟩ }
    laneOut := match s.tx.sending with
      | none => [some .idle]
      | some x => sendWords x.words }) := by
  rw [installLink, driveLane, laneStream_eq]
  rfl

end

/-- Settles O37: the status word, its calls and its write's end; the record's read faulted, refused by each check in
turn, and installed. -/
theorem linkAccessEnds : Obligations.LinkAccessEnds := by
  refine ⟨⟨statusWord_toNat, ?_⟩, fun s r hs hw hl => ⟨fun kept data => exec_linkRecordReadEnd _ hs, ?_⟩⟩
  · intro s write
    refine ⟨fun h => callStatus_busy ((statusBusy_iff _).mpr h),
      fun h => callStatus_not_busy (Bool.not_eq_true _ ▸ fun hb => ?_), fun r e hs => ?_⟩
    · obtain ⟨r, hr, hp⟩ := (statusBusy_iff _).mp hb
      exact h r hr hp
    · rw [exec_linkStatusWriteEnd e hs, statusEnd_eq]
      exact ⟨fun h => congrArg _ (if_neg (ne_true_of_eq_false h)), fun h => congrArg _ (if_pos h)⟩
  · intro s1 w0 w1 p bad1 bad2 bad3 bad4 bad5 answer
    have hmem : s1.mem = s.mem := by simp [s1, endDevice, memAfter, hw]
    have hp : linkParams (memReadWord s1.mem r.addr) (memReadWord s1.mem (nextWord r.addr)) = p := by
      rw [hmem, linkParams_eq]
      rfl
    have row : exec (.linkRecordReadEnd .ok) s = .next (match p.check with
        | some n => endCommand .badParameter (BitVec.ofNat 32 n) s1
        | none => installLink p s1) := by
      rw [exec_linkRecordReadEnd _ hs, linkRecordEnd_ok hl, hp]
    have refused {n : Nat} (h : p.check = some n) : answer n := row.trans (by rw [h])
    refine ⟨fun h1 => refused (if_pos h1), fun h1 h2 => refused ?_, fun h1 h2 h3 => refused ?_,
      fun h1 h2 h3 h4 => refused ?_, fun h1 h2 h3 h4 h5 => refused ?_, fun h1 h2 h3 h4 h5 => ?_⟩
    · rw [LinkParams.check, if_neg h1, if_pos h2]
    · rw [LinkParams.check, if_neg h1, if_neg h2, if_pos h3]
    · rw [LinkParams.check, if_neg h1, if_neg h2, if_neg h3, if_pos h4]
    · rw [LinkParams.check, if_neg h1, if_neg h2, if_neg h3, if_neg h4, if_pos h5]
    · have hc : p.check = none := by
        rw [LinkParams.check, if_neg h1, if_neg h2, if_neg h3, if_neg h4, if_neg h5]
      rw [row, hc]
      dsimp only
      rw [installLink_eq]
      rfl

end Sys2Proof.Machine

namespace Sys2Proof.Machine

/-! ## NAK and the ack timer (R90, R112, R113, R115, R116, R176) -/

section
variable {s : State}

theorem entry?_seq {t : TransmitEngine} {q : Seq} {x : ReplayEntry} (h : t.entry? q = some x) : x.seq = q :=
  of_decide_eq_true (List.find?_some (p := fun x : ReplayEntry => decide (x.seq = q)) h)

/-! ### The rows -/

theorem nakArrives_hears {ws : List LinkWord} {rx : LaneRx} {q : Seq} (h : s.hears ws rx (.nak q)) :
    nakArrives ws s = handTransmit (.nak q) (setRx rx s) := by
  simp only [nakArrives, h.2]

theorem nakTaken_none (h : ∀ q more, s.tx.inbox ≠ .nak q :: more) : nakTaken s = s := by
  unfold nakTaken
  split
  · next q more hi => exact absurd hi (h q more)
  all_goals rfl

theorem nakTaken_some {q : Seq} {more : List TxArrival} (h : s.tx.inbox = .nak q :: more) :
    nakTaken s = takeNak q (popTransmit s) := by
  simp only [nakTaken, h]

/-! ### A NAK taken -/

/-- One that names no entry is counted twice: as received and as stale (R112, R176). -/
theorem takeNak_stale {q : Seq} (h : s.tx.entry? q = none) :
    takeNak q s = count Counters.stale (count Counters.nakReceived s) := by
  have hc : (count Counters.nakReceived s).tx.entry? q = none := h
  simp only [takeNak, hc]

theorem takeNak_names {q : Seq} {x : ReplayEntry} (h : s.tx.entry? q = some x) :
    takeNak q s = coverNak x (count Counters.nakReceived s) := by
  have hc : (count Counters.nakReceived s).tx.entry? q = some x := h
  simp only [takeNak, hc]

theorem coverNak_starts {x : ReplayEntry} (h : s.tx.pass = none) :
    coverNak x s = startPass x (count Counters.replayPass s) := by
  simp only [coverNak, h]

/-- A pass moves back to the entry, unless it is halted or the entry is not before its position (R112, R116). -/
theorem coverNak_pass {x : ReplayEntry} {p : Pass} (h : s.tx.pass = some p) : coverNak x s =
    if p.halted = false ∧ seqBefore x.seq p.pos = true then movePass x (count Counters.replayPass s) else s := by
  simp only [coverNak, h]

/-! ### The ack timer -/

theorem ackTimerTurn_eq (s : State) : ackTimerTurn s = if s.tx.ackTimer = some 0 then ackTimerExpires s else s := by
  simp only [ackTimerTurn, timerDue_iff]

theorem expiryPass_empty (h : s.tx.replay = []) : expiryPass s = s := by
  simp only [expiryPass, h]

theorem expiryPass_starts {x : ReplayEntry} {rest : List ReplayEntry} (h : s.tx.replay = x :: rest)
    (hp : s.tx.pass = none) : expiryPass s = startPass x (count Counters.replayPass s) := by
  simp only [expiryPass, h, hp]

theorem expiryPass_pass {x : ReplayEntry} {rest : List ReplayEntry} {p : Pass} (h : s.tx.replay = x :: rest)
    (hp : s.tx.pass = some p) :
    expiryPass s = if p.halted = true then s else movePass x (count Counters.replayPass s) := by
  simp only [expiryPass, h, hp]

end

/-- Settles O46: the NAK handed over and taken, by the entry it names and the pass; the timer, by the replay list and
the pass. -/
theorem nakAndAckTimer : Obligations.NakAndAckTimer := by
  intro s passed starts moves
  refine ⟨fun ws rx q h => ?_, fun on h => ?_, fun q more on h => ?_, fun on => ⟨fun h => ?_, fun h => ?_⟩⟩
  · refine (live_on _ s h.1).trans ?_
    rw [nakArrives_hears h, handTransmit_eq]
    rfl
  · exact (live_on _ s on).trans (congrArg _ (nakTaken_none h))
  · intro s2
    have row : exec (.nakReceived .taken) s = .next (takeNak q (popTransmit s)) :=
      (live_on _ s on).trans (congrArg _ (nakTaken_some h))
    have hpop : count Counters.nakReceived (popTransmit s) = s2 := by
      simp only [s2, popTransmit, h]
      rfl
    rw [row]
    refine ⟨fun he => ?_, fun x he => ?_⟩
    · rw [takeNak_stale (s := popTransmit s) he, hpop]
      rfl
    · rw [takeNak_names (s := popTransmit s) he, hpop]
      refine ⟨fun hp => ?_, fun p hp => ?_⟩
      · rw [coverNak_starts (s := s2) hp]
        rfl
      · rw [coverNak_pass (s := s2) hp, entry?_seq he]
        refine ⟨fun hh hb => congrArg _ (if_pos ⟨hh, hb⟩), fun hn => congrArg _ (if_neg fun hb => ?_)⟩
        rcases hn with hn | hn
        · exact absurd hb.1 (ne_false_of_eq_true hn)
        · exact absurd hb.2 (ne_true_of_eq_false hn)
  · exact (live_on _ s on).trans (congrArg _ ((ackTimerTurn_eq s).trans (if_neg h)))
  · intro s1
    have row : exec .ackTimerExpiry s = .next (expiryPass s1) :=
      (live_on _ s on).trans (congrArg _ ((ackTimerTurn_eq s).trans (if_pos h)))
    rw [row]
    refine ⟨fun hr => congrArg _ (expiryPass_empty (s := s1) hr), fun x rest hr => ⟨fun hp => ?_, fun p hp => ?_⟩⟩
    · rw [expiryPass_starts (s := s1) hr hp]
      rfl
    · rw [expiryPass_pass (s := s1) hr hp]
      exact ⟨fun hh => congrArg _ (if_neg (ne_true_of_eq_false hh)), fun hh => congrArg _ (if_pos hh)⟩

/-! ## DATA received (R90, R119 to R122, R124, R145 to R147) -/

section
variable {s : State}

/-! ### NAK requests and the rows -/

theorem askNak_asked (h : s.land.nakFlag = true) : askNak s = s := if_pos h

theorem askNak_asks (h : s.land.nakFlag = false) :
    askNak s = requestCtl .nak { s with land := { s.land with nakFlag := true } } :=
  if_neg (ne_true_of_eq_false h)

theorem dataArrives_hears {ws : List LinkWord} {rx : LaneRx} {c : Chan} {q : Seq} {user : Word} {payload : List Byte}
    (h : s.hears ws rx (.data c q user payload)) :
    dataArrives ws s = handLanding (.data c q user payload) (setRx rx s) := by
  simp only [dataArrives, h.2]

theorem exec_dataTaken (on : s.on) {a : LandArrival} {more : List LandArrival} (h : s.land.inbox = a :: more) :
    exec (.dataReceived .taken) s = .next (takeArrival a { s with land := { s.land with inbox := more } }) := by
  refine (live_on _ s on).trans ?_
  simp only [dataTaken, h, popLanding]
  rfl

/-! ### The place of a frame in the sequence -/

section
variable {c : Chan} {q : Seq} {user : Word} {payload : List Byte}

theorem takeData_expected (h : q = s.land.expected) : takeData c q user payload s =
    if s.land.queue.length < 4 then accept c q user payload s else askNak s := if_pos h

theorem takeData_other (h : q ≠ s.land.expected) : takeData c q user payload s =
    if seqBefore s.land.expected q = true then askNak s
    else if seqIn32Before q s.land.expected = true ∧ s.land.disposed ≠ none then requestCtl .ack s
    else count Counters.stale s := by
  rw [takeData, if_neg h]
  simp only [Option.isSome_iff_ne_none]

end

/-! ### The verdict (R145) -/

/-- No ACTIVE INBOUND channel has the number. -/
def State.closedTo (s : State) (c : Chan) : Prop := ∀ cfg, s.wm.chans[c].state = .active cfg → cfg.isInbound = false

/-- The length exceeds the capacity of the ACTIVE INBOUND channel. -/
def State.tooSmallFor (s : State) (c : Chan) (len : Nat) : Prop :=
  ∃ cfg, s.wm.chans[c].state = .active cfg ∧ cfg.isInbound = true ∧ cfg.capacity < len

/-- The slot at the land cursor is POSTED. -/
def State.hasPosted (s : State) (c : Chan) : Prop :=
  ∃ x, s.land.rings[c].slots[s.land.rings[c].landCursor]? = some x ∧ x.state = .posted

section
variable {c : Chan} {len : Nat}

theorem refusalOf?_closed (h : s.closedTo c) : refusalOf? c len s = some .closed := by
  unfold refusalOf?
  split
  · next cfg hc => rw [if_neg (ne_true_of_eq_false (h cfg hc))]
  all_goals rfl

theorem refusalOf?_tooLong (h : s.tooSmallFor c len) : refusalOf? c len s = some .tooLong := by
  obtain ⟨cfg, hc, hi, hl⟩ := h
  simp only [refusalOf?, hc, if_pos hi, if_pos hl]

/-- A frame that is neither CLOSED nor TOO_LONG is for an ACTIVE INBOUND channel that it fits. -/
theorem fits_of_not_refused (hc : ¬ s.closedTo c) (hl : ¬ s.tooSmallFor c len) :
    ∃ cfg, s.wm.chans[c].state = .active cfg ∧ cfg.isInbound = true ∧ ¬ cfg.capacity < len := by
  simp only [State.closedTo, not_forall, Bool.not_eq_false] at hc
  obtain ⟨cfg, ha, hi⟩ := hc
  exact ⟨cfg, ha, hi, fun hf => hl ⟨cfg, ha, hi, hf⟩⟩

theorem refusalOf?_noSlot (hc : ¬ s.closedTo c) (hl : ¬ s.tooSmallFor c len) (hp : ¬ s.hasPosted c) :
    refusalOf? c len s = some .noSlot := by
  obtain ⟨cfg, ha, hi, hf⟩ := fits_of_not_refused hc hl
  simp only [refusalOf?, ha, if_pos hi, if_neg hf]
  split
  · next x hx => rw [if_neg fun h => hp ⟨x, hx, h⟩]
  · rfl

theorem refusalOf?_none (hc : ¬ s.closedTo c) (hl : ¬ s.tooSmallFor c len) (hp : s.hasPosted c) :
    refusalOf? c len s = none := by
  obtain ⟨cfg, ha, hi, hf⟩ := fits_of_not_refused hc hl
  obtain ⟨x, hx, h⟩ := hp
  have hs : s.land.slot? c s.land.rings[c].landCursor = some x := hx
  simp only [refusalOf?, ha, if_pos hi, if_neg hf, hs, if_pos h]

end

/-! ### Acceptance (R120, R146) -/

/-- The expected sequence rises and the NAK flag clears (R120). -/
def State.accepting (s : State) : State :=
  { s with land := { s.land with expected := s.land.expected + 1, nakFlag := false } }

section
variable {c : Chan} {q : Seq} {user : Word} {payload : List Byte}

theorem accept_refused {r : Reason} (h : refusalOf? c payload.length s.accepting = some r) :
    accept c q user payload s = enqueue ⟨q, s.link.localEpoch, c, payload.length, .refusal r⟩
      (if r = .noSlot then count Counters.creditViolation s.accepting else s.accepting) := by
  have h' : refusalOf? c payload.length
      { s with land := { s.land with expected := s.land.expected + 1, nakFlag := false } } = some r := h
  simp only [accept, h']
  split <;> rfl

theorem accept_lands (h : refusalOf? c payload.length s.accepting = none) :
    accept c q user payload s = enqueue ⟨q, s.link.localEpoch, c, payload.length,
        .landing ⟨s.land.rings[c].landCursor, user, payload, .waiting, false, false, false⟩⟩
      { s.accepting with land := s.accepting.land.onRing c InRing.assign } := by
  have h' : refusalOf? c payload.length
      { s with land := { s.land with expected := s.land.expected + 1, nakFlag := false } } = none := h
  simp only [accept, h']
  rfl

end

theorem assign_eq (r : InRing) : r.assign = ⟨r.slots.modify r.landCursor (fun x => { x with state := .landing }),
    r.releaseCursor, (r.landCursor + 1) % r.slots.length⟩ := by
  simp [InRing.assign, InRing.setState, InRing.onSlot, nextSlot]

/-! ### The landing queue (R122, R146, R147) -/

theorem enqueue_behind {e : LandEntry} (h : s.land.queue ≠ []) :
    enqueue e s = { s with land := { s.land with queue := s.land.queue ++ [e] } } := by
  unfold enqueue
  split
  · next hq => exact absurd hq h
  · rfl

theorem enqueue_alone {e : LandEntry} (h : s.land.queue = []) : enqueue e s = runQueue [e] s := by
  simp only [enqueue, h]

end

/-- Settles O47: the frame handed over; a damage report; a frame by its place in the sequence and by its verdict; the
landing queue. -/
theorem dataReceived : Obligations.DataReceived := by
  refine ⟨fun s ws rx c q user payload h => ?_, fun s on => ⟨fun h => ?_, fun more h => exec_dataTaken on h⟩,
    fun s c q user payload more on h => ?_, fun s e => ⟨enqueue_behind, fun h => ⟨fun r hv => ?_,
      fun l x rest hv hp hb => ?_⟩⟩⟩
  · intro handed
    refine (live_on _ s h.1).trans ?_
    rw [dataArrives_hears h, handLanding_eq]
    rfl
  · refine (live_on _ s on).trans ?_
    simp only [dataTaken, h]
  · intro s1 e ring
    have row : exec (.dataReceived .taken) s = .next (takeData c q user payload s1) := exec_dataTaken on h
    rw [row]
    refine ⟨fun hq => ?_, fun hq hl => ?_, fun hq hl => ?_⟩
    · rw [takeData_other (s := s1) hq]
      refine ⟨fun hb => congrArg _ (if_pos hb), fun hb h32 hd => ?_, fun hb hn => ?_⟩
      · rw [if_neg (ne_true_of_eq_false hb), if_pos ⟨h32, hd⟩, requestCtl_eq]
      · refine congrArg _ ((if_neg (ne_true_of_eq_false hb)).trans (if_neg fun ⟨h32, hd⟩ => ?_))
        rcases hn with hn | hn
        · exact absurd h32 (ne_true_of_eq_false hn)
        · exact hd hn
    · rw [takeData_expected (s := s1) hq, if_neg (Nat.not_lt.mpr hl)]
    · rw [takeData_expected (s := s1) hq, if_pos hl]
      intro s2 entry closed tooLong posted violated assigned
      refine ⟨fun hc => ?_, fun ht => ?_, fun hc ht hp => ?_, fun hc ht hp => ?_⟩
      · exact congrArg _ (accept_refused (s := s1) (refusalOf?_closed (s := s1.accepting) hc))
      · exact congrArg _ (accept_refused (s := s1) (refusalOf?_tooLong (s := s1.accepting) ht))
      · exact congrArg _ (accept_refused (s := s1) (refusalOf?_noSlot (s := s1.accepting) hc ht hp))
      · rw [accept_lands (s := s1) (refusalOf?_none (s := s1.accepting) hc ht hp), LandingEngine.onRing, assign_eq]
        rfl
  · rw [enqueue_alone h, runQueue_refusal hv]
    rfl
  · rw [enqueue_alone h, runQueue_starts hv hp hb]
    rfl

end Sys2Proof.Machine

namespace Sys2Proof.Machine

/-! ## ACK (R90, R109, R110, R111, R115) -/

/-! ### Marks and removal (R110) -/

theorem markedBy_append (rs : List RefusalEntry) (r : RefusalEntry) (x : ReplayEntry) :
    x.markedBy (rs ++ [r]) =
      if x.seq = r.seq then { x with mark := some r.reason } else x.markedBy rs := by
  unfold ReplayEntry.markedBy
  rw [List.filter_append]
  by_cases h : x.seq = r.seq
  · simp [h]
  · simp [h, Ne.symm h]

/-- The refusal entries taken one after another mark each entry by the last one for its sequence. -/
theorem markAll_eq (rs : List RefusalEntry) (t : List ReplayEntry) : markAll rs t = t.map (ReplayEntry.markedBy rs) := by
  induction rs using List.reverseRecOn with
  | nil => exact (List.map_id t).symm
  | append_singleton rs r ih =>
    have hlast : markAll (rs ++ [r]) t = markEntry r (markAll rs t) := List.foldl_append ..
    rw [hlast, ih, markEntry, List.map_map]
    exact List.map_congr_left fun x _ => (markedBy_append rs r x).symm

theorem splitThrough_eq {q : Seq} {front rest : List ReplayEntry} {x : ReplayEntry} (hx : x.seq = q)
    (hf : ∀ y ∈ front, y.seq ≠ q) : splitThrough q (front ++ x :: rest) = (front ++ [x], rest) := by
  induction front with
  | nil => exact if_pos hx
  | cons y front ih =>
    have hy : y.seq ≠ q := hf y (List.mem_cons_self ..)
    rw [List.cons_append, splitThrough, if_neg hy, ih fun z hz => hf z (List.mem_cons_of_mem _ hz)]
    rfl

theorem entry?_isSome_iff {t : TransmitEngine} {q : Seq} : (t.entry? q).isSome = true ↔ ∃ x ∈ t.replay, x.seq = q := by
  simp [TransmitEngine.entry?, List.find?_isSome]

section
variable {s t : State}

/-! ### Completion of the removed entries (R75, R111) -/

/-- An entry's slot completed with status `st` and the sent-frame fields, the epoch given (R75, R76). -/
def completeAs (st : ReplayEntry → Status) (e : Epoch) (u : State) (x : ReplayEntry) : State :=
  completeSlot x.chan x.slot (st x) (some ⟨x.seq, e, x.sends⟩)
    (if u.tx.refetch = some x.seq then cancelRefetch u else u)

theorem completeEntry_eq_completeAs (st : ReplayEntry → Status) (x : ReplayEntry) :
    completeEntry st s x = completeAs st s.link.localEpoch s x := by
  have hc : Completes s (if s.tx.refetch = some x.seq then cancelRefetch s else s) := cancelIf_completes _ s
  rw [completeEntry, completeAs, hc.link]

theorem foldl_completeEntry_eq_completeAs (st : ReplayEntry → Status) (l : List ReplayEntry) :
    l.foldl (completeEntry st) s = l.foldl (completeAs st s.link.localEpoch) s := by
  induction l generalizing s with
  | nil => rw [List.foldl_nil, List.foldl_nil]
  | cons x l ih =>
    rw [List.foldl_cons, List.foldl_cons, ih, (completeEntry_completes _ s x).link, completeEntry_eq_completeAs]

theorem foldl_completeEntry_leaves (st : ReplayEntry → Status) (l : List ReplayEntry) :
    Completes s (l.foldl (completeEntry st) s) := by
  induction l generalizing s with
  | nil => exact .refl s
  | cons x l ih => exact (completeEntry_completes st s x).trans ih

/-- The entries `done` have been removed and completed by their marks, and `left` remain (R110, R111). -/
def State.entriesDone (s : State) (done left : List ReplayEntry) : State :=
  done.foldl (completeEntry (fun x => statusOfMark x.mark)) { s with tx := { s.tx with replay := left } }

theorem entriesDone_completes (done left : List ReplayEntry) :
    Completes { s with tx := { s.tx with replay := left } } (s.entriesDone done left) :=
  foldl_completeEntry_leaves ..

/-! ### The pass position at rest (R114, R116) -/

@[simp] theorem linkReset_tx (cause : Cause) : (linkReset cause s).tx = s.tx.abandon := by
  rw [linkReset_eq, callStatus_tx]

/-- The pass position is at rest on `x`: the pass is halted exactly if the retry limit is reached there, and the
replay list stays (R114, R116). -/
theorem restOn_leaves (x : ReplayEntry) : (restOn x s).tx.replay = s.tx.replay ∧ (restOn x s).tx.nextSeq = s.tx.nextSeq
    ∧ (restOn x s).tx.pass =
      if s.link.retries < x.sends then s.tx.pass.map (fun p => { p with halted := true }) else s.tx.pass := by
  rw [restOn]
  by_cases h : s.link.retries + 1 ≤ x.sends
  · rw [if_pos h, if_pos (Nat.lt_of_succ_le h), retryLimitReached, reportReset_eq]
    split
    · rw [linkReset_tx]
      exact ⟨rfl, rfl, rfl⟩
    · exact ⟨rfl, rfl, rfl⟩
  · rw [if_neg h, if_neg (mt Nat.succ_le_of_lt h)]
    split
    · exact ⟨rfl, rfl, rfl⟩
    · exact ⟨rfl, rfl, rfl⟩

/-- The pass is at the entry with sequence `q`, not halted. -/
def State.passAt (s : State) (q : Seq) : State := { s with tx := { s.tx with pass := some ⟨q, false⟩ } }

/-- A move keeps the refetch outstanding only if it is for the entry moved to (R115). -/
theorem movePass_eq (x : ReplayEntry) : movePass x s =
    restOn x (if s.tx.refetch = some x.seq then s.passAt x.seq else cancelRefetch (s.passAt x.seq)) := rfl

theorem keepIf_completes (p : Prop) [Decidable p] (s : State) : Completes s (if p then s else cancelRefetch s) := by
  split
  · exact .refl s
  · exact cancelRefetch_completes s

theorem Completes.replay (h : Completes s t) : t.tx.replay = s.tx.replay := by rw [h]
theorem Completes.nextSeq (h : Completes s t) : t.tx.nextSeq = s.tx.nextSeq := by rw [h]
theorem Completes.pass (h : Completes s t) : t.tx.pass = s.tx.pass := by rw [h]

/-- The position moved to `x`: the pass is there, halted exactly if the retry limit is reached, and the replay list
stays (R115, R116). -/
theorem movePass_leaves (x : ReplayEntry) : (movePass x s).tx.replay = s.tx.replay
    ∧ (movePass x s).tx.nextSeq = s.tx.nextSeq
    ∧ (movePass x s).tx.pass = some ⟨x.seq, decide (s.link.retries < x.sends)⟩ := by
  have hc := keepIf_completes (s.tx.refetch = some x.seq) (s.passAt x.seq)
  rw [movePass_eq]
  generalize (if s.tx.refetch = some x.seq then s.passAt x.seq else cancelRefetch (s.passAt x.seq)) = u at hc ⊢
  obtain ⟨hr, hn, hp⟩ := restOn_leaves x (s := u)
  have hlink : u.link = s.link := hc.link
  have hpass : u.tx.pass = some ⟨x.seq, false⟩ := hc.pass
  rw [hpass, hlink] at hp
  refine ⟨hr.trans hc.replay, hn.trans hc.nextSeq,
    hp.trans ?_⟩
  by_cases h : s.link.retries < x.sends
  · rw [if_pos h, decide_eq_true h]
    rfl
  · rw [if_neg h, decide_eq_false h]

/-! ### The pass after a removal (R111, R115) -/

theorem adjustPass_none (h : s.tx.pass = none) : adjustPass s = s := by
  simp only [adjustPass, h]

/-! The entries that remain are those of `rest`, marked by the refusal entries `rs`. -/

section
variable {p : Pass} {rs : List RefusalEntry} {rest : List ReplayEntry} (h : s.tx.pass = some p)
  (hr : s.tx.replay = rest.map (ReplayEntry.markedBy rs))
include hr

theorem entry?_isSome_marked (q : Seq) : (s.tx.entry? q).isSome = true ↔ ∃ y ∈ rest, y.seq = q := by
  simp only [entry?_isSome_iff, hr, List.mem_map, exists_exists_and_eq_and]
  rfl

include h

theorem adjustPass_ends (he : rest = []) : adjustPass s = { s with tx := { s.tx with pass := none } } := by
  simp only [adjustPass, h, hr, he, List.map_nil]

theorem adjustPass_stays (hp : ∃ y ∈ rest, y.seq = p.pos) : adjustPass s = s := by
  have he := (entry?_isSome_marked hr p.pos).mpr hp
  obtain ⟨y, hy, -⟩ := hp
  obtain ⟨z, l, hl⟩ := List.exists_cons_of_ne_nil (List.ne_nil_of_mem hy)
  simp only [adjustPass, h, hr, hl, List.map_cons, if_pos he]

theorem adjustPass_moves {y : ReplayEntry} {younger : List ReplayEntry} (hy : rest = y :: younger)
    (hp : ∀ z ∈ rest, z.seq ≠ p.pos) : adjustPass s =
      if p.halted = true then { s with tx := { s.tx with pass := some ⟨y.seq, true⟩ } }
      else movePass (y.markedBy rs) s := by
  have he : ¬ (s.tx.entry? p.pos).isSome = true := fun he => by
    obtain ⟨z, hz, hq⟩ := (entry?_isSome_marked hr p.pos).mp he
    exact hp z hz hq
  simp only [adjustPass, h, hr, hy, List.map_cons, if_neg he]
  rfl

end

/-- However the pass is adjusted, the replay list stays (R108). -/
theorem adjustPass_leaves (s : State) :
    (adjustPass s).tx.replay = s.tx.replay ∧ (adjustPass s).tx.nextSeq = s.tx.nextSeq := by
  unfold adjustPass
  split
  · exact ⟨rfl, rfl⟩
  · split
    · next hr => exact ⟨rfl, rfl⟩
    · next y younger hr =>
      split
      · exact ⟨rfl, rfl⟩
      · split
        · exact ⟨rfl, rfl⟩
        · obtain ⟨hr, hn, -⟩ := movePass_leaves y (s := s)
          exact ⟨hr, hn⟩

/-! ### An ACK taken -/

theorem ackArrives_hears {ws : List LinkWord} {rx : LaneRx} {d : Option Seq} {rs : List RefusalEntry}
    (h : s.hears ws rx (.ack d rs)) : ackArrives ws s = handTransmit (.ack d rs) (setRx rx s) := by
  simp only [ackArrives, h.2]

theorem ackTaken_none (h : ∀ d rs more, s.tx.inbox ≠ .ack d rs :: more) : ackTaken s = s := by
  unfold ackTaken
  split
  · next d rs more hi => exact absurd hi (h d rs more)
  all_goals rfl

theorem exec_ackTaken (on : s.on) {d : Option Seq} {rs : List RefusalEntry} {more : List TxArrival}
    (h : s.tx.inbox = .ack d rs :: more) :
    exec (.ackReceived .taken) s = .next (takeAck d rs { s with tx := { s.tx with inbox := more } }) := by
  refine (live_on _ s on).trans ?_
  simp only [ackTaken, h, popTransmit]
  rfl

theorem takeAck_stale {d : Option Seq} {rs : List RefusalEntry}
    (h : ∀ q, d = some q → ∀ x ∈ s.tx.replay, x.seq ≠ q) : takeAck d rs s = count Counters.stale s := by
  cases d with
  | none => rfl
  | some q =>
    refine if_neg fun he => ?_
    obtain ⟨x, hx, hq⟩ := entry?_isSome_iff.mp he
    exact h q rfl x hx hq

/-- An ACK for the entry `x`: it and those before it are marked, removed and completed, the rest stay (R110, R111). -/
theorem takeAck_covers {q : Seq} {front rest : List ReplayEntry} {x : ReplayEntry} (rs : List RefusalEntry)
    (hr : s.tx.replay = front ++ x :: rest) (hx : x.seq = q) (hf : ∀ y ∈ front, y.seq ≠ q) :
    takeAck (some q) rs s = adjustPass (timerAfterRemoval
      (s.entriesDone ((front ++ [x]).map (ReplayEntry.markedBy rs)) (rest.map (ReplayEntry.markedBy rs)))) := by
  have he : (s.tx.entry? q).isSome = true := entry?_isSome_iff.mpr ⟨x, by simp [hr], hx⟩
  have hs : splitThrough q (markAll rs s.tx.replay) =
      ((front ++ [x]).map (ReplayEntry.markedBy rs), rest.map (ReplayEntry.markedBy rs)) := by
    rw [markAll_eq, hr, List.map_append, List.map_cons, List.map_append]
    refine splitThrough_eq (x := x.markedBy rs) hx fun y hy => ?_
    obtain ⟨z, hz, rfl⟩ := List.mem_map.mp hy
    exact hf z hz
  refine (if_pos he).trans ?_
  rw [coverAck, hs]
  rfl

end

/-- Settles O45: the ACK handed over and taken; stale, or covering, by what becomes of the pass. -/
theorem ackReceived : Obligations.AckReceived := by
  refine ⟨fun s ws rx d rs h => ?_, fun s on h => (live_on _ s on).trans (congrArg _ (ackTaken_none h)),
    fun s d rs more on h => ?_, rfl, rfl, rfl, rfl, rfl⟩
  · refine (live_on _ s h.1).trans ?_
    rw [ackArrives_hears h, handTransmit_eq]
    rfl
  intro s1
  rw [exec_ackTaken on h]
  refine ⟨fun hn => congrArg _ (takeAck_stale (s := s1) hn), ?_⟩
  rintro q front x rest rfl hr hx hf
  intro left complete t0 t
  have ht0 : s1.entriesDone ((front ++ [x]).map (ReplayEntry.markedBy rs)) left = t0 :=
    foldl_completeEntry_eq_completeAs ..
  have hdone := entriesDone_completes (s := s1) ((front ++ [x]).map (ReplayEntry.markedBy rs)) left
  rw [ht0] at hdone
  have hlink : t0.link = s.link := hdone.link
  have hpass : t0.tx.pass = s.tx.pass := hdone.pass
  have hreplay : t0.tx.replay = left := hdone.replay
  have hnext : t0.tx.nextSeq = s.tx.nextSeq := hdone.nextSeq
  have htimer : timerAfterRemoval t0 = t s.tx.pass := by
    rw [← hpass]
    simp only [t, timerAfterRemoval, hreplay, hlink, left, List.isEmpty_iff, List.map_eq_nil_iff]
  have hout : takeAck (some q) rs s1 = adjustPass (t s.tx.pass) := by
    rw [takeAck_covers (s := s1) rs hr hx hf, ht0, htimer]
  rw [hout]
  have ends {p : Pass} (hp : s.tx.pass = some p) (he : rest = []) : adjustPass (t s.tx.pass) = t none :=
    adjustPass_ends (s := t s.tx.pass) hp hreplay he
  have stays {p : Pass} (hp : s.tx.pass = some p) (he : ∃ y ∈ rest, y.seq = p.pos) :
      adjustPass (t s.tx.pass) = t s.tx.pass :=
    adjustPass_stays (s := t s.tx.pass) hp hreplay he
  have moves {p : Pass} {y : ReplayEntry} {younger : List ReplayEntry} (hp : s.tx.pass = some p)
      (hy : rest = y :: younger) (hz : ∀ z ∈ rest, z.seq ≠ p.pos) : adjustPass (t s.tx.pass) =
        if p.halted = true then t (some ⟨y.seq, true⟩) else movePass (y.markedBy rs) (t s.tx.pass) :=
    adjustPass_moves (s := t s.tx.pass) hp hreplay hy hz
  refine ⟨fun hp => ?_, fun p hp => ⟨fun he => ?_, fun he => ?_, fun y younger hy hz => ⟨fun hh => ?_, fun hh => ?_⟩⟩,
    adjustPass (t s.tx.pass), rfl, ?_, ?_, fun p hp he => ?_, fun p hp he => ?_, fun p y younger hp hy hz => ?_⟩
  · rw [adjustPass_none (s := t s.tx.pass) hp, hp]
  · rw [ends hp he]
  · rw [stays hp he, hp]
  · rw [moves hp hy hz, if_pos hh]
  · rw [moves hp hy hz, if_neg (ne_true_of_eq_false hh)]
    rfl
  · exact (adjustPass_leaves _).1.trans hreplay
  · exact (adjustPass_leaves _).2.trans hnext
  · rw [ends hp he]
  · rw [stays hp he]
    exact hp
  · rw [moves hp hy hz]
    by_cases hh : p.halted = true
    · rw [if_pos hh]
      exact ⟨true, rfl, by simp [hh]⟩
    · rw [if_neg hh]
      refine ⟨_, (movePass_leaves (y.markedBy rs)).2.2, ?_⟩
      have hret : (t s.tx.pass).link.retries = s.link.retries := congrArg LinkController.retries hlink
      rw [hret, decide_eq_true_iff]
      simp [hh, ReplayEntry.markedBy]

end Sys2Proof.Machine

namespace Sys2Proof.Machine

/-! ## The detector and the receiver (R84, R86) -/

/-! ### One link word -/

section
variable {n : Nat} {f : Option (List Word)} {w : LinkWord}

/-- Out of lock a violation starts the run of good words again (R84). -/
theorem laneWord_search_violation : laneWord ⟨false, n, f⟩ .violation = (⟨false, 0, f⟩, none) := rfl

theorem laneWord_search_good (h : w ≠ .violation) : laneWord ⟨false, n, f⟩ w =
    if n = 7 then (⟨true, 0, none⟩, some .lockFound) else (⟨false, n + 1, f⟩, none) := by
  cases w with
  | violation => exact absurd rfl h
  | _ => simp only [laneWord, searchWord, Bool.false_eq_true, if_false, Nat.reduceEqDiff]

theorem laneWord_violation : laneWord ⟨true, n, f⟩ .violation =
    if n = 3 then (⟨false, 0, none⟩, some .lockLost)
    else (⟨true, n + 1, none⟩, if f = none then none else some .framing) := by
  cases f <;> simp [laneWord]

/-- Between frames only a start marker is of note (R86). -/
theorem laneWord_between (h : w ≠ .violation) : laneWord ⟨true, n, none⟩ w =
    if w = .startMark then (⟨true, 0, some []⟩, none) else (⟨true, 0, none⟩, none) := by
  cases w with
  | violation => exact absurd rfl h
  | startMark => rfl
  | _ => exact (if_neg (by simp)).symm

theorem laneWord_data (ws : List Word) (d : Word) : laneWord ⟨true, n, some ws⟩ (.data d) =
    if ws.length < 260 then (⟨true, 0, some (ws ++ [d])⟩, none) else (⟨true, 0, none⟩, some .framing) := rfl

end

/-! ### The words of a report -/

section
variable {rx rx' : LaneRx} {w : LinkWord}

theorem runLane_quiet (rest : List LinkWord) (h : laneWord rx w = (rx', none)) :
    runLane rx (w :: rest) = runLane rx' rest := by
  simp only [runLane, h]

theorem runLane_event {ev : LaneEvent} (rest : List LinkWord) (h : laneWord rx w = (rx', some ev)) :
    runLane rx (w :: rest) = if rest = [] then some (rx', ev) else none := by
  simp only [runLane, h, List.isEmpty_iff]

end

/-- As many good words as 8 lacks find lock (R84). -/
theorem runLane_finds_lock {n : Nat} {f : Option (List Word)} {ws : List LinkWord} (hn : n < 8)
    (hl : ws.length = 8 - n) (hg : ∀ w ∈ ws, w ≠ .violation) :
    runLane ⟨false, n, f⟩ ws = some (⟨true, 0, none⟩, .lockFound) := by
  induction ws generalizing n with
  | nil => exact absurd hl (by rw [List.length_nil]; omega)
  | cons w ws ih =>
    have hw := laneWord_search_good (n := n) (f := f) (hg w (List.mem_cons_self ..))
    rw [List.length_cons] at hl
    by_cases h7 : n = 7
    · rw [if_pos h7] at hw
      rw [runLane_event ws hw, if_pos (List.eq_nil_of_length_eq_zero (by omega))]
    · rw [if_neg h7] at hw
      rw [runLane_quiet ws hw]
      exact ih (by omega) (by omega) fun v hv => hg v (List.mem_cons_of_mem _ hv)

/-- Between frames, as many violations as 4 lacks lose lock (R84). -/
theorem runLane_loses_lock {n k : Nat} (hn : n < 4) (hk : k = 4 - n) :
    runLane ⟨true, n, none⟩ (List.replicate k .violation) = some (⟨false, 0, none⟩, .lockLost) := by
  induction k generalizing n with
  | zero => omega
  | succ k ih =>
    have hw := laneWord_violation (n := n) (f := none)
    by_cases h3 : n = 3
    · rw [if_pos h3] at hw
      rw [List.replicate_succ, runLane_event _ hw, if_pos (by simp; omega)]
    · rw [if_neg h3] at hw
      rw [List.replicate_succ, runLane_quiet _ hw]
      exact ih (by omega) (by omega)

/-- Inside a frame data words are gathered up to the end marker (R86). -/
theorem runLane_gathers {n : Nat} (got ws : List Word) (h : got.length + ws.length ≤ 260) :
    runLane ⟨true, n, some got⟩ (ws.map .data ++ [.endMark]) = some (⟨true, 0, none⟩, .frameEnd (got ++ ws)) := by
  induction ws generalizing n got with
  | nil => rw [List.append_nil]; rfl
  | cons d ws ih =>
    rw [List.length_cons] at h
    have hw := laneWord_data (n := n) got d
    rw [if_pos (by omega)] at hw
    rw [List.map_cons, List.cons_append, runLane_quiet _ hw, ih _ (by rw [List.length_append, List.length_singleton]; omega),
      List.append_assoc]
    rfl

/-- Between frames the words of a frame that is not too long end it (R83, R86). -/
theorem runLane_frame {n : Nat} {ws : List Word} (h : ws.length ≤ 260) :
    runLane ⟨true, n, none⟩ (laneOfWords ws) = some (⟨true, 0, none⟩, .frameEnd ws) :=
  (runLane_quiet _ rfl).trans (runLane_gathers [] ws (by rw [List.length_nil]; omega))

/-! ## The shapes of a frame (section 5.2, R88, R89) -/

theorem chanOfBits_val (w : Word) (lo : Nat) : (chanOfBits w lo).val = bits w lo 4 :=
  Nat.mod_eq_of_lt (Nat.mod_lt _ (by decide))

theorem bits_zero (w : Word) (len : Nat) : bits w 0 len = w.toNat % 2 ^ len := by
  rw [bits, Nat.pow_zero, Nat.div_one]

/-- The data words `w :: rest` have the shape of a frame, and are it. -/
inductive Parses (w : Word) (rest : List Word) : Frame → Prop
  | data {user : Word} {payload : List Word} (kind : bits w 0 4 = 1) (words : rest = user :: payload)
      (pos : bits w 20 10 ≠ 0) (fits : bits w 20 10 ≤ 1008) (size : payload.length = payloadWords (bits w 20 10)) :
      Parses w rest (.data (chanOfBits w 4) (BitVec.ofNat 12 (bits w 8 12)) user
        ((bytesOfWords payload).take (bits w 20 10)))
  | ack (kind : bits w 0 4 = 2) (fits : bits w 4 6 ≤ 32) (size : rest.length = bits w 4 6) :
      Parses w rest (.ack (if bits w 24 1 = 1 then some (BitVec.ofNat 12 (bits w 12 12)) else none)
        (rest.map refusalOfWord))
  | nak (kind : bits w 0 4 = 3) (size : rest = []) : Parses w rest (.nak (BitVec.ofNat 12 (bits w 12 12)))
  | credit {t : Word} (kind : bits w 0 4 = 4) (words : rest = [t]) :
      Parses w rest (.credit (chanOfBits w 4) (bits w 8 1 == 1) (BitVec.ofNat 8 (bits w 16 8))
        (BitVec.ofNat 16 (bits t 0 16)))
  | init (kind : bits w 0 4 = 5) (size : rest = []) :
      Parses w rest (.init (BitVec.ofNat 8 (bits w 8 8))
        (if bits w 4 1 = 1 then some (BitVec.ofNat 8 (bits w 16 8)) else none))

section
variable {w : Word} {rest : List Word} {f : Frame}

theorem parseFrame_of_parses (h : Parses w rest f) : parseFrame (w :: rest) = some f := by
  cases h with
  | data kind words pos fits size =>
    have hlen : ¬ (bits w 20 10 = 0 ∨ 1008 < bits w 20 10) := by omega
    simp only [parseFrame, kind, words, if_neg hlen, if_pos size]
  | ack kind fits size => simp only [parseFrame, kind, if_neg (Nat.not_lt.mpr fits), if_pos size]
  | nak kind size => simp only [parseFrame, kind, size, List.isEmpty_nil, if_true]
  | credit kind words => simp only [parseFrame, kind, words]
  | init kind size => simp only [parseFrame, kind, size, List.isEmpty_nil, if_true]

theorem parses_of_parseFrame (h : parseFrame (w :: rest) = some f) : Parses w rest f := by
  unfold parseFrame at h
  dsimp only at h
  split at h
  · next kind =>
    obtain ⟨hlen, h⟩ := (Option.ite_none_left_eq_some ..).mp h
    split at h
    · exact absurd h (by simp)
    · obtain ⟨size, h⟩ := (Option.ite_none_right_eq_some ..).mp h
      obtain rfl := Option.some.inj h
      exact .data kind rfl (by omega) (by omega) size
  · next kind =>
    obtain ⟨fits, h⟩ := (Option.ite_none_left_eq_some ..).mp h
    obtain ⟨size, h⟩ := (Option.ite_none_right_eq_some ..).mp h
    obtain rfl := Option.some.inj h
    exact .ack kind (Nat.not_lt.mp fits) size
  · next kind =>
    obtain ⟨size, h⟩ := (Option.ite_none_right_eq_some ..).mp h
    obtain rfl := Option.some.inj h
    exact .nak kind (List.isEmpty_iff.mp size)
  · next kind =>
    split at h
    · obtain rfl := Option.some.inj h
      exact .credit kind rfl
    · exact absurd h (by simp)
  · next kind =>
    obtain ⟨size, h⟩ := (Option.ite_none_right_eq_some ..).mp h
    obtain rfl := Option.some.inj h
    exact .init kind (List.isEmpty_iff.mp size)
  · exact absurd h (by simp)

theorem parseFrame_eq_some_iff : parseFrame (w :: rest) = some f ↔ Parses w rest f :=
  ⟨parses_of_parseFrame, parseFrame_of_parses⟩

theorem parseFrame_eq_none_iff : parseFrame (w :: rest) = none ↔ ∀ f, ¬ Parses w rest f := by
  simp only [Option.eq_none_iff_forall_ne_some, ne_eq, parseFrame_eq_some_iff]

end

/-! ### The checks at the end marker (R88) -/

section
variable {ws : List Word}

theorem judgeFrame_short (h : ws.length < 2) : judgeFrame ws = .framingError := if_pos h

theorem judgeFrame_append {crc : Word} (hn : ws ≠ []) : judgeFrame (ws ++ [crc]) =
    if crc ≠ crcWords ws then .crcError (bits (ws.headD 0#32) 0 4 == 1)
    else ((parseFrame ws).map Judged.good).getD .framingError := by
  obtain ⟨w, rest, rfl⟩ := List.exists_cons_of_ne_nil hn
  have hlen : ¬ (w :: rest ++ [crc]).length < 2 := by simp
  rw [judgeFrame, if_neg hlen, List.getLastD_concat, List.dropLast_concat]
  cases parseFrame (w :: rest) <;> rfl

end

/-! ## Lane reports (R84, R86, R88, R95, R101, R121) -/

section
variable {s : State} {ws : List LinkWord} {rx : LaneRx}

theorem listen_eq (hoff : s.link.state ≠ .off) : listen s ws = runLane s.link.rx ws := if_neg hoff

theorem exec_lockAcquired (on : s.on) (h : listen s ws = some (rx, .lockFound)) :
    exec (.lockAcquired ws) s = .next (trySync (setRx rx s)) := by
  refine (live_on _ s on).trans ?_
  simp only [lockFound, h]

theorem exec_lockLost (on : s.on) (h : listen s ws = some (rx, .lockLost)) : exec (.lockLost ws) s =
    .next (if s.link.state = .sync ∨ s.link.state = .up then linkReset .lockLost (setRx rx s) else setRx rx s) := by
  refine (live_on _ s on).trans ?_
  simp only [lockLost, h]
  rfl

/-- A framing error of the receiver, or of the check of a whole frame (R86, R88). -/
theorem exec_damagedFrame_framing {ev : LaneEvent} (on : s.on) (h : listen s ws = some (rx, ev))
    (hev : ev = .framing ∨ ∃ body, ev = .frameEnd body ∧ judgeFrame body = .framingError) :
    exec (.damagedFrame ws) s = .next (takeDamage true false (setRx rx s)) := by
  refine (live_on _ s on).trans ?_
  rcases hev with rfl | ⟨body, rfl, hj⟩
  · simp only [damaged, h]
  · simp only [damaged, h, hj]

theorem exec_damagedFrame_crc {body : List Word} {kindData : Bool} (on : s.on)
    (h : listen s ws = some (rx, .frameEnd body)) (hj : judgeFrame body = .crcError kindData) :
    exec (.damagedFrame ws) s = .next (takeDamage false kindData (setRx rx s)) := by
  refine (live_on _ s on).trans ?_
  simp only [damaged, h, hj]

/-- A damage report is taken at once, or waits behind arrivals that are not yet taken (log 35). -/
theorem reportDamage_eq (s : State) : reportDamage s =
    if s.land.inbox = [] then askNak s else { s with land := { s.land with inbox := s.land.inbox ++ [.damage] } } := by
  simp only [reportDamage, List.isEmpty_iff]

theorem takeDamage_framing (s : State) : takeDamage true false s =
    if s.link.state = .up then reportDamage (count Counters.framing s) else count Counters.framing s := by
  simp [takeDamage, LinkController.isUp]

theorem takeDamage_crc (kindData : Bool) (s : State) : takeDamage false kindData s =
    if kindData = true ∧ s.link.state = .up then reportDamage (count Counters.crc s) else count Counters.crc s := by
  simp [takeDamage, LinkController.isUp]

end

/-- The bad shapes of a frame (R89). -/
theorem no_parse_iff (w : Word) (rest : List Word) : (∀ f, ¬ Parses w rest f) ↔
    (bits w 0 4 = 0 ∨ 5 < bits w 0 4)
      ∨ (bits w 0 4 = 1 ∧ (bits w 20 10 = 0 ∨ 1008 < bits w 20 10 ∨ rest.length ≠ 1 + payloadWords (bits w 20 10)))
      ∨ (bits w 0 4 = 2 ∧ (32 < bits w 4 6 ∨ rest.length ≠ bits w 4 6))
      ∨ ((bits w 0 4 = 3 ∨ bits w 0 4 = 5) ∧ rest.length ≠ 0) ∨ (bits w 0 4 = 4 ∧ rest.length ≠ 1) := by
  constructor
  · intro hn
    by_contra hc
    have hkind : bits w 0 4 = 1 ∨ bits w 0 4 = 2 ∨ bits w 0 4 = 3 ∨ bits w 0 4 = 4 ∨ bits w 0 4 = 5 := by omega
    rcases hkind with h | h | h | h | h
    · obtain ⟨user, payload, rfl⟩ := List.exists_cons_of_length_pos (l := rest) (by omega)
      rw [List.length_cons] at hc
      exact hn _ (.data h rfl (by omega) (by omega) (by omega))
    · exact hn _ (.ack h (by omega) (by omega))
    · exact hn _ (.nak h (List.eq_nil_of_length_eq_zero (by omega)))
    · obtain ⟨t, ht⟩ := List.length_eq_one_iff.mp (show rest.length = 1 by omega)
      exact hn _ (.credit h ht)
    · exact hn _ (.init h (List.eq_nil_of_length_eq_zero (by omega)))
  · intro hc f hf
    cases hf with
    | data kind words pos fits size =>
      have hl : rest.length = 1 + payloadWords (bits w 20 10) := by rw [words, List.length_cons, size, Nat.add_comm]
      omega
    | ack kind fits size => omega
    | nak kind size => have hl := congrArg List.length size; rw [List.length_nil] at hl; omega
    | credit kind words => have hl := congrArg List.length words; rw [List.length_singleton] at hl; omega
    | init kind size => have hl := congrArg List.length size; rw [List.length_nil] at hl; omega

/-- Settles O38: the reports by the event that ends them; the checks of a frame; each link word, by the state of the
detector and the receiver. -/
theorem laneReports : Obligations.LaneReports := by
  refine ⟨fun s ws on hoff => ?_, ⟨fun ws h => judgeFrame_short h, fun ws crc hn h => ?_, fun ws hn => ?_,
    fun w rest => ?_, fun s => ⟨askNak_asked, fun h => ?_⟩⟩, fun n f w => ?_, fun rx rx' w rest ev =>
    ⟨rfl, runLane_quiet rest, runLane_event rest⟩⟩
  · intro heardBy
    refine ⟨fun hl hr hw hg => ?_, fun hl hf hr hw => ?_, fun rx ev hrun => ?_⟩
    · have hrx : s.link.rx = ⟨false, s.link.rx.run, s.link.rx.frame⟩ := by rw [← hl]
      have hlis : listen s ws = some (⟨true, 0, none⟩, .lockFound) := by
        rw [listen_eq hoff, hrx, runLane_finds_lock hr hw hg]
      rw [exec_lockAcquired on hlis, trySync_eq]
      refine ⟨fun hd ha => congrArg _ (if_pos ⟨hd, rfl, ha⟩), fun hn => congrArg _ (if_neg fun ⟨hd, _, ha⟩ => ?_)⟩
      exact hn.elim (absurd hd) (absurd ha)
    · have hrx : s.link.rx = ⟨true, s.link.rx.run, none⟩ := by rw [← hl, ← hf]
      have hlis : listen s ws = some (⟨false, 0, none⟩, .lockLost) := by
        rw [listen_eq hoff, hw, hrx, runLane_loses_lock hr rfl]
      rw [exec_lockLost on hlis]
      refine ⟨fun hd => congrArg _ (if_pos ?_), fun hd => congrArg _ (if_neg (by simp [hd]))⟩
      cases hs : s.link.state with
      | off => exact absurd hs hoff
      | down => exact absurd hs hd
      | sync => exact .inl rfl
      | up => exact .inr rfl
    · intro counted reported framing
      have hlis : listen s ws = some (rx, ev) := (listen_eq hoff).trans hrun
      refine ⟨fun hfr => ?_, fun body data hev hj => ?_⟩
      · rw [exec_damagedFrame_framing on hlis hfr, takeDamage_framing, reportDamage_eq]
        rfl
      · rw [exec_damagedFrame_crc on (hev ▸ hlis) hj, takeDamage_crc, reportDamage_eq]
        rfl
  · rw [judgeFrame_append hn, if_pos h, bits_zero]
    rfl
  · rw [judgeFrame_append hn, if_neg (not_not_intro rfl)]
    exact ⟨fun h => by rw [h]; rfl, fun f h => by rw [h]; rfl⟩
  · intro kind len entries size
    rw [parseFrame_eq_none_iff, no_parse_iff, bits_zero]
    simp only [bits, payloadWords, kind, len, entries, size]
    omega
  · intro queue
    rw [askNak_asks h, requestCtl_eq]
  · intro out inLock between
    refine ⟨fun h => h ▸ laneWord_search_violation, fun h hn => (laneWord_search_good h).trans (if_neg hn),
      fun h hn => (laneWord_search_good h).trans (if_pos hn), fun h hn => h ▸ laneWord_violation.trans (if_pos hn),
      fun h hn => h ▸ laneWord_violation.trans (if_neg hn), ?_, ?_, ?_⟩
    · rintro rfl rfl
      rfl
    · rintro rfl hs hv
      exact (laneWord_between hv).trans (if_neg hs)
    · rintro ws rfl
      refine ⟨?_, ?_, ?_, ?_, ?_⟩
      · rintro d rfl hl
        exact (laneWord_data ws d).trans (if_pos hl)
      · rintro d rfl hl
        exact (laneWord_data ws d).trans (if_neg (Nat.not_lt.mpr hl))
      all_goals
        rintro rfl
        rfl

end Sys2Proof.Machine

namespace Sys2Proof.Machine

/-! ## Words and bytes of a frame (section 5.2, R85) -/

theorem lane_wordOfLanes_eq (b : Fin 4 → Byte) (j : Fin 4) : lane (wordOfLanes (b 0) (b 1) (b 2) (b 3)) j = b j := by
  obtain ⟨h0, h1, h2, h3⟩ := lane_wordOfLanes (b 0) (b 1) (b 2) (b 3)
  match j with
  | 0 => exact h0
  | 1 => exact h1
  | 2 => exact h2
  | 3 => exact h3

/-- A word's lanes, where the lanes are bytes of `p` from `k` on, 0 past its end. -/
theorem lane_wordOfLanes_getD (p : List Byte) (k : Nat) {j : Nat} (hj : j < 4) :
    lane (wordOfLanes (p.getD k 0#8) (p.getD (k + 1) 0#8) (p.getD (k + 2) 0#8) (p.getD (k + 3) 0#8)) j
      = p.getD (k + j) 0#8 :=
  lane_wordOfLanes_eq (fun i => p.getD (k + i) 0#8) ⟨j, hj⟩

theorem wordsOfBytes_length (p : List Byte) : (wordsOfBytes p).length = payloadWords p.length := by
  induction p using wordsOfBytes.induct with
  | case5 a b c d rest ih =>
    rw [wordsOfBytes, List.length_cons, ih]
    simp only [payloadWords, List.length_cons]
    omega
  | _ => simp [wordsOfBytes, payloadWords]

/-- Payload byte `k` is in lane k mod 4 of payload word k div 4, and the rest of the last word is 0. -/
theorem wordsOfBytes_lane (p : List Byte) {k j : Nat} {w : Word} (h : (wordsOfBytes p)[k]? = some w) (hj : j < 4) :
    lane w j = p.getD (4 * k + j) 0#8 := by
  have one {v w : Word} {k : Nat} (h : [v][k]? = some w) : k = 0 ∧ v = w := by
    rw [List.getElem?_singleton] at h
    split at h <;> simp_all
  induction p using wordsOfBytes.induct generalizing k with
  | case1 => simp [wordsOfBytes] at h
  | case2 a =>
    obtain ⟨rfl, rfl⟩ := one h
    exact lane_wordOfLanes_getD [a] 0 hj
  | case3 a b =>
    obtain ⟨rfl, rfl⟩ := one h
    exact lane_wordOfLanes_getD [a, b] 0 hj
  | case4 a b c =>
    obtain ⟨rfl, rfl⟩ := one h
    exact lane_wordOfLanes_getD [a, b, c] 0 hj
  | case5 a b c d rest ih =>
    cases k with
    | zero =>
      obtain rfl := Option.some.inj h
      exact lane_wordOfLanes_getD (a :: b :: c :: d :: rest) 0 hj
    | succ k =>
      have hk : 4 * (k + 1) + j = 4 * k + j + 4 := by omega
      rw [hk, ih h]
      rfl

theorem bytesOfWords_eq_flatMap (ws : List Word) :
    bytesOfWords ws = ws.flatMap (fun w => [lane w 0, lane w 1, lane w 2, lane w 3]) := by
  induction ws with
  | nil => rfl
  | cons w ws ih => rw [bytesOfWords, ih]; rfl

theorem bytesOfWords_length (ws : List Word) : (bytesOfWords ws).length = 4 * ws.length := by
  induction ws with
  | nil => rfl
  | cons w ws ih => simp only [bytesOfWords, List.length_cons, ih]; omega

/-- Byte `k` of words is lane k mod 4 of word k div 4 (R85). -/
theorem bytesOfWords_getElem? (ws : List Word) (k : Nat) :
    (bytesOfWords ws)[k]? = (ws[k / 4]?).map (fun w => lane w (k % 4)) := by
  induction ws generalizing k with
  | nil => rfl
  | cons w ws ih =>
    match k with
    | 0 | 1 | 2 | 3 => rfl
    | k + 4 =>
      have hd : (k + 4) / 4 = k / 4 + 1 := by omega
      have hm : (k + 4) % 4 = k % 4 := by omega
      rw [hd, hm]
      exact ih k

/-- The payload bytes of payload words, cut at the length, are the payload. -/
theorem take_bytesOfWords (p : List Byte) : (bytesOfWords (wordsOfBytes p)).take p.length = p := by
  refine List.ext_getElem? fun k => ?_
  rw [List.getElem?_take]
  by_cases hk : k < p.length
  · have hw : k / 4 < (wordsOfBytes p).length := by rw [wordsOfBytes_length, payloadWords]; omega
    have hl := wordsOfBytes_lane p (List.getElem?_eq_getElem hw) (Nat.mod_lt k (by decide))
    rw [if_pos hk, bytesOfWords_getElem?, List.getElem?_eq_getElem hw, Option.map_some, hl, Nat.div_add_mod,
      List.getD_eq_getElem _ _ hk, List.getElem?_eq_getElem hk]
  · rw [if_neg hk, List.getElem?_eq_none (Nat.not_lt.mp hk)]

/-- The check value of R87: the CRC of the characters 1 to 9. -/
theorem crcBytes_check :
    crcBytes [0x31#8, 0x32#8, 0x33#8, 0x34#8, 0x35#8, 0x36#8, 0x37#8, 0x38#8, 0x39#8] = 0xCBF43926#32 := by
  simp [crcBytes, crcByte, crcBit, crcPoly]

/-! ### Fields of the words sent and received -/

theorem Reason.code_le (r : Reason) : r.code ≤ 3 := by cases r <;> decide

theorem Reason.ofCode_code (r : Reason) : Reason.ofCode r.code = r := by cases r <;> rfl

theorem Reason.code_ofCode : ∀ n < 4, (Reason.ofCode n).code = n := by decide

theorem toNat_ofNat_word {n : Nat} (h : n < 2 ^ 32) : (BitVec.ofNat 32 n).toNat = n := by
  rw [BitVec.toNat_ofNat, Nat.mod_eq_of_lt h]

theorem ofNat_eq {k n : Nat} {x : BitVec k} (h : n = x.toNat) : BitVec.ofNat k n = x := by
  rw [h, BitVec.ofNat_toNat, BitVec.setWidth_eq]

theorem toNat_bits {k : Nat} (w : Word) (lo : Nat) {len : Nat} (h : len ≤ k) :
    (BitVec.ofNat k (bits w lo len)).toNat = bits w lo len := by
  rw [BitVec.toNat_ofNat, Nat.mod_eq_of_lt]
  exact lt_of_lt_of_le (Nat.mod_lt _ (Nat.two_pow_pos len)) (Nat.pow_le_pow_right (by decide) h)

theorem chanOfBits_eq {w : Word} {lo : Nat} {c : Chan} (h : bits w lo 4 = c.val) : chanOfBits w lo = c :=
  Fin.ext ((chanOfBits_val w lo).trans h)

/-- A flag of one bit. -/
theorem bit_cases (w : Word) (lo : Nat) : bits w lo 1 = 0 ∨ bits w lo 1 = 1 :=
  Nat.mod_two_eq_zero_or_one _

theorem refusalWord_toNat (r : RefusalEntry) :
    (refusalWord r).toNat = r.seq.toNat + r.chan.val * 2 ^ 12 + r.reason.code * 2 ^ 16 := by
  have h1 := r.seq.isLt
  have h2 := r.chan.isLt
  have h3 := r.reason.code_le
  exact toNat_ofNat_word (by omega)

theorem refusalOfWord_refusalWord (r : RefusalEntry) : refusalOfWord (refusalWord r) = r := by
  have h1 := r.seq.isLt
  have h2 := r.chan.isLt
  have h3 := r.reason.code_le
  have hseq : bits (refusalWord r) 0 12 = r.seq.toNat := by rw [bits, refusalWord_toNat]; omega
  have hchan : bits (refusalWord r) 12 4 = r.chan.val := by rw [bits, refusalWord_toNat]; omega
  have hcode : bits (refusalWord r) 16 2 = r.reason.code := by rw [bits, refusalWord_toNat]; omega
  rw [refusalOfWord, ofNat_eq hseq, chanOfBits_eq hchan, hcode, Reason.ofCode_code]

/-! ## The frames sent (section 5.2; log 37) -/

section
variable (d c : Chan) (q : Seq) (user : Word) (p : List Byte) (t : Option Seq) (rs : List RefusalEntry) (o : Bool)
  (g : BitVec 8) (v : BitVec 16) (e : Epoch) (h : Option Epoch)

/-- Word 0 of a frame. -/
def Frame.word0 (f : Frame) : Word := f.body.headD 0#32

theorem data_word0 (hp : p.length ≤ 1008) : (Frame.data d q user p).word0.toNat =
    1 + d.val * 2 ^ 4 + q.toNat * 2 ^ 8 + p.length * 2 ^ 20 := by
  have h1 := d.isLt
  have h2 := q.isLt
  exact toNat_ofNat_word (by omega)

theorem ack_word0 (hr : rs.length ≤ 32) : (Frame.ack t rs).word0.toNat =
    2 + rs.length * 2 ^ 4 + (t.getD 0#12).toNat * 2 ^ 12 + t.isSome.toNat * 2 ^ 24 := by
  have h1 := (t.getD 0#12).isLt
  have h2 := t.isSome.toNat_le
  exact toNat_ofNat_word (by omega)

theorem nak_word0 : (Frame.nak q).word0.toNat = 3 + q.toNat * 2 ^ 12 := by
  have h1 := q.isLt
  exact toNat_ofNat_word (by omega)

theorem credit_word0 : (Frame.credit c o g v).word0.toNat =
    4 + c.val * 2 ^ 4 + o.toNat * 2 ^ 8 + g.toNat * 2 ^ 16 := by
  have h1 := c.isLt
  have h2 := o.toNat_le
  have h3 := g.isLt
  exact toNat_ofNat_word (by omega)

theorem init_word0 : (Frame.init e h).word0.toNat =
    5 + h.isSome.toNat * 2 ^ 4 + e.toNat * 2 ^ 8 + (h.getD 0#8).toNat * 2 ^ 16 := by
  have h1 := h.isSome.toNat_le
  have h2 := e.isLt
  have h3 := (h.getD 0#8).isLt
  exact toNat_ofNat_word (by omega)

/-! ### Each is heard as it was sent -/

theorem parseFrame_data (h1 : 1 ≤ p.length) (h2 : p.length ≤ 1008) :
    parseFrame (Frame.data d q user p).body = some (.data d q user p) := by
  have hw := data_word0 d q user p h2
  have hd := d.isLt
  have hq := q.isLt
  have kind : bits (Frame.data d q user p).word0 0 4 = 1 := by rw [bits, hw]; omega
  have chan : bits (Frame.data d q user p).word0 4 4 = d.val := by rw [bits, hw]; omega
  have seq : bits (Frame.data d q user p).word0 8 12 = q.toNat := by rw [bits, hw]; omega
  have len : bits (Frame.data d q user p).word0 20 10 = p.length := by rw [bits, hw]; omega
  have hp := Parses.data (user := user) kind rfl (by omega) (by omega) ((wordsOfBytes_length p).trans (by rw [len]))
  rw [chanOfBits_eq chan, ofNat_eq seq, len, take_bytesOfWords] at hp
  exact parseFrame_of_parses hp

theorem parseFrame_ack (hr : rs.length ≤ 32) : parseFrame (Frame.ack t rs).body = some (.ack t rs) := by
  have hw := ack_word0 t rs hr
  have ht := (t.getD 0#12).isLt
  have hb := t.isSome.toNat_le
  have kind : bits (Frame.ack t rs).word0 0 4 = 2 := by rw [bits, hw]; omega
  have entries : bits (Frame.ack t rs).word0 4 6 = rs.length := by rw [bits, hw]; omega
  have seq : bits (Frame.ack t rs).word0 12 12 = (t.getD 0#12).toNat := by rw [bits, hw]; omega
  have present : bits (Frame.ack t rs).word0 24 1 = t.isSome.toNat := by rw [bits, hw]; omega
  have hp := Parses.ack (rest := rs.map refusalWord) kind (by omega) ((List.length_map ..).trans entries.symm)
  have hmap : (rs.map refusalWord).map refusalOfWord = rs := by
    rw [List.map_map]
    exact (List.map_congr_left fun r _ => refusalOfWord_refusalWord r).trans (List.map_id rs)
  rw [hmap, present, ofNat_eq seq] at hp
  refine parseFrame_of_parses ?_
  cases t <;> exact hp

theorem parseFrame_nak : parseFrame (Frame.nak q).body = some (.nak q) := by
  have hw := nak_word0 q
  have hq := q.isLt
  have kind : bits (Frame.nak q).word0 0 4 = 3 := by rw [bits, hw]; omega
  have seq : bits (Frame.nak q).word0 12 12 = q.toNat := by rw [bits, hw]; omega
  have hp := Parses.nak kind rfl
  rw [ofNat_eq seq] at hp
  exact parseFrame_of_parses hp

theorem parseFrame_credit : parseFrame (Frame.credit c o g v).body = some (.credit c o g v) := by
  have hw := credit_word0 c o g v
  have hc := c.isLt
  have ho := o.toNat_le
  have hg := g.isLt
  have hv := v.isLt
  have kind : bits (Frame.credit c o g v).word0 0 4 = 4 := by rw [bits, hw]; omega
  have chan : bits (Frame.credit c o g v).word0 4 4 = c.val := by rw [bits, hw]; omega
  have isOpen : bits (Frame.credit c o g v).word0 8 1 = o.toNat := by rw [bits, hw]; omega
  have generation : bits (Frame.credit c o g v).word0 16 8 = g.toNat := by rw [bits, hw]; omega
  have total : bits (BitVec.ofNat 32 v.toNat) 0 16 = v.toNat := by rw [bits, toNat_ofNat_word (by omega)]; omega
  have hp := Parses.credit (t := BitVec.ofNat 32 v.toNat) kind rfl
  rw [chanOfBits_eq chan, isOpen, ofNat_eq generation, ofNat_eq total] at hp
  refine parseFrame_of_parses ?_
  cases o <;> exact hp

theorem parseFrame_init : parseFrame (Frame.init e h).body = some (.init e h) := by
  have hw := init_word0 e h
  have hb := h.isSome.toNat_le
  have he := e.isLt
  have hh := (h.getD 0#8).isLt
  have kind : bits (Frame.init e h).word0 0 4 = 5 := by rw [bits, hw]; omega
  have present : bits (Frame.init e h).word0 4 1 = h.isSome.toNat := by rw [bits, hw]; omega
  have epoch : bits (Frame.init e h).word0 8 8 = e.toNat := by rw [bits, hw]; omega
  have heard : bits (Frame.init e h).word0 16 8 = (h.getD 0#8).toNat := by rw [bits, hw]; omega
  have hp := Parses.init kind rfl
  rw [present, ofNat_eq epoch, ofNat_eq heard] at hp
  refine parseFrame_of_parses ?_
  cases h <;> exact hp

end

theorem parseFrame_body {f : Frame} (hf : f.inRange) : parseFrame f.body = some f := by
  cases f with
  | data d q user p => exact parseFrame_data d q user p hf.1 hf.2
  | ack t rs => exact parseFrame_ack t rs hf
  | nak q => exact parseFrame_nak q
  | credit c o g v => exact parseFrame_credit c o g v
  | init e h => exact parseFrame_init e h

/-- A frame in range fits the receiver with its CRC word (R86). -/
theorem body_length {f : Frame} (hf : f.inRange) : 1 ≤ f.body.length ∧ f.body.length ≤ 254 := by
  cases f with
  | data d q user p =>
    obtain ⟨-, hp⟩ := hf
    have hl : (Frame.data d q user p).body.length = payloadWords p.length + 2 :=
      congrArg (· + 2) (wordsOfBytes_length p)
    rw [hl, payloadWords]
    omega
  | ack t rs =>
    have hr : rs.length ≤ 32 := hf
    have hl : (Frame.ack t rs).body.length = rs.length + 1 := congrArg (· + 1) (List.length_map ..)
    omega
  | nak q => exact (by decide : 1 ≤ 1 ∧ 1 ≤ 254)
  | credit c o g v => exact (by decide : 1 ≤ 2 ∧ 2 ≤ 254)
  | init e h => exact (by decide : 1 ≤ 1 ∧ 1 ≤ 254)

/-- On a lane in lock and between frames the frame is heard (R83, R85 to R89). -/
theorem hears_frame {f : Frame} {s : State} {k : Nat} (hf : f.inRange) (on : s.on) (hoff : s.link.state ≠ .off)
    (hrx : s.link.rx = ⟨true, k, none⟩) :
    s.hears (laneOfWords (f.body ++ [crcWords f.body])) ⟨true, 0, none⟩ f := by
  obtain ⟨h1, h2⟩ := body_length hf
  have hn : f.body ≠ [] := List.ne_nil_of_length_pos h1
  have hlis : listen s (laneOfWords (f.body ++ [crcWords f.body])) =
      some (⟨true, 0, none⟩, .frameEnd (f.body ++ [crcWords f.body])) := by
    rw [listen_eq hoff, hrx, runLane_frame (by rw [List.length_append, List.length_singleton]; omega)]
  have hj : judgeFrame (f.body ++ [crcWords f.body]) = .good f := by
    rw [judgeFrame_append hn, if_neg (not_not_intro rfl), parseFrame_body hf]
    rfl
  exact ⟨on, by simp only [goodFrame, hlis, hj]⟩

/-! ## The frames received (section 5.2) -/

section
variable {w : Word} {rest : List Word}

theorem parsed_data {d : Chan} {q : Seq} {user : Word} {p : List Byte} (h : Parses w rest (.data d q user p)) :
    bits w 0 4 = 1 ∧ d.val = bits w 4 4 ∧ q.toNat = bits w 8 12 ∧ p.length = bits w 20 10 ∧ rest.head? = some user
      ∧ ∀ (k : Nat) (b : Byte), p[k]? = some b → ∃ x : Word, rest[1 + k / 4]? = some x ∧ b = lane x (k % 4) := by
  cases h with
  | data kind words pos fits size =>
    subst words
    refine ⟨kind, chanOfBits_val w 4, toNat_bits w 8 (Nat.le_refl 12), ?_, rfl, fun k b hb => ?_⟩
    · rw [payloadWords] at size
      rw [List.length_take, bytesOfWords_length]
      omega
    · rw [List.getElem?_take] at hb
      obtain ⟨-, hb⟩ := (Option.ite_none_right_eq_some ..).mp hb
      rw [bytesOfWords_getElem?, Option.map_eq_some_iff] at hb
      obtain ⟨x, hx, rfl⟩ := hb
      exact ⟨x, by rw [Nat.add_comm, List.getElem?_cons_succ, hx], rfl⟩

theorem parsed_ack {t : Option Seq} {rs : List RefusalEntry} (h : Parses w rest (.ack t rs)) :
    bits w 0 4 = 2 ∧ rs.length = bits w 4 6 ∧ t.isSome.toNat = bits w 24 1 ∧ (∀ q, t = some q → q.toNat = bits w 12 12)
      ∧ ∀ (k : Nat) (r : RefusalEntry), rs[k]? = some r → ∃ x : Word, rest[k]? = some x ∧ r.seq.toNat = x.toNat % 2 ^ 12
        ∧ r.chan.val = bits x 12 4 ∧ r.reason.code = bits x 16 2 := by
  cases h with
  | ack kind fits size =>
    refine ⟨kind, (List.length_map ..).trans size, ?_, fun q hq => ?_, fun k r hr => ?_⟩
    · rcases bit_cases w 24 with hb | hb <;> simp [hb]
    · obtain ⟨-, hq⟩ := (Option.ite_none_right_eq_some ..).mp hq
      obtain rfl := Option.some.inj hq
      exact toNat_bits w 12 (Nat.le_refl 12)
    · rw [List.getElem?_map, Option.map_eq_some_iff] at hr
      obtain ⟨x, hx, rfl⟩ := hr
      exact ⟨x, hx, (toNat_bits x 0 (Nat.le_refl 12)).trans (bits_zero x 12), chanOfBits_val x 12,
        Reason.code_ofCode _ (Nat.mod_lt _ (by decide))⟩

theorem parsed_nak {q : Seq} (h : Parses w rest (.nak q)) : bits w 0 4 = 3 ∧ q.toNat = bits w 12 12 := by
  cases h with
  | nak kind size => exact ⟨kind, toNat_bits w 12 (Nat.le_refl 12)⟩

theorem parsed_credit {c : Chan} {o : Bool} {g : BitVec 8} {v : BitVec 16} (h : Parses w rest (.credit c o g v)) :
    bits w 0 4 = 4 ∧ c.val = bits w 4 4 ∧ o.toNat = bits w 8 1 ∧ g.toNat = bits w 16 8
      ∧ ∃ x : Word, rest = [x] ∧ v.toNat = x.toNat % 2 ^ 16 := by
  cases h with
  | credit kind words =>
    refine ⟨kind, chanOfBits_val w 4, ?_, toNat_bits w 16 (Nat.le_refl 8), _, words,
      (toNat_bits _ 0 (Nat.le_refl 16)).trans (bits_zero _ 16)⟩
    rcases bit_cases w 8 with hb | hb <;> rw [hb] <;> rfl

theorem parsed_init {e : Epoch} {h : Option Epoch} (hp : Parses w rest (.init e h)) :
    bits w 0 4 = 5 ∧ h.isSome.toNat = bits w 4 1 ∧ e.toNat = bits w 8 8 ∧ ∀ x, h = some x → x.toNat = bits w 16 8 := by
  cases hp with
  | init kind size =>
    refine ⟨kind, ?_, toNat_bits w 8 (Nat.le_refl 8), fun x hx => ?_⟩
    · rcases bit_cases w 4 with hb | hb <;> simp [hb]
    · obtain ⟨-, hx⟩ := (Option.ite_none_right_eq_some ..).mp hx
      obtain rfl := Option.some.inj hx
      exact toNat_bits w 16 (Nat.le_refl 8)

end

/-- Settles O34: the words of each kind sent, the payload words, the CRC, the fields of each kind received, and the
round trip. -/
theorem framesRoundTrip : Obligations.FramesRoundTrip := by
  refine ⟨fun d c q user p t rs r o g v e h => ⟨fun hp => ⟨_, rfl, data_word0 d q user p hp⟩,
      fun hr => ⟨_, rfl, ack_word0 t rs hr⟩, refusalWord_toNat r, ⟨_, rfl, nak_word0 q⟩,
      ⟨_, _, rfl, toNat_ofNat_word (lt_trans v.isLt (by decide)), credit_word0 c o g v⟩, ⟨_, rfl, init_word0 e h⟩⟩,
    fun p => ⟨wordsOfBytes_length p, fun k w j => wordsOfBytes_lane p⟩, ?_, fun w rest => ?_,
    fun f s k hf on hoff hrx => hears_frame hf on hoff hrx⟩
  · intro bit byte
    exact ⟨by decide, fun bs => rfl, fun ws => congrArg crcBytes (bytesOfWords_eq_flatMap ws), crcBytes_check⟩
  · exact ⟨fun d q user p h => parsed_data (parses_of_parseFrame h), fun t rs h => parsed_ack (parses_of_parseFrame h),
      fun q h => parsed_nak (parses_of_parseFrame h), fun c o g v h => parsed_credit (parses_of_parseFrame h),
      fun e h hp => parsed_init (parses_of_parseFrame hp)⟩

end Sys2Proof.Machine

namespace Sys2Proof.Machine

/-! ## The queues: control frames, events, landings, replay entries (R105, R108, R146, R163)

`a.KeptIn b`: each law of the queues that holds in `a` holds in `b`. Each is kept on its own. -/

/-- What the laws of the queues speak of: the control frame requests, the number of events and of landing entries that
wait, the replay list and the next sequence. -/
structure Queues where
  control : List CtlReq
  events : Nat
  landing : Nat
  replay : List ReplayEntry
  next : Seq

/-- Those of a state. -/
def State.queues (s : State) : Queues :=
  ⟨s.tx.queue, s.ev.queue.length, s.land.queue.length, s.tx.replay, s.tx.nextSeq⟩

structure Queues.KeptIn (a b : Queues) : Prop where
  control : a.control.Nodup → b.control.Nodup
  events : a.events ≤ 8 → b.events ≤ 8
  landing : a.landing ≤ 4 → b.landing ≤ 4
  replay : a.replay.length ≤ 32 → b.replay.length ≤ 32
  order : consecutive a.replay a.next → consecutive b.replay b.next

@[simp] theorem Queues.KeptIn.refl (a : Queues) : a.KeptIn a := ⟨id, id, id, id, id⟩

theorem Queues.KeptIn.trans {a b c : Queues} (h : a.KeptIn b) (k : b.KeptIn c) : a.KeptIn c :=
  ⟨k.control ∘ h.control, k.events ∘ h.events, k.landing ∘ h.landing, k.replay ∘ h.replay, k.order ∘ h.order⟩

/-- A record update that keeps the reset level and, of the units, what the laws speak of. -/
@[simp] theorem queues_update (t : State) (now : Word) (i : Bool) (o : List (Option LinkWord)) (m : List Host.Cell)
    (y : HostPort) (p : Option HostAccess) (a : Option HostAnswer) (g : MemPort) (q : Requests) (w : Matcher)
    (c : CommandUnit) (u : CaptureUnit) (l : LinkController) (x : TransmitEngine) (e : LandingEngine) (d : CreditUnit)
    (v : EventUnit) (f : Nat) (n : List Instr) (hq : x.queue = t.tx.queue) (hr : x.replay = t.tx.replay)
    (hn : x.nextSeq = t.tx.nextSeq) (he : e.queue = t.land.queue) (hv : v.queue = t.ev.queue) :
    State.queues ⟨t.resetLow, now, i, o, m, y, p, a, g, q, w, c, u, l, x, e, d, v, f, n⟩ = t.queues := by
  simp only [State.queues, hq, hr, hn, he, hv]

theorem queues_foldl {α : Type} {f : State → α → State} (h : ∀ s a, (f s a).queues = s.queues) (l : List α)
    (s : State) : (l.foldl f s).queues = s.queues := by
  induction l generalizing s with
  | nil => rfl
  | cons a l ih => rw [List.foldl_cons, ih, h]

theorem keepsQueues_foldl {α : Type} {w : Queues} {f : State → α → State}
    (h : ∀ s a, w.KeptIn s.queues → w.KeptIn (f s a).queues) (l : List α) {s : State} (hs : w.KeptIn s.queues) :
    w.KeptIn (l.foldl f s).queues := by
  induction l generalizing s with
  | nil => exact hs
  | cons a l ih => exact ih (h s a hs)

/-- Completions, cancelled refetches and all other work on buffers and slots leave the queues. -/
theorem Completes.queues {s t : State} (h : Completes s t) : t.queues = s.queues := by rw [h]; rfl

theorem Captures.queues {s t : State} (h : Captures s t) : t.queues = s.queues := h.completes.queues

/-! ### The replay list in order (R108) -/

/-- A change that keeps the sequences keeps the order. -/
theorem consecutive_map {f : ReplayEntry → ReplayEntry} (hf : ∀ x, (f x).seq = x.seq) {l : List ReplayEntry}
    {n : Seq} (h : consecutive l n) : consecutive (l.map f) n := by
  induction l with
  | nil => trivial
  | cons x l ih => exact ⟨by rw [hf, List.length_map]; exact h.1, ih h.2⟩

/-- What is left after a removal from the head is in order. -/
theorem consecutive_suffix {k l : List ReplayEntry} {n : Seq} (hk : k <:+ l) (h : consecutive l n) :
    consecutive k n := by
  induction l with
  | nil => rw [List.suffix_nil.mp hk]; trivial
  | cons x l ih =>
    obtain rfl | hk := List.suffix_cons_iff.mp hk
    · exact h
    · exact ih hk h.2

/-- An entry with the next sequence joins at the tail. -/
theorem consecutive_append {x : ReplayEntry} {l : List ReplayEntry} {n : Seq} (hx : x.seq = n) (h : consecutive l n) :
    consecutive (l ++ [x]) (n + 1) := by
  induction l with
  | nil => exact ⟨by rw [hx]; rfl, trivial⟩
  | cons y l ih =>
    refine ⟨?_, ih h.2⟩
    have hy : y.seq + BitVec.ofNat 12 (l.length + 1) = n := h.1
    have hl : (l.append [x]).length = l.length + 1 := List.length_append
    rw [← hy, BitVec.add_assoc, hl]
    congr 1
    exact (BitVec.ofNat_add ..)

/-- An ACK leaves the entries behind the one it names. -/
theorem splitThrough_suffix (q : Seq) (l : List ReplayEntry) : (splitThrough q l).2 <:+ l := by
  induction l with
  | nil => exact List.suffix_refl _
  | cons x l ih =>
    unfold splitThrough
    split
    · exact List.suffix_cons x l
    · exact ih.trans (List.suffix_cons x l)

section
variable {w : Queues} {s : State}

/-! ### Requests, commands, counters, events (R163, R167, R169) -/

@[simp] theorem present_queues (r : DevReq) : (present r s).queues = s.queues := by rfl
@[simp] theorem endCommand_queues (r : Result) (d : Word) : (endCommand r d s).queues = s.queues := by rfl
@[simp] theorem count_queues (f : Counters → Counters) : (count f s).queues = s.queues := by rfl
@[simp] theorem driveInt_queues : (driveInt s).queues = s.queues := by rfl
@[simp] theorem withdrawRecord_queues : (withdrawRecord s).queues = s.queues := by rfl
@[simp] theorem clearHold_queues : (clearHold s).queues = s.queues := by rfl

/-- A change of the Event Unit that does not take its queue over the bound. -/
theorem keepsQueues_events (h : w.KeptIn s.queues) (v : EventUnit) (hv : s.ev.queue.length ≤ 8 → v.queue.length ≤ 8) :
    w.KeptIn (State.queues { s with ev := v }) :=
  h.trans ⟨id, hv, id, id, id⟩

/-- The choice of a ring write may lose the whole queue. -/
theorem choose_queue (ev : EventUnit) (consumer now : Word) :
    (ev.choose consumer now).queue = ev.queue ∨ (ev.choose consumer now).queue = [] := by
  unfold EventUnit.choose
  (repeat' split) <;> simp [EventUnit.loseQueue]

@[simp] theorem runRing_keepsQueues (h : w.KeptIn s.queues) : w.KeptIn (runRing s).queues := by
  refine h.trans ⟨id, fun hs => ?_, id, id, id⟩
  obtain hq | hq := choose_queue s.ev s.wm.consumer s.timebase <;> simp only [State.queues, runRing, hq]
  · exact hs
  · exact Nat.zero_le _

/-- An event joins only a queue below the bound (R167). -/
theorem take_queue (ev : EventUnit) (e : Event) (h : ev.queue.length ≤ 8) : (ev.take e).queue.length ≤ 8 := by
  unfold EventUnit.take
  split
  · split
    · next hl => simpa [Config.eventPlaces] using hl
    · exact h
  · exact h
  · exact h

@[simp] theorem post_keepsQueues (k : EventKind) (c : Chan) (d1 d2 : Word) (h : w.KeptIn s.queues) :
    w.KeptIn (post k c d1 d2 s).queues :=
  runRing_keepsQueues (keepsQueues_events h _ (take_queue s.ev _))

@[simp] theorem postFaultIf_keepsQueues (e : AccessEnd) (c : Chan) (o : Origin) (n : Nat) (h : w.KeptIn s.queues) :
    w.KeptIn (postFaultIf e c o n s).queues := by
  unfold postFaultIf postFault
  split <;> simp [h]

@[simp] theorem finishDrain_queues : (finishDrain s).queues = s.queues := by
  unfold finishDrain
  split <;> rfl

@[simp] theorem consumerChanged_keepsQueues (h : w.KeptIn s.queues) : w.KeptIn (consumerChanged s).queues := by
  unfold consumerChanged
  dsimp only
  split <;> simp [h]

@[simp] theorem startEvents_keepsQueues (c : Command) (h : w.KeptIn s.queues) : w.KeptIn (startEvents c s).queues := by
  unfold startEvents installRing
  (repeat' split) <;> simp [h]

@[simp] theorem stopEvents_keepsQueues (h : w.KeptIn s.queues) : w.KeptIn (stopEvents s).queues := by
  unfold stopEvents
  split <;> simp [h]

@[simp] theorem startSnapshot_keepsQueues (c : Command) (h : w.KeptIn s.queues) :
    w.KeptIn (startSnapshot c s).queues := by
  unfold startSnapshot
  simp [h]

/-- The head event leaves at the end of its record write (R169, R171). -/
theorem recordEnd_queue (e : AccessEnd) (wm : Matcher) (ev : EventUnit) :
    (ev.recordEnd e wm).queue = ev.queue.tail := by
  unfold EventUnit.recordEnd
  dsimp only
  split <;> rfl

@[simp] theorem lostEnd_queue (n : Word) (e : AccessEnd) (wm : Matcher) (ev : EventUnit) :
    (ev.lostEnd n e wm).queue = ev.queue := by
  unfold EventUnit.lostEnd
  split <;> rfl

@[simp] theorem endRingWrite_keepsQueues (k : RingKind) (e : AccessEnd) (r : DevReq) (h : w.KeptIn s.queues) :
    w.KeptIn (endRingWrite k e r s).queues := by
  unfold endRingWrite afterRing
  split
  · rw [finishDrain_queues]
    refine runRing_keepsQueues (keepsQueues_events h _ fun hs => ?_)
    rw [recordEnd_queue, List.length_tail]
    omega
  · simp [h]
  · rw [finishDrain_queues]
    exact runRing_keepsQueues h
  · unfold endStartWrite
    dsimp only
    split
    · exact runRing_keepsQueues h
    · exact post_keepsQueues (s := { s with ev := s.ev.startEnd }) _ _ _ _ h

@[simp] theorem endSnapBurst_keepsQueues (e : AccessEnd) (r : DevReq) (h : w.KeptIn s.queues) :
    w.KeptIn (endSnapBurst e r s).queues := by
  unfold endSnapBurst
  split
  · next im hi =>
    have ended : w.KeptIn (State.queues { s with ev := s.ev.snapEnd (im.advance e r.addr) }) := h
    dsimp only
    split <;> simp [ended]
  · exact h

/-! ### Control frame requests (R105) -/

/-- A request joins the queue only if none of its kind waits. -/
theorem nodup_request {q : List CtlReq} (r : CtlReq) (p : Bool) (h : q.Nodup) :
    (if p && !q.contains r then q ++ [r] else q).Nodup := by
  split
  · next hc =>
    have hr : r ∉ q := by simpa using (Bool.and_eq_true_iff.mp hc).2
    simpa using h.concat hr
  · exact h

@[simp] theorem requestCtl_keepsQueues (r : CtlReq) (h : w.KeptIn s.queues) : w.KeptIn (requestCtl r s).queues :=
  h.trans ⟨nodup_request r _, id, id, id, id⟩

@[simp] theorem requestCredit_keepsQueues (c : Chan) (h : w.KeptIn s.queues) : w.KeptIn (requestCredit c s).queues :=
  h.trans ⟨nodup_request (.credit c) _, id, id, id, id⟩

@[simp] theorem popCtl_keepsQueues (h : w.KeptIn s.queues) : w.KeptIn (popCtl s).queues :=
  h.trans ⟨fun hn => hn.sublist (List.tail_sublist _), id, id, id, id⟩

@[simp] theorem reportPosted_keepsQueues (c : Chan) (h : w.KeptIn s.queues) : w.KeptIn (reportPosted c s).queues := by
  unfold reportPosted
  split <;> simp [h]

@[simp] theorem creditLoaded_keepsQueues (c : Chan) (g : BitVec 8) (k : Nat) (h : w.KeptIn s.queues) :
    w.KeptIn (creditLoaded c g k s).queues := by
  simp [creditLoaded, h]

@[simp] theorem refreshExpires_keepsQueues (h : w.KeptIn s.queues) : w.KeptIn (refreshExpires s).queues := by
  have requested : w.KeptIn (refreshCredits s).queues := by
    unfold refreshCredits
    exact keepsQueues_foldl (fun s c hs => by split <;> simp [hs]) _ h
  unfold refreshExpires
  dsimp only
  split <;> simp [h, requested]

@[simp] theorem creditUpChan_keepsQueues (s : State) (c : Chan) (h : w.KeptIn s.queues) :
    w.KeptIn (creditUpChan s c).queues := by
  unfold creditUpChan
  split <;> simp [h]

@[simp] theorem creditLinkUp_keepsQueues (h : w.KeptIn s.queues) : w.KeptIn (creditLinkUp s).queues := by
  have raised : w.KeptIn (allChans.foldl creditUpChan s).queues := keepsQueues_foldl creditUpChan_keepsQueues _ h
  unfold creditLinkUp
  simp [raised]

@[simp] theorem clearQueued_queues (c : Chan) : (clearQueued c s).queues = s.queues := by rfl

/-! ### The Capture Unit -/

@[simp] theorem presentRead_queues : (presentRead s).queues = s.queues := by rfl
@[simp] theorem passTransmit_queues (c : Chan) : (passTransmit c s).queues = s.queues := by rfl
@[simp] theorem recordCommit_queues (c : Chan) (i len : Nat) (notify : Bool) :
    (recordCommit c i len notify s).queues = s.queues := by rfl
@[simp] theorem captureWord_queues (c : Chan) (i off : Nat) (be : BitVec 4) (d : Word) :
    (captureWord c i off be d s).queues = s.queues := by rfl
@[simp] theorem setChan_queues (c : Chan) (st : ChanState) : (setChan c st s).queues = s.queues := by rfl
@[simp] theorem finishDropped_queues (b : Buf) (d : Drop) : (finishDropped b d s).queues = s.queues := by rfl

@[simp] theorem dropJob_queues (b : Buf) (d : Drop) : (dropJob b d s).queues = s.queues :=
  (dropJob_works s b d).captures.queues

@[simp] theorem startWriteback_queues : (startWriteback s).queues = s.queues := (startWriteback_captures s).queues

@[simp] theorem releaseSlotBuf_queues (c : Chan) (i : Nat) : (releaseSlotBuf c i s).queues = s.queues :=
  (releaseSlotBuf_works s c i).captures.queues

@[simp] theorem completeSlot_queues (c : Chan) (i : Nat) (st : Status) (sent : Option SentInfo) :
    (completeSlot c i st sent s).queues = s.queues := (completeSlot_captures s c i st sent).queues

@[simp] theorem cancelCaptureRefetch_queues : (cancelCaptureRefetch s).queues = s.queues :=
  (cancelCaptureRefetch_captures s).queues

@[simp] theorem settleClosed_queues (c : Chan) : (settleClosed c s).queues = s.queues := by
  unfold settleClosed
  generalize s.cap.rings[c].slots.length = n
  induction n generalizing s with
  | zero => rfl
  | succ n ih =>
    unfold drainClosed
    split <;> simp [ih]

@[simp] theorem takeCommit_keepsQueues (c : Chan) (i len : Nat) (notify : Bool) (h : w.KeptIn s.queues) :
    w.KeptIn (takeCommit c i len notify s).queues := by
  unfold takeCommit rejectCommit acceptCommit
  dsimp only
  (repeat' split) <;> simp [h]

@[simp] theorem planReads_queues (refetch : Bool) (c : Chan) (i len : Nat) (b : Buf) :
    (planReads refetch c i len b s).queues = s.queues := by
  unfold planReads
  split <;> rfl

@[simp] theorem beginStaging_queues (c : Chan) : (beginStaging c s).queues = s.queues := by
  unfold beginStaging
  dsimp only
  (repeat' split) <;> simp

@[simp] theorem grantRefetch_queues : (grantRefetch s).queues = s.queues := by
  unfold grantRefetch
  (repeat' split) <;> simp

@[simp] theorem acceptRead_queues (j : ReadJob) (r : DevReq) : (acceptRead j r s).queues = s.queues := by
  unfold acceptRead
  dsimp only
  split <;> rfl

@[simp] theorem endStagingRead_keepsQueues (b : Buf) (e : AccessEnd) (r : DevReq) (h : w.KeptIn s.queues) :
    w.KeptIn (endStagingRead b e r s).queues := by
  unfold endStagingRead faultStaging postFault
  (repeat' split) <;> simp [h]

@[simp] theorem finishOutDrain_queues (c : Chan) : (finishOutDrain c s).queues = s.queues := by
  unfold finishOutDrain
  split <;> rfl

@[simp] theorem stopOutbound_queues (c : Chan) (cfg : ChanCfg) : (stopOutbound c cfg s).queues = s.queues := by
  have emptied (s : State) (i : Nat) : (emptyFilling c s i).queues = s.queues := by
    unfold emptyFilling
    (repeat' split) <;> simp
  have stopped (s : State) (i : Nat) : (stopSlot c s i).queues = s.queues := by
    unfold stopSlot
    (repeat' split) <;> simp
  simp [stopOutbound, queues_foldl emptied, queues_foldl stopped]

@[simp] theorem captureReset_queues : (captureReset s).queues = s.queues := by
  have slot (c : Chan) (s : State) (i : Nat) : (resetSlot c s i).queues = s.queues := by
    unfold resetSlot
    dsimp only
    (repeat' split) <;> simp
  have chan (s : State) (c : Chan) : (resetChan s c).queues = s.queues := queues_foldl (slot c) _ s
  simp [captureReset, queues_foldl chan]

@[simp] theorem endWbHeader_keepsQueues (e : AccessEnd) (r : DevReq) (h : w.KeptIn s.queues) :
    w.KeptIn (endWbHeader e r s).queues := by
  unfold endWbHeader toWord0
  (repeat' split) <;> simp [h]

@[simp] theorem endWbWord0_keepsQueues (e : AccessEnd) (r : DevReq) (h : w.KeptIn s.queues) :
    w.KeptIn (endWbWord0 e r s).queues := by
  unfold endWbWord0 returnOut postDone countReturned
  (repeat' split) <;> simp [h]

/-! ### The Link Controller -/

@[simp] theorem callStatus_queues : (callStatus s).queues = s.queues := by rfl
@[simp] theorem setRx_queues (rx : LaneRx) : (setRx rx s).queues = s.queues := by rfl

@[simp] theorem statusEnd_keepsQueues (e : AccessEnd) (r : DevReq) (h : w.KeptIn s.queues) :
    w.KeptIn (statusEnd e r s).queues := by
  unfold statusEnd
  dsimp only
  split <;> simp [h]

@[simp] theorem trySync_queues : (trySync s).queues = s.queues := by
  unfold trySync
  split <;> rfl

@[simp] theorem acknowledge_queues : (acknowledge s).queues = s.queues := by
  unfold acknowledge
  dsimp only
  split <;> simp

@[simp] theorem linkReset_keepsQueues (cause : Cause) (h : w.KeptIn s.queues) :
    w.KeptIn (linkReset cause s).queues := by
  have posted : w.KeptIn (postDown cause (count Counters.linkReset s)).queues := by
    unfold postDown
    split <;> simp [h]
  exact posted

@[simp] theorem reportReset_keepsQueues (cause : Cause) (h : w.KeptIn s.queues) :
    w.KeptIn (reportReset cause s).queues := by
  unfold reportReset
  split <;> simp [h]

@[simp] theorem enterUp_keepsQueues (h : w.KeptIn s.queues) : w.KeptIn (enterUp s).queues := by
  unfold enterUp
  rw [callStatus_queues]
  exact creditLinkUp_keepsQueues (post_keepsQueues _ _ _ _ h)

@[simp] theorem initArrives_keepsQueues (ws : List LinkWord) (h : w.KeptIn s.queues) :
    w.KeptIn (initArrives ws s).queues := by
  unfold initArrives takeInit
  dsimp only
  (repeat' split) <;> simp [h]

@[simp] theorem startEnable_queues : (startEnable s).queues = s.queues := by
  unfold startEnable
  split <;> rfl

@[simp] theorem startDisable_keepsQueues (h : w.KeptIn s.queues) : w.KeptIn (startDisable s).queues := by
  unfold startDisable
  split <;> simp [h]

@[simp] theorem linkRecordEnd_keepsQueues (e : AccessEnd) (r : DevReq) (h : w.KeptIn s.queues) :
    w.KeptIn (linkRecordEnd e r s).queues := by
  unfold linkRecordEnd installLink driveLane postFault
  dsimp only
  (repeat' split) <;> simp [h]

@[simp] theorem lockFound_queues (ws : List LinkWord) : (lockFound ws s).queues = s.queues := by
  unfold lockFound
  split <;> simp

@[simp] theorem lockLost_keepsQueues (ws : List LinkWord) (h : w.KeptIn s.queues) :
    w.KeptIn (lockLost ws s).queues := by
  unfold lockLost
  dsimp only
  (repeat' split) <;> simp [h]

@[simp] theorem initTimerExpires_queues : (initTimerExpires s).queues = s.queues := by
  unfold initTimerExpires
  split <;> rfl

@[simp] theorem syncTimerExpires_keepsQueues (h : w.KeptIn s.queues) : w.KeptIn (syncTimerExpires s).queues := by
  unfold syncTimerExpires
  split <;> simp [h]

/-! ### The Transmit Engine: sends (R107, R108, R114) -/

@[simp] theorem transmit_queues (f : Frame) (b : Option Buf) : (transmit f b s).queues = s.queues := by rfl
@[simp] theorem handTransmit_queues (a : TxArrival) : (handTransmit a s).queues = s.queues := by rfl
@[simp] theorem popTransmit_queues : (popTransmit s).queues = s.queues := by rfl
@[simp] theorem resetBatch_queues : (resetBatch s).queues = s.queues := by rfl
@[simp] theorem requestRefetch_queues (x : ReplayEntry) : (requestRefetch x s).queues = s.queues := by rfl
@[simp] theorem haltPass_queues : (haltPass s).queues = s.queues := by rfl
@[simp] theorem timerAfterRemoval_queues : (timerAfterRemoval s).queues = s.queues := by rfl

@[simp] theorem cancelRefetch_queues : (cancelRefetch s).queues = s.queues := (cancelRefetch_completes s).queues

@[simp] theorem restOn_keepsQueues (x : ReplayEntry) (h : w.KeptIn s.queues) : w.KeptIn (restOn x s).queues := by
  unfold restOn retryLimitReached
  (repeat' split) <;> simp [h]

@[simp] theorem movePass_keepsQueues (x : ReplayEntry) (h : w.KeptIn s.queues) : w.KeptIn (movePass x s).queues := by
  unfold movePass
  dsimp only
  split <;> simp [h]

@[simp] theorem startPass_keepsQueues (x : ReplayEntry) (h : w.KeptIn s.queues) :
    w.KeptIn (startPass x s).queues := by
  simp [startPass, h]

@[simp] theorem sendInitFrame_queues : (sendInitFrame s).queues = s.queues := by
  unfold sendInitFrame
  split <;> rfl

@[simp] theorem sendAckFrame_keepsQueues (h : w.KeptIn s.queues) : w.KeptIn (sendAckFrame s).queues := by
  unfold sendAckFrame
  split <;> simp [h]

@[simp] theorem sendNakFrame_keepsQueues (h : w.KeptIn s.queues) : w.KeptIn (sendNakFrame s).queues := by
  unfold sendNakFrame
  split <;> simp [h]

@[simp] theorem sendCreditFrame_keepsQueues (h : w.KeptIn s.queues) : w.KeptIn (sendCreditFrame s).queues := by
  unfold sendCreditFrame
  (repeat' split) <;> simp [h]

/-- A new frame is taken only below the replay limit (R108). -/
theorem firstTurn?_room {c : Chan} {b : Buf} (h : firstTurn? s = some (c, b)) : s.tx.replay.length < 32 := by
  by_cases ht : s.firstTurn
  · obtain ⟨-, -, -, -, -, hr⟩ := ht
    exact hr
  · rw [firstTurn?_other ht] at h
    cases h

/-- Its entry has the next sequence, and joins at the tail (R107, R108). -/
@[simp] theorem firstSendFrame_keepsQueues (h : w.KeptIn s.queues) : w.KeptIn (firstSendFrame s).queues := by
  unfold firstSendFrame
  split
  · next c b ht =>
    refine h.trans ⟨id, id, id, fun _ => ?_, consecutive_append (x := newEntry c s) rfl⟩
    have hr := firstTurn?_room ht
    simpa [State.queues, sendNew, transmit, TransmitEngine.takeNew] using hr
  · exact h

theorem advancePass_keepsQueues (q : Seq) (h : w.KeptIn s.queues) : w.KeptIn (advancePass q s).queues := by
  unfold advancePass
  split <;> simp [h]

/-- A resend changes an entry's send count alone (R114). -/
@[simp] theorem resendFrame_keepsQueues (h : w.KeptIn s.queues) : w.KeptIn (resendFrame s).queues := by
  unfold resendFrame
  split
  · refine advancePass_keepsQueues _ (h.trans ⟨id, id, id, fun hl => (List.length_map _).trans_le hl, fun ho => ?_⟩)
    exact consecutive_map (fun x => by split <;> rfl) ho
  · exact h

@[simp] theorem endSend_queues (how : SendEnd) : (endSend how s).queues = s.queues := by
  unfold endSend reportEnd driveLane
  (repeat' split) <;> rfl

/-! ### The Transmit Engine: ACK, NAK, the ack timer (R110 to R117) -/

@[simp] theorem adjustPass_keepsQueues (h : w.KeptIn s.queues) : w.KeptIn (adjustPass s).queues := by
  unfold adjustPass
  (repeat' split) <;> simp [h]

/-- The entries that an ACK leaves are the last ones of the list, marked (R110). -/
@[simp] theorem coverAck_keepsQueues (q : Seq) (rs : List RefusalEntry) (h : w.KeptIn s.queues) :
    w.KeptIn (coverAck q rs s).queues := by
  have hk := splitThrough_suffix q (markAll rs s.tx.replay)
  rw [markAll_eq] at hk
  refine adjustPass_keepsQueues ?_
  rw [timerAfterRemoval_queues, (foldl_completeEntry_leaves _ _).queues, markAll_eq]
  refine h.trans ⟨id, id, id, fun hl => ?_, fun ho => consecutive_suffix hk ?_⟩
  · exact (List.IsSuffix.length_le hk).trans ((List.length_map _).trans_le hl)
  · exact consecutive_map (f := ReplayEntry.markedBy rs) (fun _ => rfl) ho

@[simp] theorem ackTaken_keepsQueues (h : w.KeptIn s.queues) : w.KeptIn (ackTaken s).queues := by
  unfold ackTaken takeAck
  (repeat' split) <;> simp [h]

@[simp] theorem nakTaken_keepsQueues (h : w.KeptIn s.queues) : w.KeptIn (nakTaken s).queues := by
  unfold nakTaken takeNak coverNak
  dsimp only
  (repeat' split) <;> simp [h]

@[simp] theorem ackArrives_queues (ws : List LinkWord) : (ackArrives ws s).queues = s.queues := by
  unfold ackArrives
  split <;> simp

@[simp] theorem nakArrives_queues (ws : List LinkWord) : (nakArrives ws s).queues = s.queues := by
  unfold nakArrives
  split <;> simp

@[simp] theorem ackTimerTurn_keepsQueues (h : w.KeptIn s.queues) : w.KeptIn (ackTimerTurn s).queues := by
  unfold ackTimerTurn ackTimerExpires expiryPass
  dsimp only
  (repeat' split) <;> simp [h]

@[simp] theorem endRefetchRead_keepsQueues (b : Buf) (e : AccessEnd) (r : DevReq) (h : w.KeptIn s.queues) :
    w.KeptIn (endRefetchRead b e r s).queues := by
  unfold endRefetchRead faultRefetch postFault
  dsimp only
  (repeat' split) <;> simp [h]

/-- A link reset empties the control frame queue and the replay list (R126). -/
@[simp] theorem transmitNotice_keepsQueues (h : w.KeptIn s.queues) : w.KeptIn (transmitNotice s).queues := by
  by_cases hn : s.link.txNotices = 0
  · rwa [transmitNotice, if_pos hn]
  · rw [transmitNotice_eq hn, acknowledge_queues]
    have he : s.entriesLost.queues = s.transmitNoticed.queues := entriesLost_completes.queues
    have hev : s.entriesLost.ev = s.ev := by rw [entriesLost_completes]; rfl
    have hland : s.entriesLost.land = s.land := by rw [entriesLost_completes]; rfl
    have htx : s.entriesLost.tx.replay = [] := by rw [entriesLost_tx]
    refine h.trans ⟨fun _ => List.nodup_nil, ?_, ?_, fun _ => ?_, fun _ => ?_⟩
    · simp only [State.queues, State.transmitCleared, hev]; exact id
    · simp only [State.queues, State.transmitCleared, hland]; exact id
    · simp [State.queues, State.transmitCleared, htx]
    · simp only [State.queues, State.transmitCleared, htx]; trivial

/-! ### The Landing Engine (R145, R146, R160) -/

@[simp] theorem handLanding_queues (a : LandArrival) : (handLanding a s).queues = s.queues := by rfl
@[simp] theorem popLanding_queues : (popLanding s).queues = s.queues := by rfl
@[simp] theorem setInState_queues (c : Chan) (i : Nat) (st : InState) :
    (setInState c i st s).queues = s.queues := by rfl
@[simp] theorem returnPosted_queues (c : Chan) (i : Nat) : (returnPosted c i s).queues = s.queues := by rfl

/-- A change of the Landing Engine that does not take its queue over the bound. -/
theorem keepsQueues_landing (h : w.KeptIn s.queues) (v : LandingEngine)
    (hv : w.landing ≤ 4 → v.queue.length ≤ 4) : w.KeptIn (State.queues { s with land := v }) :=
  ⟨h.control, h.events, hv, h.replay, h.order⟩

@[simp] theorem reportPostedTimes_keepsQueues (c : Chan) (n : Nat) (h : w.KeptIn s.queues) :
    w.KeptIn (reportPostedTimes c n s).queues := by
  induction n generalizing s with
  | zero => exact h
  | succ n ih => exact ih (reportPosted_keepsQueues c h)

@[simp] theorem takeRelease_keepsQueues (c : Chan) (i : Nat) (notify : Bool) (h : w.KeptIn s.queues) :
    w.KeptIn (takeRelease c i notify s).queues :=
  reportPostedTimes_keepsQueues c _ h

@[simp] theorem askNak_keepsQueues (h : w.KeptIn s.queues) : w.KeptIn (askNak s).queues := by
  unfold askNak
  split <;> simp [h]

@[simp] theorem batchDisposal_keepsQueues (h : w.KeptIn s.queues) : w.KeptIn (batchDisposal s).queues := by
  unfold batchDisposal LandingEngine.raiseBatch
  dsimp only
  split <;> simp [h]

@[simp] theorem dispose_keepsQueues (x : LandEntry) (reason : Option Reason) (h : w.KeptIn s.queues) :
    w.KeptIn (dispose x reason s).queues := by
  unfold dispose listRefusal
  (repeat' split)
  · exact batchDisposal_keepsQueues h
  · exact h
  · exact batchDisposal_keepsQueues (post_keepsQueues _ _ _ _ h)
  · exact h

/-- The entry at the head changes, and none is added to a queue. -/
@[simp] theorem setHead_keepsQueues (e : LandEntry) (l : Landing) (h : w.KeptIn s.queues) :
    w.KeptIn (setHead e l s).queues :=
  keepsQueues_landing h _ fun hw => by
    have hs : s.land.queue.length ≤ 4 := h.landing hw
    rw [List.length_cons, List.length_tail]
    omega

@[simp] theorem toPayload_keepsQueues (e : LandEntry) (l : Landing) (bursts : List Burst) (h : w.KeptIn s.queues) :
    w.KeptIn (toPayload e l bursts s).queues := by
  unfold toPayload toHeader
  split <;> simp [h]

/-- The queue that is left when its next entries have come to their turn is no longer than it was. -/
theorem runQueue_keepsQueues (q : List LandEntry) (hq : w.landing ≤ 4 → q.length ≤ 4) (h : w.KeptIn s.queues) :
    w.KeptIn (runQueue q s).queues := by
  induction q generalizing s with
  | nil => exact keepsQueues_landing h _ hq
  | cons e rest ih =>
    have left : w.KeptIn (State.queues { s with land := { s.land with queue := e :: rest } }) :=
      keepsQueues_landing h _ hq
    unfold runQueue startLanding
    split
    · exact ih (fun hw => Nat.le_of_succ_le (hq hw)) (dispose_keepsQueues e _ left)
    · dsimp only
      split <;> simp [left]

theorem enqueue_keepsQueues (e : LandEntry) (hl : s.land.queue.length < 4) (h : w.KeptIn s.queues) :
    w.KeptIn (enqueue e s).queues := by
  by_cases hq : s.land.queue = []
  · rw [enqueue_alone hq]
    exact runQueue_keepsQueues [e] (fun _ => (by decide : 1 ≤ 4)) h
  · rw [enqueue_behind hq]
    exact keepsQueues_landing h _ fun _ => by
      rw [List.length_append]
      exact hl

theorem accept_keepsQueues (c : Chan) (q : Seq) (user : Word) (payload : List Byte) (hl : s.land.queue.length < 4)
    (h : w.KeptIn s.queues) : w.KeptIn (accept c q user payload s).queues := by
  cases hr : refusalOf? c payload.length s.accepting with
  | some r =>
    rw [accept_refused hr]
    split <;> exact enqueue_keepsQueues _ hl h
  | none =>
    rw [accept_lands hr]
    exact enqueue_keepsQueues _ hl h

/-- A frame is accepted only while a place is free (R120). -/
@[simp] theorem takeData_keepsQueues (c : Chan) (q : Seq) (user : Word) (payload : List Byte) (h : w.KeptIn s.queues) :
    w.KeptIn (takeData c q user payload s).queues := by
  by_cases hq : q = s.land.expected
  · rw [takeData_expected hq]
    split
    · next hl => exact accept_keepsQueues c q user payload hl h
    · exact askNak_keepsQueues h
  · rw [takeData_other hq]
    (repeat' split) <;> simp [h]

@[simp] theorem dataTaken_keepsQueues (h : w.KeptIn s.queues) : w.KeptIn (dataTaken s).queues := by
  unfold dataTaken takeArrival
  (repeat' split) <;> simp [h]

@[simp] theorem dataArrives_queues (ws : List LinkWord) : (dataArrives ws s).queues = s.queues := by
  unfold dataArrives
  split <;> simp

@[simp] theorem damaged_keepsQueues (ws : List LinkWord) (h : w.KeptIn s.queues) : w.KeptIn (damaged ws s).queues := by
  unfold damaged takeDamage reportDamage
  dsimp only
  (repeat' split) <;> simp [h]

@[simp] theorem ackDelayExpires_keepsQueues (h : w.KeptIn s.queues) : w.KeptIn (ackDelayExpires s).queues := by
  unfold ackDelayExpires
  split <;> simp [h]

@[simp] theorem leaveLanding_queues (c : Chan) (i : Nat) : (leaveLanding c i s).queues = s.queues := by
  unfold leaveLanding
  (repeat' split) <;> rfl

@[simp] theorem guardTurn_keepsQueues (h : w.KeptIn s.queues) : w.KeptIn (guardTurn s).queues := by
  unfold guardTurn guardExpires
  dsimp only
  (repeat' split) <;> simp [h]

@[simp] theorem finishInDrain_queues (c : Chan) : (finishInDrain c s).queues = s.queues := by
  unfold finishInDrain
  split <;> rfl

@[simp] theorem endLandPayload_keepsQueues (e : AccessEnd) (r : DevReq) (h : w.KeptIn s.queues) :
    w.KeptIn (endLandPayload e r s).queues := by
  unfold endLandPayload
  split <;> simp [h]

@[simp] theorem endLandHeader_keepsQueues (e : AccessEnd) (r : DevReq) (h : w.KeptIn s.queues) :
    w.KeptIn (endLandHeader e r s).queues := by
  unfold endLandHeader toControl
  split <;> simp [h]

theorem disposeLanding_keepsQueues (x : LandEntry) (l : Landing) (h : w.KeptIn s.queues) :
    w.KeptIn (disposeLanding x l s).queues := by
  unfold disposeLanding
  split <;> simp [h]

theorem returnSlot_keepsQueues (x : LandEntry) (l : Landing) (st : Status) (h : w.KeptIn s.queues) :
    w.KeptIn (returnSlot x l st s).queues := by
  unfold returnSlot
  dsimp only
  (repeat' split) <;> simp [h]

/-- The entry at the head leaves, and the next ones come to their turn. -/
@[simp] theorem endLandWord0_keepsQueues (e : AccessEnd) (r : DevReq) (h : w.KeptIn s.queues) :
    w.KeptIn (endLandWord0 e r s).queues := by
  unfold endLandWord0
  split
  · next x l hx =>
    dsimp only
    rw [finishInDrain_queues]
    have returned : w.KeptIn (returnSlot x l l.status (disposeLanding x (l.afterWrite e) (leaveLanding x.chan l.slot
        (setInState x.chan l.slot .host (postFaultIf e x.chan .landing r.addr s))))).queues :=
      returnSlot_keepsQueues x l _ (disposeLanding_keepsQueues x _ (by simp [h]))
    refine runQueue_keepsQueues _ (fun hw => ?_) returned
    rw [List.length_tail]
    exact (Nat.sub_le _ 1).trans (returned.landing hw)
  · exact h

theorem discardEntry_keepsQueues (s : State) (e : LandEntry) (h : w.KeptIn s.queues) :
    w.KeptIn (discardEntry s e).queues := by
  unfold discardEntry
  split <;> simp [h]

/-- A link reset keeps at most the head of the landing queue (R160). -/
@[simp] theorem landingNotice_keepsQueues (h : w.KeptIn s.queues) : w.KeptIn (landingNotice s).queues := by
  have kept : (keptEntries s.land.queue).length ≤ 1 := by
    unfold keptEntries
    split
    · exact Nat.zero_le 1
    · split
      · exact le_rfl
      · exact Nat.zero_le 1
  unfold landingNotice landingReset
  split
  · exact h
  · rw [acknowledge_queues, queues_foldl fun s c => finishInDrain_queues c]
    exact keepsQueues_foldl discardEntry_keepsQueues _
      ⟨h.control, h.events, fun _ => kept.trans (by decide), h.replay, h.order⟩

/-! ### Words, commands and records -/

@[simp] theorem activate_keepsQueues (n : Chan) (cfg : ChanCfg) (h : w.KeptIn s.queues) :
    w.KeptIn (activate n cfg s).queues := by
  unfold activate activateOut activateIn
  split
  · simp [h]
  · rw [endCommand_queues]
    exact creditLoaded_keepsQueues n _ _ h

@[simp] theorem endLoad_keepsQueues (n : Chan) (e : AccessEnd) (r : DevReq) (h : w.KeptIn s.queues) :
    w.KeptIn (endLoad n e r s).queues := by
  unfold endLoad judgeRecord postFault
  (repeat' split) <;> simp [h]

@[simp] theorem startStop_keepsQueues (c : Command) (h : w.KeptIn s.queues) : w.KeptIn (startStop c s).queues := by
  unfold startStop stopInbound
  (repeat' split) <;> simp [h]

@[simp] theorem execute_keepsQueues (c : Command) (h : w.KeptIn s.queues) : w.KeptIn (execute c s).queues := by
  unfold execute startCommand startLoad
  (repeat' split) <;> simp [h]

@[simp] theorem endDetail_keepsQueues (e : AccessEnd) (r : DevReq) (h : w.KeptIn s.queues) :
    w.KeptIn (endDetail e r s).queues := by
  unfold endDetail
  dsimp only
  (repeat' split) <;> simp [h]

@[simp] theorem endResponse_keepsQueues (e : AccessEnd) (r : DevReq) (h : w.KeptIn s.queues) :
    w.KeptIn (endResponse e r s).queues := by
  unfold endResponse
  dsimp only
  split <;> simp [h]

theorem latchRecordWord_keepsQueues (s : State) (x : RecordWord) (h : w.KeptIn s.queues) :
    w.KeptIn (latchRecordWord s x).queues := by
  unfold latchRecordWord afterLatch
  (repeat' split) <;> simp [h]

theorem slotRecordWord_keepsQueues (p : SlotPass) (x : RecordWord) (h : w.KeptIn p.state.queues) :
    w.KeptIn (slotRecordWord p x).state.queues := by
  have word (c : Chan) (i off : Nat) : w.KeptIn (p.word c i off x).state.queues := by
    unfold SlotPass.word SlotPass.violate handover duplicate violation plainSlotWord
    (repeat' split) <;> simp [h]
  unfold slotRecordWord
  split
  · exact word _ _ _
  · exact word _ _ _
  · exact h
  · exact h

theorem applySlots_keepsQueues (xs : List RecordWord) (h : w.KeptIn s.queues) : w.KeptIn (applySlots xs s).queues := by
  have pass (p : SlotPass) (hp : w.KeptIn p.state.queues) : w.KeptIn (xs.foldl slotRecordWord p).state.queues := by
    induction xs generalizing p with
    | nil => exact hp
    | cons x xs ih => exact ih _ (slotRecordWord_keepsQueues p x hp)
  exact pass ⟨s, []⟩ h

@[simp] theorem applyRecord_keepsQueues (r : WriteRecord) (h : w.KeptIn s.queues) :
    w.KeptIn (applyRecord r s).queues := by
  have taken : w.KeptIn (applySlots r.words (applyLatches r.words s)).queues :=
    applySlots_keepsQueues _ (keepsQueues_foldl latchRecordWord_keepsQueues _ h)
  unfold applyRecord applyCommand commandArrival
  (repeat' split) <;> simp [h, taken]

/-! ### Notices and CREDITs -/

@[simp] theorem captureNotice_queues : (captureNotice s).queues = s.queues := by
  unfold captureNotice
  split <;> simp

@[simp] theorem creditNotice_queues : (creditNotice s).queues = s.queues := by
  unfold creditNotice
  split <;> simp

@[simp] theorem handCredit_queues (a : CreditArrival) : (handCredit a s).queues = s.queues := by rfl
@[simp] theorem popCredit_queues : (popCredit s).queues = s.queues := by rfl

@[simp] theorem creditArrives_queues (ws : List LinkWord) : (creditArrives ws s).queues = s.queues := by
  unfold creditArrives
  split <;> simp

@[simp] theorem creditTaken_queues : (creditTaken s).queues = s.queues := by
  have settled (d : Chan) (s : State) : (settleDest d s).queues = s.queues :=
    queues_foldl (fun s c => by split <;> simp) _ s
  unfold creditTaken takeCredit
  dsimp only
  (repeat' split) <;> simp [settled]

/-! ### The host port, the memory port and time -/

@[simp] theorem arriveNext_queues : (arriveNext s).queues = s.queues := by
  unfold arriveNext arrive
  (repeat' split) <;> rfl

@[simp] theorem presentAccess_queues (a : HostAccess) : (presentAccess a s).queues = s.queues := by
  unfold presentAccess arrive
  (repeat' split) <;> rfl

/-- A grant marks the landing at the head begun, and adds no entry (R147). -/
theorem markBegun_length (q : List LandEntry) : (markBegun q).length = q.length := by
  unfold markBegun
  split
  · rfl
  · split <;> rfl

@[simp] theorem arbitrate_queues : (arbitrate s).queues = s.queues := by
  have granted (r : DevReq) : (grantDevice r s).queues = s.queues := by
    unfold grantDevice
    split
    · simp only [State.queues, markBegun_length]
    · rfl
  unfold arbitrate
  dsimp only
  (repeat' split)
  · rfl
  · rfl
  · exact granted _
  · rfl

@[simp] theorem endTransfer_queues (a : HostAccess) (e : AccessEnd) (data : List Word) :
    (endTransfer a e data s).queues = s.queues := arriveNext_queues

@[simp] theorem hostEnd_queues (e : AccessEnd) : (hostEnd e s).queues = s.queues := by
  unfold hostEnd
  split <;> simp

@[simp] theorem deviceEnd_keepsQueues (mine : Purpose → Bool) (e : AccessEnd) (h : w.KeptIn s.queues) :
    w.KeptIn (deviceEnd mine e s).queues := by
  have ended (r : DevReq) : w.KeptIn (endDevice r e s).queues := h
  unfold deviceEnd atDeviceEnd
  (repeat' split)
  · unfold ownerGoesOn
    split <;> simp [ended]
  all_goals exact h

@[simp] theorem responseTimeout_keepsQueues (kept : List Bool) (answered : List Word) (h : w.KeptIn s.queues) :
    w.KeptIn (responseTimeout kept answered s).queues := by
  unfold responseTimeout
  (repeat' split) <;> simp [h]

@[simp] theorem takeRecord_keepsQueues (mine : Matcher → WriteRecord → Bool) (h : w.KeptIn s.queues) :
    w.KeptIn (takeRecord mine s).queues := by
  unfold takeRecord
  (repeat' split) <;> simp [h]

@[simp] theorem tick_queues : (tick s).queues = s.queues := by
  unfold tick
  split <;> rfl

end

/-! ### Every step (R105, R108, R146, R163) -/

theorem live_keepsQueues {f : State → State} {s t : State}
    (hf : ∀ w : Queues, w.KeptIn s.queues → w.KeptIn (f s).queues) (h : live f s = .next t) :
    s.queues.KeptIn t.queues := by
  cases h
  split
  · exact .refl _
  · exact hf _ (.refl _)

theorem reset_keepsQueues (m : List Host.Cell) (f : Nat) (q : List Instr) (a : Queues) :
    a.KeptIn (State.queues { State.reset with mem := m, free := f, pending := q }) :=
  ⟨fun _ => List.nodup_nil, fun _ => Nat.zero_le 8, fun _ => Nat.zero_le 4, fun _ => Nat.zero_le 32, fun _ => trivial⟩

theorem exec_keepsQueues {c : Instr} {s t : State} (h : exec c s = .next t) : s.queues.KeptIn t.queues := by
  cases c with
  | pinReset kept => cases h; exact reset_keepsQueues _ _ _ _
  | resetNRelease straps =>
    cases h
    split
    · rw [arriveNext_queues]
      exact .refl s.queues
    · exact .refl _
  | hostReadArrival addr enables =>
    simp only [exec, execHostReadArrival] at h
    split at h <;> cases h
    simp
  | hostWriteArrival addr words =>
    simp only [exec, execHostWriteArrival] at h
    split at h <;> cases h
    simp
  | ackReceived how | nakReceived how | dataReceived how | creditReceived how =>
    cases how <;> exact live_keepsQueues (fun w hs => by simp [hs]) h
  | _ => exact live_keepsQueues (fun w hs => by simp [hs]) h

theorem step_keepsQueues {s t : State} (h : step s = .next t) : s.queues.KeptIn t.queues := by
  unfold step at h
  split at h
  · cases h
    rw [tick_queues]
    exact .refl _
  · exact (exec_keepsQueues h : (s.withQueue _).queues.KeptIn t.queues)

/-- Settles O59: every operation keeps each law of the queues that holds where its step starts. -/
theorem queuesStayInOrder : Obligations.QueuesStayInOrder := by
  refine ⟨fun s t hs h => (step_keepsQueues h).control hs, fun s t hs h => ?_,
    fun s t hs h => (step_keepsQueues h).order hs⟩
  obtain ⟨events, landing, replay⟩ := hs
  have kept := step_keepsQueues h
  exact ⟨kept.events events, kept.landing landing, kept.replay replay⟩

end Sys2Proof.Machine

namespace Sys2Proof.Machine

/-! ## The pass position at rest, and RESEND (R104, R114, R116; log 30) -/

section
variable {s : State} {q : Seq} {x : ReplayEntry} {b : Buf}

theorem restOn_halts (h : s.link.retries < x.sends) : restOn x s =
    if s.link.state = .up then linkReset .retryLimit (haltPass s) else haltPass s := by
  rw [restOn, if_pos (Nat.succ_le_of_lt h), retryLimitReached, reportReset_eq]
  rfl

theorem restOn_asked (h : x.sends ≤ s.link.retries) (ho : s.tx.refetch = some x.seq) : restOn x s = s := by
  rw [restOn, if_neg (Nat.not_le_of_lt (Nat.lt_succ_of_le h)), if_pos ho]

theorem restOn_asks (h : x.sends ≤ s.link.retries) (ho : s.tx.refetch ≠ some x.seq) :
    restOn x s = requestRefetch x s := by
  rw [restOn, if_neg (Nat.not_le_of_lt (Nat.lt_succ_of_le h)), if_neg ho]

/-- The raise of one entry leaves the next one as it is (R114). -/
theorem entry?_raise_next (t : TransmitEngine) (q : Seq) : (t.raise q).entry? (q + 1) = t.entry? (q + 1) := by
  have keeps (x : ReplayEntry) : (if x.seq = q then { x with sends := x.sends + 1 } else x).seq = x.seq := by
    split <;> rfl
  simp only [TransmitEngine.entry?, TransmitEngine.raise, List.find?_map, Function.comp_def, keeps]
  cases h : t.replay.find? (fun x => decide (x.seq = q + 1)) with
  | none => rfl
  | some y =>
    have hy : y.seq = q + 1 := by simpa using List.find?_some h
    have hne : y.seq ≠ q := by rw [hy]; bv_omega
    rw [Option.map_some, if_neg hne]

/-- The refetched frame of the pass position goes next (R104). -/
theorem resendTurn?_turn {f : Refetch} (hs : s.tx.sending = none) (hi : s.link.initRequest = false)
    (hu : s.link.state = .up) (hq : s.tx.queue = []) (hp : s.tx.pass = some ⟨q, false⟩) (ho : s.tx.refetch = some q)
    (hx : s.tx.entry? q = some x) (hf : s.cap.refetch = some f) (hb : f.buf = some b)
    (hr : s.cap.bufs[b].state = .ready) : resendTurn? s = some (x, b) := by
  have turn : upTurn s = true := upTurn_iff.mpr ⟨hs, hi, hu⟩
  have ready : s.cap.refetched? = some b := by simp only [CaptureUnit.refetched?, hf, hb, hr, if_pos]
  simp [resendTurn?, turn, hq, hp, ho, hx, ready]

/-- The pass moves on to the next entry, or ends (R114). -/
theorem advancePass_ends (h : s.tx.entry? (q + 1) = none) :
    advancePass q s = { s with tx := { s.tx with pass := none } } := by
  simp only [advancePass, TransmitEngine.after?, h]

theorem advancePass_next (h : s.tx.entry? (q + 1) = some x) : advancePass q s = restOn x (s.passAt (q + 1)) := by
  simp only [advancePass, TransmitEngine.after?, h, entry?_seq h, State.passAt]

end

/-- Settles O43: the three cases of a pass position at rest; RESEND by what stands behind the pass position. -/
theorem resends : Obligations.Resends := by
  refine ⟨fun x s => ⟨restOn_halts, restOn_asked, restOn_asks⟩, ?_⟩
  · intro s q x b f cfg d on hs hi hu hq hp ho hx hf hb hr hcfg hd frame replay sent t
    have hseq := entry?_seq hx
    have hframe : dataFrame x.chan q x.length b s = frame := by rw [dataFrame, destOf_eq hcfg hd]
    have row : exec .resend s = .next (advancePass q (t s.tx.pass)) := by
      refine (live_on _ s on).trans ?_
      simp only [resendFrame, resendTurn?_turn hs hi hu hq hp ho hx hf hb hr, sendAgain, hseq, hframe, transmit_eq]
      rfl
    have next : (t s.tx.pass).tx.entry? (q + 1) = s.tx.entry? (q + 1) := entry?_raise_next s.tx q
    refine ⟨fun hn => ?_, fun y hy => ?_⟩
    · rw [row, advancePass_ends (next.trans hn)]
    · rw [row, advancePass_next (next.trans hy)]
      rfl

/-! ## Disposals (R118, R122 to R124, R150, R176; log 15) -/

/-- A disposal in UP raises the batch; the eighth one asks for an ACK (R124). -/
theorem batchDisposal_up {s : State} (h : s.link.state = .up) : batchDisposal s = { s with
    land := { s.land with
      batch := min (s.land.batch + 1) 255
      ackDelay := if s.land.batch = 0 then some s.link.ackDelayInterval else s.land.ackDelay }
    tx := { s.tx with
      queue := if s.land.batch = 7 ∧ CtlReq.ack ∉ s.tx.queue then s.tx.queue ++ [.ack] else s.tx.queue } } := by
  have eighth : min (s.land.batch + 1) 255 = 8 ↔ s.land.batch = 7 := by omega
  by_cases hb : s.land.batch = 7
  · have asks : (s.land.batch = 7 ∧ CtlReq.ack ∉ s.tx.queue) ↔ (s.link.state = .up ∧ CtlReq.ack ∉ s.tx.queue) := by
      rw [and_iff_right hb, and_iff_right h]
    simp only [asks]
    exact (if_pos (eighth.mpr hb)).trans (requestCtl_eq ..)
  · rw [if_neg fun hc => hb hc.1]
    exact if_neg (mt eighth.mp hb)

theorem ageRefusals_some (q : Seq) (r : RefusalEntry) (l : List RefusalEntry) :
    ageRefusals q (some r) l = ageRefusals q none (l ++ [r]) := by
  simp [ageRefusals]

/-- What leaves the refusal list is too old, and what is then at its head is not (R123). -/
theorem ageRefusals_splits (q : Seq) (l : List RefusalEntry) : ∃ old, l = old ++ ageRefusals q none l
    ∧ (∀ x ∈ old, 31 < (q - x.seq).toNat)
    ∧ ∀ x rest, ageRefusals q none l = x :: rest → (q - x.seq).toNat ≤ 31 := by
  have aged : ageRefusals q none l = l.dropWhile (fun x => !seqIn32Ending x.seq q) := by simp [ageRefusals]
  rw [aged]
  refine ⟨l.takeWhile (fun x => !seqIn32Ending x.seq q), List.takeWhile_append_dropWhile.symm, fun x hx => ?_,
    fun x rest hx => ?_⟩
  · simpa [seqIn32Ending] using List.mem_takeWhile_imp hx
  · have hh := List.head?_dropWhile_not (fun x => !seqIn32Ending x.seq q) l
    rw [hx] at hh
    simpa [seqIn32Ending] using hh

/-- Settles O48: outside UP; a landing and a refusal disposed of in UP; the refusal list aged. -/
theorem disposals : Obligations.Disposals := by
  refine ⟨fun e reason s => ?_, ageRefusals_splits⟩
  intro listed land batch queue
  refine ⟨fun hn => ⟨?_, ?_⟩, fun hu => ⟨?_, ?_⟩⟩
  · rintro rfl
    exact dispose_not_up e none s hn
  · rintro r rfl
    exact dispose_not_up e (some r) s hn
  · rintro rfl
    have up : s.link.isUp = true := decide_eq_true hu
    simp only [dispose, up, if_true]
    exact batchDisposal_up hu
  · rintro r rfl
    intro s1
    have up : s.link.isUp = true := decide_eq_true hu
    have hland : s.land.dispose e.seq (some ⟨e.seq, e.chan, r⟩) = land := by
      rw [LandingEngine.dispose, ageRefusals_some]
    have hs1 : s1.link.state = .up := hu
    simp only [dispose, up, if_true, listRefusal, hland]
    refine (congrArg (count _) (batchDisposal_up hs1)).trans ?_
    rfl

/-! ## Posted totals and CREDIT requests (R105, R129, R131, R140; log 33, log 26) -/

theorem requestCredit_not_up {c : Chan} {s : State} (h : s.link.state ≠ .up) : requestCredit c s = s := by
  simp [requestCredit, LinkController.isUp, h]

/-- A request in UP joins the queue unless the flag is set or a CREDIT for the channel waits (R105, R129). -/
theorem requestCredit_up {c : Chan} {s : State} (h : s.link.state = .up) : requestCredit c s = { s with
    cred := { s.cred with recv := s.cred.recv.set c { s.cred.recv[c] with queued := true } }
    tx := { s.tx with
      queue := if s.cred.recv[c].queued = false ∧ CtlReq.credit c ∉ s.tx.queue then s.tx.queue ++ [.credit c]
        else s.tx.queue } } := by
  simp [requestCredit, LinkController.isUp, CreditUnit.onRecv, h]

theorem reportPosted_other {c : Chan} {s : State} (h : s.link.state ≠ .up ∨ s.wm.isActive c = false) :
    reportPosted c s = s := by
  refine if_neg fun hc => ?_
  obtain ⟨hu, ha⟩ := Bool.and_eq_true_iff.mp hc
  rcases h with h | h
  · exact h (of_decide_eq_true hu)
  · exact absurd ha (ne_true_of_eq_false h)

theorem reportPosted_total {c : Chan} {s : State} {n : BitVec 16} (hu : s.link.state = .up)
    (ha : s.wm.isActive c = true) (hn : s.cred.recv[c].posted = .total n) : reportPosted c s = requestCredit c { s with
      cred := { s.cred with recv := s.cred.recv.set c { s.cred.recv[c] with posted := .total (n + 1) } } } := by
  refine (if_pos (Bool.and_eq_true_iff.mpr ⟨decide_eq_true hu, ha⟩)).trans ?_
  simp only [CreditUnit.onRecv, hn, Posted.next]

/-! ### Requests of all inbound channels

The refresh and the link-up both request a CREDIT for each inbound channel, after a change `g` of its receive record. -/

/-- A change of the receive record of a channel, given the Landing Engine. -/
abbrev RecvChange := LandingEngine → Chan → RecvRecord → RecvRecord

/-- The turn of one channel. -/
def askChan (g : RecvChange) (s : State) (c : Chan) : State :=
  if s.wm.isInbound c then requestCredit c { s with cred := s.cred.onRecv c (g s.land c) } else s

/-- The receive records and the control frame queue replaced. -/
def State.withCredits (s : State) (recv : Vector RecvRecord 16) (queue : List CtlReq) : State :=
  { s with cred := { s.cred with recv := recv }, tx := { s.tx with queue := queue } }

/-- The channel's CREDIT joins the queue (R105, R129). -/
def State.joinsCredit (s : State) (c : Chan) : Bool :=
  s.wm.isInbound c && !s.cred.recv[c].queued && decide (CtlReq.credit c ∉ s.tx.queue)

/-- The receive records when the channels of `l` have had their turn. -/
def State.askedRecv (g : RecvChange) (s : State) (l : List Chan) : Vector RecvRecord 16 :=
  Vector.ofFn fun c : Chan =>
    if c ∈ l ∧ s.wm.isInbound c = true then { g s.land c s.cred.recv[c] with queued := true } else s.cred.recv[c]

/-- The control frame queue when the channels of `l` have had their turn. -/
def State.askedQueue (s : State) (l : List Chan) : List CtlReq :=
  s.tx.queue ++ (l.filter s.joinsCredit).map CtlReq.credit

section
variable {g : RecvChange} {s : State} {l : List Chan} {c : Chan}

theorem askedRecv_get (c : Chan) : (s.askedRecv g l)[c] =
    if c ∈ l ∧ s.wm.isInbound c = true then { g s.land c s.cred.recv[c] with queued := true } else s.cred.recv[c] := by
  simp [State.askedRecv]

/-- A channel's turn changes its own record, if it is inbound. -/
theorem askedRecv_append : s.askedRecv g (l ++ [c]) = if s.wm.isInbound c = true then
      (s.askedRecv g l).set c { g s.land c s.cred.recv[c] with queued := true }
    else s.askedRecv g l := by
  refine Vector.ext fun k hk => ?_
  have before := askedRecv_get (g := g) (s := s) (l := l) ⟨k, hk⟩
  have after := askedRecv_get (g := g) (s := s) (l := l ++ [c]) ⟨k, hk⟩
  simp only [Fin.getElem_fin] at before after
  rw [after]
  by_cases hkc : c = ⟨k, hk⟩
  · subst hkc
    cases hi : s.wm.isInbound ⟨k, hk⟩ <;> simp [hi, before]
  · have hv : (c : Nat) ≠ k := fun h => hkc (Fin.ext h)
    cases hi : s.wm.isInbound c <;> simp [hv, Ne.symm hkc, before]

theorem askedQueue_append : s.askedQueue (l ++ [c]) =
    if s.joinsCredit c = true then s.askedQueue l ++ [.credit c] else s.askedQueue l := by
  cases h : s.joinsCredit c <;> simp [State.askedQueue, List.filter_append, h]

/-- The requests of other channels do not take a channel's place. -/
theorem credit_mem_askedQueue (hc : c ∉ l) : CtlReq.credit c ∈ s.askedQueue l ↔ CtlReq.credit c ∈ s.tx.queue := by
  simp [State.askedQueue, hc]

theorem askChan_outbound (hi : ¬ s.wm.isInbound c = true) : askChan g s c = s := if_neg hi

theorem askChan_inbound (hu : s.link.state = .up) (hg : ∀ u c r, (g u c r).queued = r.queued)
    (hi : s.wm.isInbound c = true) (recv : Vector RecvRecord 16) (queue : List CtlReq) :
    askChan g (s.withCredits recv queue) c = s.withCredits (recv.set c { g s.land c recv[c] with queued := true })
      (if recv[c].queued = false ∧ CtlReq.credit c ∉ queue then queue ++ [.credit c] else queue) := by
  refine (if_pos hi).trans ((requestCredit_up (by exact hu)).trans ?_)
  simp [State.withCredits, CreditUnit.onRecv, hg]

/-- One more channel's turn. -/
theorem askChan_asked (hu : s.link.state = .up) (hg : ∀ u c r, (g u c r).queued = r.queued) (hc : c ∉ l) :
    askChan g (s.withCredits (s.askedRecv g l) (s.askedQueue l)) c =
      s.withCredits (s.askedRecv g (l ++ [c])) (s.askedQueue (l ++ [c])) := by
  rw [askedRecv_append, askedQueue_append]
  by_cases hi : s.wm.isInbound c = true
  · have own : (s.askedRecv g l)[c] = s.cred.recv[c] := by rw [askedRecv_get, if_neg fun h => hc h.1]
    have joins : s.joinsCredit c = true ↔ s.cred.recv[c].queued = false ∧ CtlReq.credit c ∉ s.askedQueue l := by
      simp [State.joinsCredit, hi, credit_mem_askedQueue hc]
    rw [askChan_inbound hu hg hi, own, if_pos hi]
    simp only [joins]
  · have joins : ¬ s.joinsCredit c = true := by simp [State.joinsCredit, hi]
    rw [if_neg hi, if_neg joins]
    exact askChan_outbound hi

theorem foldl_askChan (hu : s.link.state = .up) (hg : ∀ u c r, (g u c r).queued = r.queued) (k : List Chan)
    (hn : (l ++ k).Nodup) : k.foldl (askChan g) (s.withCredits (s.askedRecv g l) (s.askedQueue l)) =
      s.withCredits (s.askedRecv g (l ++ k)) (s.askedQueue (l ++ k)) := by
  induction k generalizing l with
  | nil => rw [List.append_nil, List.foldl_nil]
  | cons c k ih =>
    have hc : c ∉ l := fun h => List.disjoint_of_nodup_append hn h (List.mem_cons_self ..)
    rw [List.foldl_cons, askChan_asked hu hg hc, ih (by simpa using hn), List.append_assoc, List.singleton_append]

/-- All sixteen channels in their order (log 33). -/
theorem allChans_askChan (hu : s.link.state = .up) (hg : ∀ u c r, (g u c r).queued = r.queued) :
    allChans.foldl (askChan g) s =
      s.withCredits (s.askedRecv g (List.finRange 16)) (s.askedQueue (List.finRange 16)) := by
  have none : s.withCredits (s.askedRecv g []) (s.askedQueue []) = s := by
    simp [State.withCredits, State.askedRecv, State.askedQueue]
  have all := foldl_askChan (l := []) hu hg (List.finRange 16) (List.nodup_finRange 16)
  rwa [none, ← allChans_eq_finRange] at all

end

theorem refreshCredits_up {s : State} (hu : s.link.state = .up) : refreshCredits s =
    s.withCredits (s.askedRecv (fun _ _ r => r) (List.finRange 16)) (s.askedQueue (List.finRange 16)) := by
  rw [← allChans_askChan hu fun _ _ _ => rfl, refreshCredits]
  refine congrArg (fun f => allChans.foldl f s) (funext fun u => funext fun c => ?_)
  simp [askChan, CreditUnit.onRecv]

theorem refreshCredits_not_up {s : State} (hu : s.link.state ≠ .up) : refreshCredits s = s := by
  unfold refreshCredits
  refine foldl_idle fun c _ => ?_
  split
  · exact requestCredit_not_up hu
  · rfl

/-- At link-up a posted total is the number of POSTED slots (R140). -/
def recount : RecvChange := fun u c r =>
  { r with posted := .total (BitVec.ofNat 16 (u.rings[c].slots.countP (fun x => decide (x.state = .posted)))) }

theorem creditUpChan_eq : creditUpChan = askChan recount := rfl

theorem creditLinkUp_up {s : State} (hu : s.link.state = .up) : creditLinkUp s =
    let t := s.withCredits (s.askedRecv recount (List.finRange 16)) (s.askedQueue (List.finRange 16))
    { t with cred := { t.cred with refresh := some s.link.refreshInterval } } := by
  have asked := allChans_askChan (g := recount) hu fun _ _ _ => rfl
  rw [creditLinkUp, creditUpChan_eq, asked]
  rfl

/-- Settles O52: a request and a report, link-up, and the refresh timer's expiry. -/
theorem creditRequests : Obligations.CreditRequests := by
  refine ⟨fun c s => ?_, fun s => ?_⟩
  · intro record queue
    exact ⟨requestCredit_not_up, requestCredit_up, reportPosted_other, fun n hu ha hn => reportPosted_total hu ha hn⟩
  · intro wants joins queue posted atLinkUp refreshed interval
    have row (on : s.on) : exec .refreshTimerExpiry s = .next (refreshExpires s) := live_on _ s on
    have hrefreshed : s.askedRecv (fun _ _ r => r) (List.finRange 16) = refreshed := by
      simp [State.askedRecv, refreshed, wants]
    have hatLinkUp : s.askedRecv recount (List.finRange 16) = atLinkUp := by
      simp [State.askedRecv, atLinkUp, wants, recount, posted]
    have hqueue : s.askedQueue (List.finRange 16) = queue := rfl
    clear_value queue atLinkUp refreshed
    refine ⟨fun hu => ?_, fun on => ⟨fun hn => ?_, fun hd hu => ?_, fun hd hu => ?_⟩⟩
    · rw [creditLinkUp_up hu, hatLinkUp, hqueue]
      rfl
    · rw [row on, refreshExpires, if_neg (mt (timerDue_iff _).mp hn)]
    · rw [row on, refreshExpires, if_pos ((timerDue_iff _).mpr hd), refreshCredits_up hu, hrefreshed, hqueue]
      rfl
    · rw [row on, refreshExpires, if_pos ((timerDue_iff _).mpr hd), refreshCredits_not_up hu]

end Sys2Proof.Machine

namespace Sys2Proof.Machine

/-! ## INT_OUT follows its three conditions (R175)

Most operations change neither INT_OUT nor an input of the line: the law holds after them exactly if it held before.
The others drive the line anew when they change an input of it. -/

/-- The level of the line depends on the run state, the producer index and the two latches of the Event Unit alone. -/
theorem intLevel_congr {v u : EventUnit} {w m : Matcher} (hr : v.run = u.run) (hp : v.producer = u.producer)
    (hc : w.consumer = m.consumer) (he : w.intEnable = m.intEnable) : intLevel v w = intLevel u m := by
  simp only [intLevel, hr, hp, hc, he]

/-- A record update that keeps INT_OUT and the inputs of the line. -/
@[simp] theorem interruptLaw_update (t : State) (b : Bool) (now : Word) (o : List (Option LinkWord))
    (m : List Host.Cell) (y : HostPort) (p : Option HostAccess) (a : Option HostAnswer) (g : MemPort) (q : Requests)
    (w : Matcher) (c : CommandUnit) (u : CaptureUnit) (l : LinkController) (x : TransmitEngine) (e : LandingEngine)
    (d : CreditUnit) (v : EventUnit) (f : Nat) (n : List Instr) (hr : v.run = t.ev.run)
    (hp : v.producer = t.ev.producer) (hc : w.consumer = t.wm.consumer) (he : w.intEnable = t.wm.intEnable) :
    InterruptLaw ⟨b, now, t.intOut, o, m, y, p, a, g, q, w, c, u, l, x, e, d, v, f, n⟩ ↔ InterruptLaw t := by
  simp only [InterruptLaw, intLevel_congr hr hp hc he]

theorem interruptLaw_foldl {α : Type} {f : State → α → State} (hf : ∀ s a, InterruptLaw (f s a) ↔ InterruptLaw s)
    (l : List α) (s : State) : InterruptLaw (l.foldl f s) ↔ InterruptLaw s := by
  induction l generalizing s with
  | nil => rfl
  | cons a l ih => exact (ih _).trans (hf s a)

/-- Completions, cancelled refetches and all other work on buffers and slots leave the line. -/
theorem Completes.interruptLaw {s t : State} (h : Completes s t) : InterruptLaw t ↔ InterruptLaw s := by
  rw [h]
  rfl

theorem Captures.interruptLaw {s t : State} (h : Captures s t) : InterruptLaw t ↔ InterruptLaw s :=
  h.completes.interruptLaw

section
variable {s : State}

/-! ### Requests, commands, counters, events -/

/-- A change of the Event Unit that keeps run state and producer index. -/
theorem interruptLaw_place {v : EventUnit} (hv : v.place = s.ev.place) :
    InterruptLaw { s with ev := v } ↔ InterruptLaw s := by
  obtain ⟨hr, -, hp⟩ := RingPlace.mk.inj hv
  simp [hr, hp]

/-- Outside RUNNING the line is low. -/
theorem intLevel_not_running {v : EventUnit} (h : v.run ≠ .running) (m : Matcher) : intLevel v m = false := by
  simp [intLevel, h]

@[simp] theorem present_interruptLaw (r : DevReq) : InterruptLaw (present r s) ↔ InterruptLaw s := .rfl
@[simp] theorem endCommand_interruptLaw (r : Result) (d : Word) :
    InterruptLaw (endCommand r d s) ↔ InterruptLaw s := .rfl
@[simp] theorem count_interruptLaw (f : Counters → Counters) : InterruptLaw (count f s) ↔ InterruptLaw s := .rfl

@[simp] theorem driveInt_interruptLaw : InterruptLaw (driveInt s) := rfl

@[simp] theorem runRing_interruptLaw : InterruptLaw (runRing s) ↔ InterruptLaw s :=
  interruptLaw_place (EventUnit.choose_place _ _ _)

@[simp] theorem post_interruptLaw (k : EventKind) (c : Chan) (d1 d2 : Word) :
    InterruptLaw (post k c d1 d2 s) ↔ InterruptLaw s :=
  runRing_interruptLaw.trans (interruptLaw_place (EventUnit.take_place _ _))

@[simp] theorem postFault_interruptLaw (c : Chan) (o : Origin) (n : Nat) :
    InterruptLaw (postFault c o n s) ↔ InterruptLaw s := post_interruptLaw ..

@[simp] theorem postFaultIf_interruptLaw (e : AccessEnd) (c : Chan) (o : Origin) (n : Nat) :
    InterruptLaw (postFaultIf e c o n s) ↔ InterruptLaw s := by
  unfold postFaultIf
  split <;> simp

/-- From DRAINING to STOPPED the line stays low (R174). -/
@[simp] theorem finishDrain_interruptLaw : InterruptLaw (finishDrain s) ↔ InterruptLaw s := by
  unfold finishDrain
  split
  · next hd =>
    have draining : s.ev.run = .draining := by
      simp only [EventUnit.drained, Bool.and_eq_true, decide_eq_true_eq] at hd
      exact hd.1.1
    have before : intLevel s.ev s.wm = false := intLevel_not_running (by simp [draining]) s.wm
    simp [InterruptLaw, before, intLevel_not_running]
  · rfl

@[simp] theorem afterRing_interruptLaw : InterruptLaw (afterRing s) ↔ InterruptLaw s := by simp [afterRing]

/-- A change of the consumer latch drives the line. -/
@[simp] theorem consumerChanged_interruptLaw : InterruptLaw (consumerChanged s) := by simp [consumerChanged]

@[simp] theorem startEvents_keepsInterrupt (c : Command) (h : InterruptLaw s) : InterruptLaw (startEvents c s) := by
  unfold startEvents installRing
  (repeat' split) <;> simp [h]

@[simp] theorem stopEvents_keepsInterrupt (h : InterruptLaw s) : InterruptLaw (stopEvents s) := by
  unfold stopEvents
  split <;> simp [h]

@[simp] theorem startSnapshot_interruptLaw (c : Command) : InterruptLaw (startSnapshot c s) ↔ InterruptLaw s :=
  runRing_interruptLaw.trans .rfl

@[simp] theorem endStartWrite_interruptLaw (e : AccessEnd) (r : DevReq) :
    InterruptLaw (endStartWrite e r s) ↔ InterruptLaw s := by
  have ended : InterruptLaw { s with ev := s.ev.startEnd } ↔ InterruptLaw s := .rfl
  unfold endStartWrite
  dsimp only
  split <;> simpa using ended

/-- Of the ends of ring writes only that of a producer write changes an input of the line, and it drives it. -/
@[simp] theorem endRingWrite_keepsInterrupt (k : RingKind) (e : AccessEnd) (r : DevReq) (h : InterruptLaw s) :
    InterruptLaw (endRingWrite k e r s) := by
  unfold endRingWrite
  split
  · simpa [interruptLaw_place] using h
  · simpa [interruptLaw_place] using h
  · simp
  · simpa using h

@[simp] theorem endSnapBurst_interruptLaw (e : AccessEnd) (r : DevReq) :
    InterruptLaw (endSnapBurst e r s) ↔ InterruptLaw s := by
  unfold endSnapBurst
  split
  · next im hi =>
    have ended : InterruptLaw { s with ev := s.ev.snapEnd (im.advance e r.addr) } ↔ InterruptLaw s := .rfl
    dsimp only
    split <;> simpa using ended
  · rfl

/-! ### Control frame requests and the Credit Unit -/

@[simp] theorem requestCtl_interruptLaw (r : CtlReq) : InterruptLaw (requestCtl r s) ↔ InterruptLaw s := .rfl
@[simp] theorem requestCredit_interruptLaw (c : Chan) : InterruptLaw (requestCredit c s) ↔ InterruptLaw s := .rfl
@[simp] theorem popCtl_interruptLaw : InterruptLaw (popCtl s) ↔ InterruptLaw s := .rfl
@[simp] theorem clearQueued_interruptLaw (c : Chan) : InterruptLaw (clearQueued c s) ↔ InterruptLaw s := .rfl

@[simp] theorem reportPosted_interruptLaw (c : Chan) : InterruptLaw (reportPosted c s) ↔ InterruptLaw s := by
  unfold reportPosted
  split <;> rfl

@[simp] theorem refreshExpires_interruptLaw : InterruptLaw (refreshExpires s) ↔ InterruptLaw s := by
  have requested : InterruptLaw (refreshCredits s) ↔ InterruptLaw s :=
    interruptLaw_foldl (fun s c => by split <;> rfl) _ s
  unfold refreshExpires
  dsimp only
  split <;> simp [requested]

@[simp] theorem creditLinkUp_interruptLaw : InterruptLaw (creditLinkUp s) ↔ InterruptLaw s := by
  have raised (s : State) (c : Chan) : InterruptLaw (creditUpChan s c) ↔ InterruptLaw s := by
    unfold creditUpChan
    split <;> rfl
  simp [creditLinkUp, interruptLaw_foldl raised]

/-! ### The Capture Unit -/

@[simp] theorem presentRead_interruptLaw : InterruptLaw (presentRead s) ↔ InterruptLaw s := .rfl
@[simp] theorem removeJob_interruptLaw (b : Buf) : InterruptLaw (removeJob b s) ↔ InterruptLaw s := .rfl
@[simp] theorem passTransmit_interruptLaw (c : Chan) : InterruptLaw (passTransmit c s) ↔ InterruptLaw s := .rfl
@[simp] theorem recordCommit_interruptLaw (c : Chan) (i len : Nat) (notify : Bool) :
    InterruptLaw (recordCommit c i len notify s) ↔ InterruptLaw s := .rfl
@[simp] theorem captureWord_interruptLaw (c : Chan) (i off : Nat) (be : BitVec 4) (d : Word) :
    InterruptLaw (captureWord c i off be d s) ↔ InterruptLaw s := .rfl
@[simp] theorem setChan_interruptLaw (c : Chan) (st : ChanState) :
    InterruptLaw (setChan c st s) ↔ InterruptLaw s := .rfl
@[simp] theorem finishDropped_interruptLaw (b : Buf) (d : Drop) :
    InterruptLaw (finishDropped b d s) ↔ InterruptLaw s := .rfl

@[simp] theorem dropJob_interruptLaw (b : Buf) (d : Drop) :
    InterruptLaw (dropJob b d s) ↔ InterruptLaw s :=
  (dropJob_works s b d).captures.interruptLaw

@[simp] theorem startWriteback_interruptLaw :
    InterruptLaw (startWriteback s) ↔ InterruptLaw s :=
  (startWriteback_captures s).interruptLaw

@[simp] theorem releaseSlotBuf_interruptLaw (c : Chan) (i : Nat) :
    InterruptLaw (releaseSlotBuf c i s) ↔ InterruptLaw s :=
  (releaseSlotBuf_works s c i).captures.interruptLaw

@[simp] theorem completeSlot_interruptLaw (c : Chan) (i : Nat) (st : Status) (sent : Option SentInfo) :
    InterruptLaw (completeSlot c i st sent s) ↔ InterruptLaw s :=
  (completeSlot_captures s c i st sent).interruptLaw

@[simp] theorem cancelCaptureRefetch_interruptLaw :
    InterruptLaw (cancelCaptureRefetch s) ↔ InterruptLaw s :=
  (cancelCaptureRefetch_captures s).interruptLaw

@[simp] theorem settleClosed_interruptLaw (c : Chan) : InterruptLaw (settleClosed c s) ↔ InterruptLaw s := by
  unfold settleClosed
  generalize s.cap.rings[c].slots.length = n
  induction n generalizing s with
  | zero => rfl
  | succ n ih =>
    unfold drainClosed
    split <;> simp [ih]

@[simp] theorem takeCommit_interruptLaw (c : Chan) (i len : Nat) (notify : Bool) :
    InterruptLaw (takeCommit c i len notify s) ↔ InterruptLaw s := by
  unfold takeCommit rejectCommit acceptCommit
  dsimp only
  (repeat' split) <;> simp

@[simp] theorem planReads_interruptLaw (refetch : Bool) (c : Chan) (i len : Nat) (b : Buf) :
    InterruptLaw (planReads refetch c i len b s) ↔ InterruptLaw s := by
  unfold planReads
  split <;> rfl

@[simp] theorem beginStaging_interruptLaw (c : Chan) : InterruptLaw (beginStaging c s) ↔ InterruptLaw s := by
  unfold beginStaging
  dsimp only
  (repeat' split) <;> simp

@[simp] theorem grantRefetch_interruptLaw : InterruptLaw (grantRefetch s) ↔ InterruptLaw s := by
  unfold grantRefetch
  (repeat' split) <;> simp

@[simp] theorem acceptRead_interruptLaw (j : ReadJob) (r : DevReq) :
    InterruptLaw (acceptRead j r s) ↔ InterruptLaw s := by
  unfold acceptRead
  dsimp only
  split <;> rfl

@[simp] theorem endStagingRead_interruptLaw (b : Buf) (e : AccessEnd) (r : DevReq) :
    InterruptLaw (endStagingRead b e r s) ↔ InterruptLaw s := by
  unfold endStagingRead faultStaging
  (repeat' split) <;> simp

@[simp] theorem finishOutDrain_interruptLaw (c : Chan) : InterruptLaw (finishOutDrain c s) ↔ InterruptLaw s := by
  unfold finishOutDrain
  split <;> rfl

@[simp] theorem stopOutbound_interruptLaw (c : Chan) (cfg : ChanCfg) :
    InterruptLaw (stopOutbound c cfg s) ↔ InterruptLaw s := by
  have emptied (s : State) (i : Nat) : InterruptLaw (emptyFilling c s i) ↔ InterruptLaw s := by
    unfold emptyFilling
    (repeat' split) <;> simp
  have stopped (s : State) (i : Nat) : InterruptLaw (stopSlot c s i) ↔ InterruptLaw s := by
    unfold stopSlot
    (repeat' split) <;> simp
  simp [stopOutbound, interruptLaw_foldl emptied, interruptLaw_foldl stopped]

@[simp] theorem captureReset_interruptLaw : InterruptLaw (captureReset s) ↔ InterruptLaw s := by
  have slot (c : Chan) (s : State) (i : Nat) : InterruptLaw (resetSlot c s i) ↔ InterruptLaw s := by
    unfold resetSlot
    dsimp only
    (repeat' split) <;> simp
  have chan (s : State) (c : Chan) : InterruptLaw (resetChan s c) ↔ InterruptLaw s := interruptLaw_foldl (slot c) _ s
  simp [captureReset, interruptLaw_foldl chan]

@[simp] theorem endWbHeader_interruptLaw (e : AccessEnd) (r : DevReq) :
    InterruptLaw (endWbHeader e r s) ↔ InterruptLaw s := by
  unfold endWbHeader toWord0
  (repeat' split) <;> simp

@[simp] theorem endWbWord0_interruptLaw (e : AccessEnd) (r : DevReq) :
    InterruptLaw (endWbWord0 e r s) ↔ InterruptLaw s := by
  unfold endWbWord0 returnOut postDone countReturned
  (repeat' split) <;> simp

/-! ### The Link Controller -/

@[simp] theorem callStatus_interruptLaw : InterruptLaw (callStatus s) ↔ InterruptLaw s := .rfl
@[simp] theorem setRx_interruptLaw (rx : LaneRx) : InterruptLaw (setRx rx s) ↔ InterruptLaw s := .rfl

@[simp] theorem statusEnd_interruptLaw (e : AccessEnd) (r : DevReq) :
    InterruptLaw (statusEnd e r s) ↔ InterruptLaw s := by
  unfold statusEnd
  dsimp only
  split <;> simp

@[simp] theorem trySync_interruptLaw : InterruptLaw (trySync s) ↔ InterruptLaw s := by
  unfold trySync
  split <;> rfl

@[simp] theorem acknowledge_interruptLaw : InterruptLaw (acknowledge s) ↔ InterruptLaw s := by
  unfold acknowledge
  dsimp only
  split <;> simp

@[simp] theorem linkReset_interruptLaw (cause : Cause) : InterruptLaw (linkReset cause s) ↔ InterruptLaw s := by
  have posted : InterruptLaw (postDown cause (count Counters.linkReset s)) ↔ InterruptLaw s := by
    unfold postDown
    split <;> simp
  exact posted

@[simp] theorem reportReset_interruptLaw (cause : Cause) : InterruptLaw (reportReset cause s) ↔ InterruptLaw s := by
  unfold reportReset
  split <;> simp

@[simp] theorem enterUp_interruptLaw : InterruptLaw (enterUp s) ↔ InterruptLaw s := by
  simp [enterUp]

@[simp] theorem initArrives_interruptLaw (ws : List LinkWord) :
    InterruptLaw (initArrives ws s) ↔ InterruptLaw s := by
  unfold initArrives takeInit
  dsimp only
  (repeat' split) <;> simp

@[simp] theorem startEnable_interruptLaw : InterruptLaw (startEnable s) ↔ InterruptLaw s := by
  unfold startEnable
  split <;> rfl

@[simp] theorem startDisable_interruptLaw : InterruptLaw (startDisable s) ↔ InterruptLaw s := by
  unfold startDisable
  split <;> simp

@[simp] theorem linkRecordEnd_interruptLaw (e : AccessEnd) (r : DevReq) :
    InterruptLaw (linkRecordEnd e r s) ↔ InterruptLaw s := by
  unfold linkRecordEnd installLink driveLane
  dsimp only
  (repeat' split) <;> simp

@[simp] theorem lockFound_interruptLaw (ws : List LinkWord) : InterruptLaw (lockFound ws s) ↔ InterruptLaw s := by
  unfold lockFound
  split <;> simp

@[simp] theorem lockLost_interruptLaw (ws : List LinkWord) : InterruptLaw (lockLost ws s) ↔ InterruptLaw s := by
  unfold lockLost
  dsimp only
  (repeat' split) <;> simp

@[simp] theorem initTimerExpires_interruptLaw : InterruptLaw (initTimerExpires s) ↔ InterruptLaw s := by
  unfold initTimerExpires
  split <;> rfl

@[simp] theorem syncTimerExpires_interruptLaw : InterruptLaw (syncTimerExpires s) ↔ InterruptLaw s := by
  unfold syncTimerExpires
  split <;> simp

/-! ### The Transmit Engine -/

@[simp] theorem transmit_interruptLaw (f : Frame) (b : Option Buf) :
    InterruptLaw (transmit f b s) ↔ InterruptLaw s := .rfl
@[simp] theorem popTransmit_interruptLaw : InterruptLaw (popTransmit s) ↔ InterruptLaw s := .rfl
@[simp] theorem haltPass_interruptLaw : InterruptLaw (haltPass s) ↔ InterruptLaw s := .rfl
@[simp] theorem requestRefetch_interruptLaw (x : ReplayEntry) :
    InterruptLaw (requestRefetch x s) ↔ InterruptLaw s := .rfl

@[simp] theorem cancelRefetch_interruptLaw :
    InterruptLaw (cancelRefetch s) ↔ InterruptLaw s :=
  (cancelRefetch_completes s).interruptLaw

@[simp] theorem restOn_interruptLaw (x : ReplayEntry) : InterruptLaw (restOn x s) ↔ InterruptLaw s := by
  unfold restOn retryLimitReached
  (repeat' split) <;> simp

@[simp] theorem movePass_interruptLaw (x : ReplayEntry) : InterruptLaw (movePass x s) ↔ InterruptLaw s := by
  unfold movePass
  dsimp only
  split <;> simp

@[simp] theorem startPass_interruptLaw (x : ReplayEntry) : InterruptLaw (startPass x s) ↔ InterruptLaw s := by
  simp [startPass]

@[simp] theorem sendInitFrame_interruptLaw : InterruptLaw (sendInitFrame s) ↔ InterruptLaw s := by
  unfold sendInitFrame
  split <;> rfl

@[simp] theorem sendAckFrame_interruptLaw : InterruptLaw (sendAckFrame s) ↔ InterruptLaw s := by
  unfold sendAckFrame
  split <;> rfl

@[simp] theorem sendNakFrame_interruptLaw : InterruptLaw (sendNakFrame s) ↔ InterruptLaw s := by
  unfold sendNakFrame
  split <;> rfl

@[simp] theorem sendCreditFrame_interruptLaw : InterruptLaw (sendCreditFrame s) ↔ InterruptLaw s := by
  unfold sendCreditFrame
  (repeat' split) <;> simp

@[simp] theorem firstSendFrame_interruptLaw : InterruptLaw (firstSendFrame s) ↔ InterruptLaw s := by
  unfold firstSendFrame
  split <;> rfl

@[simp] theorem resendFrame_interruptLaw : InterruptLaw (resendFrame s) ↔ InterruptLaw s := by
  unfold resendFrame sendAgain advancePass
  dsimp only
  (repeat' split) <;> simp

@[simp] theorem endSend_interruptLaw (how : SendEnd) : InterruptLaw (endSend how s) ↔ InterruptLaw s := by
  unfold endSend reportEnd
  (repeat' split) <;> rfl

@[simp] theorem adjustPass_interruptLaw : InterruptLaw (adjustPass s) ↔ InterruptLaw s := by
  unfold adjustPass
  (repeat' split) <;> simp

@[simp] theorem coverAck_interruptLaw (q : Seq) (rs : List RefusalEntry) :
    InterruptLaw (coverAck q rs s) ↔ InterruptLaw s :=
  adjustPass_interruptLaw.trans (foldl_completeEntry_leaves _ _).interruptLaw

@[simp] theorem ackTaken_interruptLaw : InterruptLaw (ackTaken s) ↔ InterruptLaw s := by
  unfold ackTaken takeAck
  (repeat' split) <;> simp

@[simp] theorem nakTaken_interruptLaw : InterruptLaw (nakTaken s) ↔ InterruptLaw s := by
  unfold nakTaken takeNak coverNak
  dsimp only
  (repeat' split) <;> simp

@[simp] theorem ackArrives_interruptLaw (ws : List LinkWord) : InterruptLaw (ackArrives ws s) ↔ InterruptLaw s := by
  unfold ackArrives
  split <;> rfl

@[simp] theorem nakArrives_interruptLaw (ws : List LinkWord) : InterruptLaw (nakArrives ws s) ↔ InterruptLaw s := by
  unfold nakArrives
  split <;> rfl

@[simp] theorem ackTimerTurn_interruptLaw : InterruptLaw (ackTimerTurn s) ↔ InterruptLaw s := by
  unfold ackTimerTurn ackTimerExpires expiryPass
  dsimp only
  (repeat' split) <;> simp

theorem faultRefetch_interruptLaw (j : ReadJob) (r : DevReq) :
    InterruptLaw (faultRefetch j r s) ↔ InterruptLaw s := by
  have posted : InterruptLaw (removeJob j.buf (postFault j.chan .refetch r.addr s)) ↔ InterruptLaw s :=
    (removeJob_interruptLaw _).trans (postFault_interruptLaw ..)
  unfold faultRefetch haltPass
  generalize removeJob j.buf (postFault j.chan .refetch r.addr s) = t at posted ⊢
  simp [posted]

@[simp] theorem endRefetchRead_interruptLaw (b : Buf) (e : AccessEnd) (r : DevReq) :
    InterruptLaw (endRefetchRead b e r s) ↔ InterruptLaw s := by
  unfold endRefetchRead
  (repeat' split) <;> simp [faultRefetch_interruptLaw]

@[simp] theorem transmitNotice_interruptLaw : InterruptLaw (transmitNotice s) ↔ InterruptLaw s := by
  by_cases hn : s.link.txNotices = 0
  · rw [transmitNotice, if_pos hn]
  · rw [transmitNotice_eq hn]
    exact acknowledge_interruptLaw.trans (entriesLost_completes (s := s)).interruptLaw

/-! ### The Landing Engine -/

@[simp] theorem popLanding_interruptLaw : InterruptLaw (popLanding s) ↔ InterruptLaw s := .rfl
@[simp] theorem setHead_interruptLaw (e : LandEntry) (l : Landing) :
    InterruptLaw (setHead e l s) ↔ InterruptLaw s := .rfl
@[simp] theorem setInState_interruptLaw (c : Chan) (i : Nat) (st : InState) :
    InterruptLaw (setInState c i st s) ↔ InterruptLaw s := .rfl
@[simp] theorem returnPosted_interruptLaw (c : Chan) (i : Nat) :
    InterruptLaw (returnPosted c i s) ↔ InterruptLaw s := .rfl

@[simp] theorem reportPostedTimes_interruptLaw (c : Chan) (n : Nat) :
    InterruptLaw (reportPostedTimes c n s) ↔ InterruptLaw s := by
  induction n generalizing s with
  | zero => rfl
  | succ n ih => exact ih.trans (reportPosted_interruptLaw c)

@[simp] theorem takeRelease_interruptLaw (c : Chan) (i : Nat) (notify : Bool) :
    InterruptLaw (takeRelease c i notify s) ↔ InterruptLaw s :=
  reportPostedTimes_interruptLaw c _

@[simp] theorem askNak_interruptLaw : InterruptLaw (askNak s) ↔ InterruptLaw s := by
  unfold askNak
  split <;> rfl

@[simp] theorem batchDisposal_interruptLaw : InterruptLaw (batchDisposal s) ↔ InterruptLaw s := by
  unfold batchDisposal
  dsimp only
  split <;> rfl

@[simp] theorem dispose_interruptLaw (x : LandEntry) (reason : Option Reason) :
    InterruptLaw (dispose x reason s) ↔ InterruptLaw s := by
  unfold dispose listRefusal
  (repeat' split) <;> simp

@[simp] theorem toPayload_interruptLaw (e : LandEntry) (l : Landing) (bursts : List Burst) :
    InterruptLaw (toPayload e l bursts s) ↔ InterruptLaw s := by
  unfold toPayload
  split <;> rfl

@[simp] theorem runQueue_interruptLaw (q : List LandEntry) : InterruptLaw (runQueue q s) ↔ InterruptLaw s := by
  induction q generalizing s with
  | nil => rfl
  | cons e rest ih =>
    unfold runQueue startLanding
    split
    · exact ih.trans (dispose_interruptLaw e _)
    · dsimp only
      split <;> simp

@[simp] theorem enqueue_interruptLaw (e : LandEntry) : InterruptLaw (enqueue e s) ↔ InterruptLaw s := by
  unfold enqueue
  split <;> simp

@[simp] theorem takeData_interruptLaw (c : Chan) (q : Seq) (user : Word) (payload : List Byte) :
    InterruptLaw (takeData c q user payload s) ↔ InterruptLaw s := by
  unfold takeData accept
  dsimp only
  (repeat' split) <;> simp

@[simp] theorem dataTaken_interruptLaw : InterruptLaw (dataTaken s) ↔ InterruptLaw s := by
  unfold dataTaken takeArrival
  (repeat' split) <;> simp

@[simp] theorem dataArrives_interruptLaw (ws : List LinkWord) :
    InterruptLaw (dataArrives ws s) ↔ InterruptLaw s := by
  unfold dataArrives
  split <;> rfl

@[simp] theorem damaged_interruptLaw (ws : List LinkWord) : InterruptLaw (damaged ws s) ↔ InterruptLaw s := by
  unfold damaged takeDamage reportDamage
  dsimp only
  (repeat' split) <;> simp

@[simp] theorem ackDelayExpires_interruptLaw : InterruptLaw (ackDelayExpires s) ↔ InterruptLaw s := by
  unfold ackDelayExpires
  split <;> rfl

@[simp] theorem leaveLanding_interruptLaw (c : Chan) (i : Nat) :
    InterruptLaw (leaveLanding c i s) ↔ InterruptLaw s := by
  unfold leaveLanding
  (repeat' split) <;> rfl

@[simp] theorem guardTurn_interruptLaw : InterruptLaw (guardTurn s) ↔ InterruptLaw s := by
  unfold guardTurn guardExpires
  dsimp only
  (repeat' split) <;> simp

@[simp] theorem finishInDrain_interruptLaw (c : Chan) : InterruptLaw (finishInDrain c s) ↔ InterruptLaw s := by
  unfold finishInDrain
  split <;> rfl

@[simp] theorem endLandPayload_interruptLaw (e : AccessEnd) (r : DevReq) :
    InterruptLaw (endLandPayload e r s) ↔ InterruptLaw s := by
  unfold endLandPayload
  split <;> simp

@[simp] theorem endLandHeader_interruptLaw (e : AccessEnd) (r : DevReq) :
    InterruptLaw (endLandHeader e r s) ↔ InterruptLaw s := by
  unfold endLandHeader toControl
  split <;> simp

@[simp] theorem disposeLanding_interruptLaw (x : LandEntry) (l : Landing) :
    InterruptLaw (disposeLanding x l s) ↔ InterruptLaw s := by
  unfold disposeLanding
  split <;> simp

@[simp] theorem returnSlot_interruptLaw (x : LandEntry) (l : Landing) (st : Status) :
    InterruptLaw (returnSlot x l st s) ↔ InterruptLaw s := by
  unfold returnSlot
  dsimp only
  (repeat' split) <;> simp

@[simp] theorem endLandWord0_interruptLaw (e : AccessEnd) (r : DevReq) :
    InterruptLaw (endLandWord0 e r s) ↔ InterruptLaw s := by
  unfold endLandWord0
  split <;> simp

@[simp] theorem landingNotice_interruptLaw : InterruptLaw (landingNotice s) ↔ InterruptLaw s := by
  have discarded (s : State) (e : LandEntry) : InterruptLaw (discardEntry s e) ↔ InterruptLaw s := by
    unfold discardEntry
    split <;> simp
  unfold landingNotice landingReset
  split
  · rfl
  · simp [-List.foldl_reverse, interruptLaw_foldl discarded,
      interruptLaw_foldl fun _ c => finishInDrain_interruptLaw c]

/-! ### Words, commands and records -/

@[simp] theorem endLoad_interruptLaw (n : Chan) (e : AccessEnd) (r : DevReq) :
    InterruptLaw (endLoad n e r s) ↔ InterruptLaw s := by
  have activated (cfg : ChanCfg) : InterruptLaw (activate n cfg s) ↔ InterruptLaw s := by
    unfold activate
    split <;> rfl
  unfold endLoad judgeRecord
  (repeat' split) <;> simp [activated]

@[simp] theorem startStop_interruptLaw (c : Command) : InterruptLaw (startStop c s) ↔ InterruptLaw s := by
  unfold startStop stopInbound
  (repeat' split) <;> simp

@[simp] theorem execute_keepsInterrupt (c : Command) (h : InterruptLaw s) : InterruptLaw (execute c s) := by
  unfold execute startCommand startLoad
  (repeat' split) <;> simp [h]

@[simp] theorem endDetail_interruptLaw (e : AccessEnd) (r : DevReq) :
    InterruptLaw (endDetail e r s) ↔ InterruptLaw s := by
  unfold endDetail
  dsimp only
  (repeat' split) <;> simp

@[simp] theorem endResponse_keepsInterrupt (e : AccessEnd) (r : DevReq) (h : InterruptLaw s) :
    InterruptLaw (endResponse e r s) := by
  unfold endResponse
  dsimp only
  split <;> simp [h]

theorem wordOfLanes_lane (w : Word) : wordOfLanes (lane w 0) (lane w 1) (lane w 2) (lane w 3) = w := by
  unfold wordOfLanes lane
  refine BitVec.eq_of_getLsbD_eq fun i hi => ?_
  simp only [BitVec.getLsbD_append, BitVec.getLsbD_extractLsb']
  grind

/-- A write with no byte enabled leaves a latch as it is (R20). -/
theorem mergeWord_none (old d : Word) : mergeWord old 0#4 d = old := by
  simp [mergeWord, answerWord, readLane, wordOfLanes_lane]

/-- A write to the consumer latch with a byte enabled, and any to the interrupt enable latch, drives the line; no other
latch is an input of it (R21, R175; log 17). -/
theorem latchRecordWord_keepsInterrupt (s : State) (x : RecordWord) (h : InterruptLaw s) :
    InterruptLaw (latchRecordWord s x) := by
  unfold latchRecordWord
  split
  · next k hk =>
    cases k with
    | consumer =>
      unfold afterLatch
      dsimp only
      split
      · next hb => simpa [Matcher.latch, hb, mergeWord_none] using h
      · exact consumerChanged_interruptLaw
    | intEnable => exact driveInt_interruptLaw
    | command | arg1 | arg2 | arg3 => exact h
  all_goals exact h

theorem applyLatches_keepsInterrupt (xs : List RecordWord) (h : InterruptLaw s) : InterruptLaw (applyLatches xs s) := by
  induction xs generalizing s with
  | nil => exact h
  | cons x xs ih => exact ih (latchRecordWord_keepsInterrupt s x h)

theorem slotRecordWord_interruptLaw (p : SlotPass) (x : RecordWord) :
    InterruptLaw (slotRecordWord p x).state ↔ InterruptLaw p.state := by
  have word (c : Chan) (i off : Nat) : InterruptLaw (p.word c i off x).state ↔ InterruptLaw p.state := by
    unfold SlotPass.word SlotPass.violate handover duplicate violation plainSlotWord
    (repeat' split) <;> simp
  unfold slotRecordWord
  split
  · exact word _ _ _
  · exact word _ _ _
  · rfl
  · rfl

theorem applySlots_interruptLaw (xs : List RecordWord) : InterruptLaw (applySlots xs s) ↔ InterruptLaw s := by
  have pass (p : SlotPass) : InterruptLaw (xs.foldl slotRecordWord p).state ↔ InterruptLaw p.state := by
    induction xs generalizing p with
    | nil => rfl
    | cons x xs ih => exact (ih _).trans (slotRecordWord_interruptLaw p x)
  exact pass ⟨s, []⟩

@[simp] theorem applyRecord_keepsInterrupt (r : WriteRecord) (h : InterruptLaw s) : InterruptLaw (applyRecord r s) := by
  have taken : InterruptLaw (applySlots r.words (applyLatches r.words s)) :=
    (applySlots_interruptLaw _).mpr (applyLatches_keepsInterrupt _ h)
  unfold applyRecord applyCommand commandArrival
  (repeat' split) <;> simp [h, taken]

/-! ### Notices and CREDITs -/

@[simp] theorem captureNotice_interruptLaw : InterruptLaw (captureNotice s) ↔ InterruptLaw s := by
  unfold captureNotice
  split <;> simp

@[simp] theorem creditNotice_interruptLaw : InterruptLaw (creditNotice s) ↔ InterruptLaw s := by
  unfold creditNotice
  split <;> simp

@[simp] theorem creditArrives_interruptLaw (ws : List LinkWord) :
    InterruptLaw (creditArrives ws s) ↔ InterruptLaw s := by
  unfold creditArrives
  split <;> rfl

@[simp] theorem creditTaken_interruptLaw : InterruptLaw (creditTaken s) ↔ InterruptLaw s := by
  have settled (d : Chan) (s : State) : InterruptLaw (settleDest d s) ↔ InterruptLaw s :=
    interruptLaw_foldl (fun s c => by split <;> simp) _ s
  unfold creditTaken takeCredit popCredit
  dsimp only
  (repeat' split) <;> simp [settled]

/-! ### The host port, the memory port and time -/

@[simp] theorem arriveNext_interruptLaw : InterruptLaw (arriveNext s) ↔ InterruptLaw s := by
  unfold arriveNext arrive
  (repeat' split) <;> rfl

@[simp] theorem presentAccess_interruptLaw (a : HostAccess) : InterruptLaw (presentAccess a s) ↔ InterruptLaw s := by
  unfold presentAccess arrive
  (repeat' split) <;> rfl

@[simp] theorem arbitrate_interruptLaw : InterruptLaw (arbitrate s) ↔ InterruptLaw s := by
  unfold arbitrate
  dsimp only
  (repeat' split) <;> rfl

@[simp] theorem hostEnd_interruptLaw (e : AccessEnd) : InterruptLaw (hostEnd e s) ↔ InterruptLaw s := by
  unfold hostEnd
  split
  · exact arriveNext_interruptLaw
  · rfl

@[simp] theorem deviceEnd_keepsInterrupt (mine : Purpose → Bool) (e : AccessEnd) (h : InterruptLaw s) :
    InterruptLaw (deviceEnd mine e s) := by
  have ended (r : DevReq) : InterruptLaw (endDevice r e s) := h
  unfold deviceEnd atDeviceEnd
  (repeat' split)
  · unfold ownerGoesOn
    split <;> simp [ended]
  all_goals exact h

@[simp] theorem responseTimeout_keepsInterrupt (kept : List Bool) (answered : List Word) (h : InterruptLaw s) :
    InterruptLaw (responseTimeout kept answered s) := by
  unfold responseTimeout
  (repeat' split)
  · exact arriveNext_interruptLaw.mpr h
  · exact deviceEnd_keepsInterrupt _ _ h
  all_goals exact h

@[simp] theorem takeRecord_keepsInterrupt (mine : Matcher → WriteRecord → Bool) (h : InterruptLaw s) :
    InterruptLaw (takeRecord mine s) := by
  unfold takeRecord
  (repeat' split) <;> simp [h]

@[simp] theorem tick_interruptLaw : InterruptLaw (tick s) ↔ InterruptLaw s := by
  unfold tick
  split <;> rfl

end

/-! ### Every step -/

theorem live_keepsInterrupt {f : State → State} {s t : State} (hs : InterruptLaw s)
    (hf : InterruptLaw s → InterruptLaw (f s)) (h : live f s = .next t) : InterruptLaw t := by
  cases h
  split
  · exact hs
  · exact hf hs

theorem exec_keepsInterrupt {c : Instr} {s t : State} (hs : InterruptLaw s) (h : exec c s = .next t) :
    InterruptLaw t := by
  cases c with
  | pinReset kept => cases h; rfl
  | resetNRelease straps =>
    cases h
    split
    · exact arriveNext_interruptLaw.mpr hs
    · exact hs
  | hostReadArrival addr enables =>
    simp only [exec, execHostReadArrival] at h
    split at h <;> cases h
    exact (presentAccess_interruptLaw _).mpr hs
  | hostWriteArrival addr words =>
    simp only [exec, execHostWriteArrival] at h
    split at h <;> cases h
    exact (presentAccess_interruptLaw _).mpr hs
  | ackReceived how | nakReceived how | dataReceived how | creditReceived how =>
    cases how <;> exact live_keepsInterrupt hs (fun hs => by simp [hs]) h
  | _ => exact live_keepsInterrupt hs (fun hs => by simp [hs]) h

/-- Settles O56: the law at reset, and kept by a tick and by every command. -/
theorem interruptLineFollows : Obligations.InterruptLineFollows := by
  obtain ⟨-, reset, -⟩ := lawsAtReset
  refine ⟨reset, fun s t hs h => ?_⟩
  unfold step at h
  split at h
  · cases h
    exact tick_interruptLaw.mpr hs
  · next c rest _ => exact exec_keepsInterrupt (s := s.withQueue rest) hs h

end Sys2Proof.Machine

namespace Sys2Proof.Machine

/-! ## The ends of the Event Unit's accesses (R169 to R175, R180) -/

theorem accessOk_eq_false {a : AccessEnd} (h : a ≠ .ok) : accessOk a = false :=
  Bool.eq_false_iff.mpr (mt (accessOk_iff a).mp h)

/-! ### The unit after the end of a ring write -/

section
variable {ev : EventUnit} {a : AccessEnd} {ring : RingCfg}

theorem nextProducer_eq (h : ev.ringCfg = some ring) : ev.nextProducer = (ev.producer + 1) % ring.size := by
  simp only [EventUnit.nextProducer, h]

theorem recordEnd_ok (wm : Matcher) : ev.recordEnd .ok wm =
    { ev with queue := ev.queue.tail, ring := some (ev.producerWrite wm), lastAccess := .ring } := rfl

/-- An event whose record write faults is lost (R171). -/
theorem recordEnd_fault (h : a ≠ .ok) (wm : Matcher) : ev.recordEnd a wm = { ev with
    queue := ev.queue.tail, ring := none, lastAccess := .ring
    lostCount := if ev.lostCount = 0xFFFFFFFF#32 then 0xFFFFFFFF#32 else ev.lostCount + 1
    counters := { ev.counters with eventsLost := ev.counters.eventsLost + 1 } } := by
  simp [EventUnit.recordEnd, accessOk_eq_false h, lose_one, EventUnit.after]

theorem lostEnd_ok (n : Word) (wm : Matcher) : ev.lostEnd n .ok wm =
    { ev with lostCount := ev.lostCount - n, ring := some (ev.producerWrite wm), lastAccess := .ring } := rfl

theorem lostEnd_fault (h : a ≠ .ok) (n : Word) (wm : Matcher) : ev.lostEnd n a wm =
    { ev with lostHold := true, ring := none, lastAccess := .ring } := by
  simp [EventUnit.lostEnd, accessOk_eq_false h, EventUnit.after]

end

/-! ### The rows -/

section
variable {s : State} {r : DevReq} {a : AccessEnd}

theorem ringWrite_ends {k : RingKind} {mine : Purpose → Bool} (hs : s.serves (.ring k) r)
    (hm : mine (.ring k) = true) : live (deviceEnd mine a) s = .next (endRingWrite k a r (endDevice r a s)) := by
  have owner : ownerGoesOn a r (endDevice r a s) = endRingWrite k a r (endDevice r a s) := by
    simp only [ownerGoesOn, hs.2.2]
  rw [deviceEnd_serves _ mine a s r hs hm, owner]

theorem snapshotBurst_ends (hs : s.serves .snapshot r) :
    exec (.snapshotBurstEnd a) s = .next (endSnapBurst a r (endDevice r a s)) := by
  have owner : ownerGoesOn a r (endDevice r a s) = endSnapBurst a r (endDevice r a s) := by
    simp only [ownerGoesOn, hs.2.2]
  exact (deviceEnd_serves _ _ a s r hs rfl).trans (congrArg _ owner)

/-- The producer write of EVENTS_START that faults (R173). -/
theorem endStartWrite_fault (h : a ≠ .ok) : endStartWrite a r s = endCommand .memoryFault (BitVec.ofNat 32 r.addr)
    (post .memoryFault 0 4#32 (BitVec.ofNat 32 r.addr) { s with ev := s.ev.startEnd }) := by
  simp only [endStartWrite, accessOk_eq_false h]
  rfl

end

/-! ### A drain (R174) -/

theorem drained_iff (ev : EventUnit) :
    ev.drained = true ↔ ev.run = .draining ∧ ev.queue = [] ∧ ev.ring = none := by
  simp [EventUnit.drained, and_assoc]

/-! ### A snapshot burst (R180) -/

section
variable {s : State} {r : DevReq} {a : AccessEnd} {im : SnapImage} {n : Nat}

/-- The Event Unit has ended a snapshot burst, and `snap` is what is left of the image. -/
def State.burstEnded (s : State) (a : AccessEnd) (r : DevReq) (snap : Option SnapImage) : State :=
  postFaultIf a 0 .snapshot r.addr { s with ev := { s.ev with snap := snap, lastAccess := .snapshot } }

/-- The tenth burst is the last. -/
theorem advance_written (im : SnapImage) : (im.advance a n).written = decide (9 ≤ im.next) := by
  simp [SnapImage.written, SnapImage.advance]

theorem endSnapBurst_more (h : s.ev.snap = some im) (hn : im.next < 9) :
    endSnapBurst a r s = runRing (s.burstEnded a r (some (im.advance a r.addr))) := by
  have unwritten : (im.advance a r.addr).written = false := (advance_written im).trans (decide_eq_false (by omega))
  simp only [endSnapBurst, h, unwritten, EventUnit.snapEnd, State.burstEnded]
  rfl

theorem endSnapBurst_last (h : s.ev.snap = some im) (hn : 9 ≤ im.next) :
    endSnapBurst a r s = runRing (endCommand (im.advance a r.addr).result.1 (im.advance a r.addr).result.2
      (s.burstEnded a r none)) := by
  have written : (im.advance a r.addr).written = true := (advance_written im).trans (decide_eq_true hn)
  simp only [endSnapBurst, h, written, EventUnit.snapEnd, State.burstEnded]
  rfl

end

/-! ### The image (R179) -/

@[simp] theorem ChanCounters.words_length (k : ChanCounters) : k.words.length = 4 := rfl

/-- Each channel has four words: the words of channel `n` and those behind it start at word 4 × n. -/
theorem drop_flatMap_words (l : List ChanCounters) (n : Nat) :
    (l.flatMap ChanCounters.words).drop (4 * n) = (l.drop n).flatMap ChanCounters.words := by
  induction n generalizing l with
  | zero => rfl
  | succ n ih =>
    cases l with
    | nil => simp
    | cons x l => simp [ChanCounters.words, Nat.mul_succ, ih]

/-- The words of the link's and the unit's counters, the image time, and zeros. -/
def SnapImage.unitWords (im : SnapImage) : List Word :=
  let k := im.counters
  [k.crcErrors, k.framingErrors, k.naksSent, k.naksReceived, k.replayPasses, k.ackTimeouts, k.linkResets, k.staleFrames,
    k.creditViolations, k.tornReads, k.eventsLost, im.time, 0#32, 0#32, 0#32, 0#32]

theorem snapImage_words_length (im : SnapImage) : im.words.length = 80 := by
  simp [SnapImage.words]

/-- The words from channel `n` on, or, past the last channel, the words behind the channels. -/
theorem drop_snapImage_words (im : SnapImage) {n : Nat} (hn : n ≤ 16) : im.words.drop (4 * n) =
    (im.counters.chans.toList.drop n).flatMap ChanCounters.words ++ im.unitWords := by
  have within : 4 * n ≤ (im.counters.chans.toList.flatMap ChanCounters.words).length := by
    simpa using (by omega : 4 * n ≤ 64)
  rw [← drop_flatMap_words]
  exact List.drop_append_of_le_length within

theorem snapImage_chanWords (im : SnapImage) (c : Chan) :
    (im.words.drop (4 * c.val)).take 4 = im.counters.chans[c].words := by
  have inside : c.val < im.counters.chans.toList.length := by simp
  rw [drop_snapImage_words im (Nat.le_of_lt c.isLt), List.drop_eq_getElem_cons inside]
  simp [ChanCounters.words]

theorem snapImage_unitWords (im : SnapImage) : im.words.drop 64 = im.unitWords := by
  have past : im.counters.chans.toList.drop 16 = [] := List.drop_eq_nil_of_le (by simp)
  simpa [past] using drop_snapImage_words im (Nat.le_refl 16)

/-! ### The next request (R172; log 19) -/

section
variable {ev : EventUnit} {w : RingWrite} {im : SnapImage}

theorem nextReq_none (wm : Matcher) (hr : ev.ring = none) (hs : ev.snap = none) : ev.nextReq wm = none := by
  simp only [EventUnit.nextReq, hr, hs]

theorem nextReq_ring (wm : Matcher) (hr : ev.ring = some w) (h : ev.snap = none ∨ ev.lastAccess = .snapshot) :
    ev.nextReq wm = some w.req := by
  cases hs : ev.snap with
  | none => simp only [EventUnit.nextReq, hr, hs]
  | some im =>
    have last : ev.lastAccess = .snapshot := h.resolve_left (by simp [hs])
    simp only [EventUnit.nextReq, hr, hs, last]

theorem nextReq_snapshot (wm : Matcher) (hs : ev.snap = some im) (h : ev.ring = none ∨ ev.lastAccess = .ring) :
    ev.nextReq wm = some (im.req wm) := by
  cases hr : ev.ring with
  | none => simp only [EventUnit.nextReq, hr, hs]
  | some w =>
    have last : ev.lastAccess = .ring := h.resolve_left (by simp [hr])
    simp only [EventUnit.nextReq, hr, hs, last]

end

/-- Settles O53: the four ring writes, each with either end; the drain; the snapshot; the image; the next request. -/
theorem eventAccessEnds : Obligations.EventAccessEnds := by
  refine ⟨fun s r a ring hc => ?_, fun s => ⟨fun hr hq hw => ?_, fun hn => ?_⟩, fun s r a im hs hi => ?_,
    fun im wm => ?_, fun im => ⟨snapImage_chanWords im, snapImage_unitWords im⟩,
    fun ev wm w im => ⟨nextReq_none wm, nextReq_ring wm, nextReq_snapshot wm⟩⟩
  · intro p producerWrite ended lost goesOn
    have follows : s.ev.producerWrite s.wm = producerWrite := by
      rw [EventUnit.producerWrite, nextProducer_eq hc]
    have advances : s.ev.producerEnd = { s.ev with producer := p, ring := none, lastAccess := .ring } := by
      rw [EventUnit.producerEnd, nextProducer_eq hc]
      rfl
    refine ⟨fun hs => ⟨?_, fun hn => ?_⟩, fun n hs => ⟨?_, fun hn => ?_⟩, fun hs => ?_, fun hs => ⟨?_, fun hn => ?_⟩⟩
    · rintro rfl
      refine (ringWrite_ends hs rfl).trans ?_
      simp only [endRingWrite, recordEnd_ok]
      rw [← follows]
      rfl
    · refine (ringWrite_ends hs rfl).trans ?_
      simp only [endRingWrite, recordEnd_fault hn]
      rfl
    · rintro rfl
      refine (ringWrite_ends hs rfl).trans ?_
      simp only [endRingWrite, lostEnd_ok]
      rw [← follows]
      rfl
    · refine (ringWrite_ends hs rfl).trans ?_
      simp only [endRingWrite, lostEnd_fault hn]
      rfl
    · refine (ringWrite_ends hs rfl).trans ?_
      have advanced : (endDevice r a s).ev.producerEnd = _ := advances
      simp only [endRingWrite, advanced]
      rfl
    · rintro rfl
      exact ringWrite_ends hs rfl
    · refine (ringWrite_ends hs rfl).trans ?_
      simp only [endRingWrite, endStartWrite_fault hn]
      rfl
  · exact finishDrain_done s ((drained_iff s.ev).mpr ⟨hr, hq, hw⟩)
  · refine finishDrain_busy s (Bool.eq_false_iff.mpr fun hd => ?_)
    obtain ⟨hr, hq, hw⟩ := (drained_iff s.ev).mp hd
    exact hn.elim (· hr) fun hn => hn.elim (· hq) (· hw)
  · intro first s1 more
    have held : (endDevice r a s).ev.snap = some im := hi
    rw [snapshotBurst_ends hs]
    refine ⟨fun hn => ?_, fun hn => ?_⟩
    · rw [endSnapBurst_more held hn]
      rfl
    · rw [endSnapBurst_last held hn]
      have result : (im.advance a r.addr).result = match first with
        | none => (.done, im.time)
        | some f => (.memoryFault, BitVec.ofNat 32 f) := rfl
      rw [result]
      cases first <;> rfl
  · refine ⟨snapImage_words_length im, fun k _ hk => ?_⟩
    rw [SnapImage.req, hk]
    rfl

end Sys2Proof.Machine

namespace Sys2Proof.Machine

/-! ## One step, one microsecond (log 1, log 12) -/

section
variable {s : State}

theorem step_of_pending_nil (hp : s.pending = []) : step s = .next (tick s) := by
  simp only [step, hp]

theorem step_of_pending_cons {c : Instr} {rest : List Instr} (hp : s.pending = c :: rest) :
    step s = exec c (s.withQueue rest) := by
  simp only [step, hp]

/-- Time stands still while RESET_N is low, and at a timer that is due. -/
theorem tick_stopped (h : s.resetLow = true ∨ anyTimerDue s = true) : tick s = s :=
  if_pos ((Bool.or_eq_true _ _).mpr h)

/-- Otherwise the Timebase advances, and each unit's timers count. -/
theorem tick_passes (on : s.on) (hd : anyTimerDue s = false) : tick s = { s with
    timebase := s.timebase + 1
    port := { s.port with timer := tickTimer s.port.timer }
    link := { s.link with syncTimer := tickTimer s.link.syncTimer, initTimer := tickTimer s.link.initTimer }
    tx := { s.tx with ackTimer := tickTimer s.tx.ackTimer }
    land := { s.land with
      ackDelay := tickTimer s.land.ackDelay
      heldRead := s.land.heldRead.map (fun h => { h with timer := h.timer - 1 }) }
    cred := { s.cred with refresh := tickTimer s.cred.refresh } } :=
  have runs : ¬ (s.resetLow || anyTimerDue s) = true := Bool.eq_false_iff.mp (Bool.or_eq_false_iff.mpr ⟨on, hd⟩)
  if_neg runs

end

/-- Settles O1: the two cases of the queue. -/
theorem stepTakesFront : Obligations.StepTakesFront :=
  ⟨fun _ _ _ => step_of_pending_cons, fun _ => step_of_pending_nil⟩

/-- Settles O2: a step on an empty queue is a tick, which either stands still or passes. -/
theorem idleMicrosecond : Obligations.IdleMicrosecond := by
  intro s hp
  rw [step_of_pending_nil hp]
  refine ⟨fun h => ?_, fun on hd => ?_⟩
  · rw [tick_stopped h]
  · rw [tick_passes on hd]
    rfl

end Sys2Proof.Machine
